-- ==== Sys2Proof/Word.lean ====
section
/-! DEFINITION. The words the manual treats as bits: bytes of frames and messages, the 16-bit check value and counters that
wrap, the 32-bit seconds and event values. Everything the manual counts or measures is a Nat or an Int instead. -/

namespace Sys2Proof

/-- One byte on the Bay Link, the Town Line or in the configuration memory. -/
abbrev Byte := BitVec 8

/-- A 16-bit field, the check value of R83, the sequence numbers of R156. -/
abbrev Half := BitVec 16

/-- A 32-bit field: the seconds clock (R169) and the values of an event record (R154). -/
abbrev Word := BitVec 32

end Sys2Proof
end

