-- ==== Sys2Proof/Syntax.lean ====
section
/-! DEFINITION. The commands of the PD-46: the coded names of the manual, the contents of a Bay Link REPORT, and one constructor of
`Instr` for each row of spec/opcode_table.json. -/

namespace Sys2Proof

/-- A station number, 0 to 7 (R170). -/
abbrev Station := Fin 8

/-- The two level channels (chapter 1). -/
inductive ChannelId where
  | w | x
  deriving DecidableEq, Repr

/-- The ten digital inputs of the terminal list (00_scope.md), the straps and the reset line apart. -/
inductive Pin where
  | dhh | dll | drun | dflt | dsh | dsa | dgen | dcam | dovl | dack
  deriving DecidableEq, Repr

/-- The two floats (R33). -/
inductive FloatId where
  | highHigh | lowLow
  deriving DecidableEq, Repr

/-- The two selector contacts, H on DSH and A on DSA (R44). -/
inductive Contact where
  | hand | auto
  deriving DecidableEq, Repr

/-- Pump states, in the order of their codes (section 4.7). -/
inductive PumpState where
  | unconfigured | startup | off | hand | tripped | inhibited | lockout | idle | waiting | claiming | starting | running | stopping
  deriving DecidableEq, Repr

/-- Level qualities, in the order of their codes (section 4.7, R10). -/
inductive Quality where
  | good | lowSat | highSat | held | invalid
  deriving DecidableEq, Repr

/-- Outcomes of a claim, in the order of their codes (section 4.7). -/
inductive ClaimOutcome where
  | started | failed | withdrawn
  deriving DecidableEq, Repr

/-- Screen conditions, in the order of their codes (section 4.7, R123). -/
inductive ScreenCondition where
  | clear | loaded | blinded | unknown
  deriving DecidableEq, Repr

/-- Rake states, in the order of their codes (section 4.7). -/
inductive RakeState where
  | rakeOff | rakeIdle | forward | clearing | pause | jammed | fault
  deriving DecidableEq, Repr

/-- Spill states, in the order of their codes (section 4.7). -/
inductive SpillState where
  | none | confirming | spilling | ending
  deriving DecidableEq, Repr

/-- Command codes 1 to 5 (section 4.7, R164). -/
inductive CommandCode where
  | resetTrip | rakeNow | resetRake | inhibit | release
  deriving DecidableEq, Repr

/-- The screen section of a REPORT, 5 bytes (section 4.7). -/
structure ScreenSection where
  condition : ScreenCondition
  rake : RakeState
  /-- Differential in mm, two's complement; -32,768 while the condition is UNKNOWN. -/
  delta : Half
  limit : Byte
  deriving DecidableEq, Repr

/-- The weir section of a REPORT, 8 bytes (section 4.7). -/
structure WeirSection where
  state : SpillState
  /-- Head in mm, two's complement. -/
  head : Half
  number : Half
  /-- Volume in cubic metres. -/
  volume : BitVec 24
  deriving DecidableEq, Repr

/-- The contents of a REPORT (section 4.7). The two section-present flags of byte 1 are the presence of the sections. -/
structure Report where
  sequence : Byte
  configured : Bool
  timeSync : Bool
  isolated : Bool
  generator : Bool
  inhibited : Bool
  flowing : Bool
  pumpState : PumpState
  quality : Quality
  /-- W level in mm, two's complement. -/
  level : Half
  runHours : Half
  ratedFlow : Half
  summary : Byte
  demand : BitVec 4
  effective : BitVec 4
  screen : Option ScreenSection
  weir : Option WeirSection
  deriving DecidableEq, Repr

/-- Where a town command reaches the station from (R164): a COMMAND request of the Town Line with its address byte, or a Bay Link
COMMAND frame with its sender. Both carry the target mask and the argument, which no code uses. -/
inductive CommandSource where
  | town (address : Byte) (mask : Byte) (argument : Byte)
  | bayLink (sender : Station) (mask : Byte) (argument : Byte)
  deriving DecidableEq, Repr

/-- The commands, one constructor per row of spec/opcode_table.json, in the table's order. -/
inductive Instr where
  /-- FULL_START (R168): power-on or a low level on NRST. -/
  | fullStart
  /-- LOADING_END (R170): the straps, and what each read attempt of the image and of the hours word delivered over the I2C line
  (`none`: a byte was not acknowledged). -/
  | loadingEnd (st0 st1 st2 : Bool) (imageReads hoursReads : List (Option (List Byte)))
  /-- LISTENING_END (R174). -/
  | listeningEnd
  /-- TOWN_RESTART (R168): the last byte of the RESTART answer has been sent. -/
  | townRestart
  /-- SECONDS_CLOCK_TICK (R169). -/
  | secondsClockTick
  /-- SPILL_CONFIRM (R138): the tick that confirms. -/
  | spillConfirm
  /-- SPILL_CLOSE (R140): the tick that closes. -/
  | spillClose
  /-- RUN_HOURS_RISE (R63): the tick at which the run hours rise. -/
  | runHoursRise
  /-- HOURS_WRITE_COMPLETE (R63): a write of the hours word ends, every byte acknowledged or not. -/
  | hoursWriteComplete (acknowledged : Bool)
  /-- SAMPLE_EVENT (R1): the current at the converter in microamperes, before its clamp. -/
  | sampleEvent (ch : ChannelId) (conversion : Int)
  /-- SETTLING_END (R3): the second discard. -/
  | settlingEnd (ch : ChannelId)
  /-- CHECK_END (R15): the sample event of period 6. -/
  | checkEnd (ch : ChannelId)
  /-- CHECK_TIMER_EXPIRY (R14). -/
  | checkTimerExpiry (ch : ChannelId)
  /-- FAULT_HOLD_EXPIRY (R12). -/
  | faultHoldExpiry (ch : ChannelId)
  /-- DISAGREE_TIMER_EXPIRY (R23). -/
  | disagreeTimerExpiry
  /-- BALANCE_EVENT (R26). -/
  | balanceEvent
  /-- INVALID_HOLD_EXPIRY (R36). -/
  | invalidHoldExpiry
  /-- INPUT_LEVEL_CHANGE (R44): a raw digital input takes a level. -/
  | inputLevelChange (pin : Pin) (level : Bool)
  /-- FLOAT_DEBOUNCE_EXPIRY (R33). -/
  | floatDebounceExpiry (f : FloatId)
  /-- RUN_FB_FILTER_EXPIRY (R53). -/
  | runFbFilterExpiry
  /-- FAULT_CONTACT_DEBOUNCE_EXPIRY (R59). -/
  | faultContactDebounceExpiry
  /-- SELECTOR_CONTACT_DEBOUNCE_EXPIRY (R44). -/
  | selectorContactDebounceExpiry (c : Contact)
  /-- SELECTOR_OFF_HOLD_EXPIRY (R44). -/
  | selectorOffHoldExpiry
  /-- LOCKOUT_END (R49). -/
  | lockoutEnd
  /-- FEEDBACK_TIMER_EXPIRY (R53). -/
  | feedbackTimerExpiry
  /-- SETTLE_TIMER_EXPIRY (R53). -/
  | settleTimerExpiry
  /-- LOSS_TIMER_EXPIRY (R58). -/
  | lossTimerExpiry
  /-- MINIMUM_RUN_REACHED (R55). -/
  | minimumRunReached
  /-- STOP_SPACING_EXPIRY (R55). -/
  | stopSpacingExpiry
  /-- STRAY_RUN_EXPIRY (R57). -/
  | strayRunExpiry
  /-- STAGGER_TIMER_EXPIRY (R64). -/
  | staggerTimerExpiry
  /-- RESET_TRIP (R60). -/
  | resetTrip (src : CommandSource)
  /-- INHIBIT (R61). -/
  | inhibit (src : CommandSource)
  /-- RELEASE (R61). -/
  | release (src : CommandSource)
  /-- RAKE_NOW (R132). -/
  | rakeNow (src : CommandSource)
  /-- RESET_RAKE (R132). -/
  | resetRake (src : CommandSource)
  /-- TRANSMIT_SLOT (R70): slot `slot` of the deferral begins, the line idle until then. -/
  | transmitSlot (slot : Nat)
  /-- FRAME_SENT (R74). -/
  | frameSent
  /-- ECHO_FAILURE (R72). -/
  | echoFailure
  /-- TX_FAILURE_TIMER_EXPIRY (R73). -/
  | txFailureTimerExpiry
  /-- REPORT_TIMER_EXPIRY (R78). -/
  | reportTimerExpiry
  /-- BAD_FRAME (R80): the characters heard between two idle gaps, and whether one had a framing error. -/
  | badFrame (bytes : List Byte) (framingError : Bool)
  /-- OWN_NUMBER_FRAME (R82). -/
  | ownNumberFrame
  /-- DUPLICATE_TIMER_EXPIRY (R82). -/
  | duplicateTimerExpiry
  /-- REPORT (R88): a good REPORT. -/
  | report (sender : Station) (r : Report)
  /-- START_CLAIM (R107): a good START CLAIM. -/
  | startClaim (sender : Station) (number : Byte) (hours : Half)
  /-- START_DONE (R109): a good START DONE. -/
  | startDone (sender : Station) (number : Byte) (outcome : ClaimOutcome)
  /-- TIME_FRAME (R165): a good Bay Link TIME frame. -/
  | timeFrame (sender : Station) (seconds : Word)
  /-- ENTRY_BECOMES_STALE (R86). -/
  | entryBecomesStale (peer : Station)
  /-- ENTRY_BECOMES_LOST (R86). -/
  | entryBecomesLost (peer : Station)
  /-- LOST_RELEASE_EXPIRY (R91). -/
  | lostReleaseExpiry (peer : Station)
  /-- PEER_SILENCE_EXPIRY (R97). -/
  | peerSilenceExpiry
  /-- GENERATOR_DEBOUNCE_EXPIRY (R94). -/
  | generatorDebounceExpiry
  /-- PATIENCE_RUN_OUT (R105). -/
  | patienceRunOut
  /-- CLAIM_HOLD_EXPIRY (R115). -/
  | claimHoldExpiry
  /-- WINDOW_TIMER_EXPIRY (R112). -/
  | windowTimerExpiry
  /-- CAM_FILTER_EXPIRY (R128). -/
  | camFilterExpiry
  /-- OVERLOAD_FILTER_EXPIRY (R129). -/
  | overloadFilterExpiry
  /-- CAM_CHECK_EXPIRY (R128). -/
  | camCheckExpiry
  /-- REVERSE_TIMER_EXPIRY (R129). -/
  | reverseTimerExpiry
  /-- PAUSE_TIMER_EXPIRY (R129). -/
  | pauseTimerExpiry
  /-- CYCLE_TIMEOUT (R131). -/
  | cycleTimeout
  /-- REST_TIMER_EXPIRY (R127). -/
  | restTimerExpiry
  /-- INTERVAL_TIMER_EXPIRY (R126). -/
  | intervalTimerExpiry
  /-- PANEL_ACKNOWLEDGE (R150). -/
  | panelAcknowledge
  /-- UNSERVED_TOWN_MESSAGE (R160): the characters heard between two silences, whether one had a framing error, and whether the
  ending silence fell while the port was still sending an answer (R159). -/
  | unservedTownMessage (bytes : List Byte) (framingError : Bool) (overlapping : Bool)
  /-- FETCH (R161). -/
  | fetch (address : Byte) (toggle : Bool)
  /-- STATUS (R162), with its optional page byte. -/
  | status (address : Byte) (page : Option Byte)
  /-- HOUSE (R162). -/
  | house (address : Byte)
  /-- SPILLS (R162). -/
  | spills (address : Byte) (index : Byte)
  /-- ACK (R163). -/
  | ack (address : Byte) (point : Byte)
  /-- TIME (R165). -/
  | time (address : Byte) (seconds : Word)
  /-- RESTART (R166). -/
  | restart (address : Byte)
  /-- TOWN_SILENCE_EXPIRY (R167). -/
  | townSilenceExpiry
  /-- FIRST_IDLE_GAP (R68). -/
  | firstIdleGap
  /-- ACKNOWLEDGE_INPUT_RELEASED (R150). -/
  | acknowledgeInputReleased
  deriving DecidableEq, Repr

end Sys2Proof
end

