-- ==== Sys2Proof/Machine/Arith.lean ====
section
/-! DEFINITION. The arithmetic the manual names: its rounding terms, saturation and clamping, the whole-number square root of R141, the
byte order of section 4.7 and the check value of R83. -/

namespace Sys2Proof.Machine

/-- Round half up (Conventions): the nearest integer of `num / den`, an exact half toward plus infinity. -/
def roundHalfUp (num : Int) (den : Nat) : Int :=
  (2 * num + den) / (2 * den)

/-- Truncate (Conventions): the fraction is dropped toward zero. -/
def truncDiv (num : Int) (den : Nat) : Int :=
  num.tdiv den

/-- Floor (Conventions), for a positive denominator. -/
def floorDiv (num : Int) (den : Nat) : Int :=
  num / (den : Int)

/-- Ceil (Conventions), for naturals and a positive denominator. -/
def ceilDiv (num den : Nat) : Nat :=
  (num + (den - 1)) / den

/-- A value held between two limits. -/
def clampInt (lo hi v : Int) : Int :=
  max lo (min hi v)

/-- A saturating addition: it stops at the maximum. -/
def satAdd (limit a b : Nat) : Nat :=
  min limit (a + b)

/-- A saturating 16-bit counter rises by one. -/
def satInc16 (a : Nat) : Nat :=
  satAdd 65535 a 1

/-- The square root built bit by bit: the greatest `r` below `s + 2 ^ k` with `r * r ≤ n`, when `s` is one such. -/
def sqrtBits (n : Nat) : Nat → Nat → Nat
  | 0, s => s
  | k + 1, s => sqrtBits n k (if (s + 2 ^ k) * (s + 2 ^ k) ≤ n then s + 2 ^ k else s)

/-- The whole-number square root of R141, for arguments below 2 ^ 20 (the greatest is 300,000). -/
def wholeSqrt (n : Nat) : Nat :=
  sqrtBits n 10 0

/-- One shift of the check register (R83 step 2). -/
def crcShift (r : Half) : Half :=
  if r.getLsbD 0 then (r >>> 1) ^^^ 0x8408#16 else r >>> 1

/-- Eight shifts of the check register. -/
def crcShifts : Nat → Half → Half
  | 0, r => r
  | k + 1, r => crcShifts k (crcShift r)

/-- One byte into the check register (R83). -/
def crcByte (r : Half) (b : Byte) : Half :=
  crcShifts 8 (r ^^^ b.setWidth 16)

/-- The check value of a sequence of bytes (R83). -/
def crc (bytes : List Byte) : Half :=
  bytes.foldl crcByte 0xFFFF#16

/-- The two bytes of a 16-bit field, least significant first (section 4.7). -/
def halfBytes (h : Half) : List Byte :=
  [h.setWidth 8, (h >>> 8).setWidth 8]

/-- The three bytes of a 24-bit field, least significant first. -/
def tripleBytes (v : BitVec 24) : List Byte :=
  [v.setWidth 8, (v >>> 8).setWidth 8, (v >>> 16).setWidth 8]

/-- The four bytes of a 32-bit field, least significant first. -/
def wordBytes (w : Word) : List Byte :=
  [w.setWidth 8, (w >>> 8).setWidth 8, (w >>> 16).setWidth 8, (w >>> 24).setWidth 8]

/-- A 16-bit field from its two bytes. -/
def halfOf (b0 b1 : Byte) : Half :=
  b1 ++ b0

/-- A 24-bit field from its three bytes. -/
def tripleOf (b0 b1 b2 : Byte) : BitVec 24 :=
  b2 ++ (b1 ++ b0)

/-- A 32-bit field from its four bytes. -/
def wordOf (b0 b1 b2 b3 : Byte) : Word :=
  b3 ++ (b2 ++ (b1 ++ b0))

/-- A run of bytes followed by its check value, low byte first (R83). -/
def withCheck (bytes : List Byte) : List Byte :=
  bytes ++ halfBytes (crc bytes)

/-- One bit of a flag byte. -/
def flagBit (set : Bool) (place : Nat) : Nat :=
  if set then 2 ^ place else 0

/-- A byte of eight flags, bit `g` set where `f g` is. -/
def flagByte (f : Nat → Bool) : Byte :=
  BitVec.ofNat 8 (flagBit (f 0) 0 + flagBit (f 1) 1 + flagBit (f 2) 2 + flagBit (f 3) 3 + flagBit (f 4) 4 + flagBit (f 5) 5
    + flagBit (f 6) 6 + flagBit (f 7) 7)

end Sys2Proof.Machine
end

