-- ==== Sys2Proof/Config.lean ====
section
/-! DEFINITION. The parameters of the configuration image (section 11.5), as the blocks read them, and the fixed set of R173. The manual
leaves no value of the part open, so there is no free value here. -/

namespace Sys2Proof

/-- The use of channel X (section 1.1). -/
inductive XRole where
  | none | screen | weir
  deriving DecidableEq, Repr

/-- The parameters of one level channel (section 1.1). -/
structure ChannelSettings where
  /-- Level at 4 mA, mm. -/
  datum : Int
  /-- Level difference from 4 mA to 20 mA, mm. -/
  span : Nat
  /-- Step limit, mm; 0 is off. -/
  stepLimit : Nat
  /-- Fault hold time, s. -/
  faultHold : Nat
  /-- Self-check interval, min; 0 is off. -/
  checkInterval : Nat
  deriving DecidableEq, Repr

/-- The parameters of the image, in the order of section 11.5. -/
structure Settings where
  role : XRole
  channelW : ChannelSettings
  channelX : ChannelSettings
  /-- mm -/
  disagreeLimit : Nat
  /-- B, s -/
  balanceInterval : Nat
  /-- half-seconds -/
  floatDebounce : Nat
  /-- s -/
  invalidHold : Nat
  fallbackDemand : Nat
  utilityLimit : Nat
  generatorLimit : Nat
  /-- mm -/
  riskLevel : Int
  /-- L/s -/
  ratedFlow : Nat
  /-- T, mm -/
  trendArm : Int
  /-- Qref, L/s -/
  referenceFlow : Nat
  /-- Volume table: (level in mm, volume in L), ascending. -/
  volumeTable : List (Int × Nat)
  /-- Bands: (start level, stop level) in mm, band 1 first. -/
  bands : List (Int × Int)
  /-- s -/
  minimumOff : Nat
  /-- s -/
  stormLockout : Nat
  /-- s -/
  feedbackTime : Nat
  /-- s -/
  startSettle : Nat
  /-- s -/
  minimumRun : Nat
  /-- s -/
  stopSpacing : Nat
  isolatedPosition : Nat
  /-- ms -/
  reportInterval : Nat
  /-- s -/
  lostRelease : Nat
  houseSize : Nat
  screenLostLimit : Nat
  /-- A station number, or 8 for none. -/
  houseReporter : Nat
  /-- ms -/
  claimHold : Nat
  /-- s -/
  windowLimit : Nat
  /-- s -/
  patience : Nat
  /-- Rake level, mm -/
  rakeLevel : Int
  /-- Blind level, mm -/
  blindLevel : Int
  /-- Blind clear, mm -/
  blindClear : Int
  blindedLimit : Nat
  unknownLimit : Nat
  /-- min; 0 is off -/
  rakeInterval : Nat
  /-- s -/
  rest : Nat
  /-- s -/
  cycleTimeout : Nat
  /-- s -/
  reverseTime : Nat
  /-- mm -/
  crestLevel : Int
  /-- Km -/
  weirFactor : Nat
  /-- mm -/
  startMargin : Int
  /-- s -/
  confirmTime : Nat
  /-- mm -/
  endMargin : Int
  /-- s -/
  endTime : Nat
  lampMask : Word
  classMask : Byte
  townAddress : Byte
  /-- bit/s -/
  bitRate : Nat
  remote : Bool
  /-- s; 0 is off -/
  townTimeout : Nat
  deriving DecidableEq, Repr

/-- The parameters of a channel that is not configured: the defaults of section 1.1, and 0 and the least span where there is none. -/
def ChannelSettings.unset : ChannelSettings :=
  { datum := 0, span := 500, stepLimit := 300, faultHold := 10, checkInterval := 60 }

/-- The settings in use in CONFIG_FAULT (R173): report interval 500 ms, X role NONE, every point lamp-enabled, every class taken, remote
operation disabled, town address 200 plus the station number at 9,600 bit/s, town timeout 300 s. The other figures are the
parameters' defaults where there is one; no block reads them in CONFIG_FAULT. -/
def Settings.configFault (station : Station) : Settings :=
  { role := .none, channelW := .unset, channelX := .unset,
    disagreeLimit := 300, balanceInterval := 10, floatDebounce := 4, invalidHold := 120, fallbackDemand := 1,
    utilityLimit := 4, generatorLimit := 2, riskLevel := 0, ratedFlow := 0, trendArm := 0, referenceFlow := 1,
    volumeTable := [], bands := [],
    minimumOff := 300, stormLockout := 60, feedbackTime := 3, startSettle := 5, minimumRun := 120, stopSpacing := 15,
    isolatedPosition := station.val + 1,
    reportInterval := 500, lostRelease := 60, houseSize := 2, screenLostLimit := 8, houseReporter := 0,
    claimHold := 400, windowLimit := 20, patience := 5,
    rakeLevel := 150, blindLevel := 400, blindClear := 300, blindedLimit := 2, unknownLimit := 8, rakeInterval := 30,
    rest := 60, cycleTimeout := 90, reverseTime := 4,
    crestLevel := 0, weirFactor := 100, startMargin := 20, confirmTime := 30, endMargin := 10, endTime := 300,
    lampMask := BitVec.allOnes 32, classMask := BitVec.allOnes 8,
    townAddress := BitVec.ofNat 8 (200 + station.val), bitRate := 9600, remote := false, townTimeout := 300 }

end Sys2Proof
end

