-- ==== Sys2Proof/Machine/State.lean ====
section
/-! DEFINITION. The state of the PD-46: every item the chapters give its blocks, as plain data, and the state after a full start. The
reset values and their rules are listed in INVENTORY.md. -/

namespace Sys2Proof.Machine

/-- A timer of the manual: stopped, running with its reading in milliseconds, or at its limit ("has reached", "run out", "at or past",
"over"). -/
inductive Timer where
  | stopped
  | running (ms : Nat)
  /-- Running from 0: the interval timer, restarted by the start of a cycle at the very instant at which it stood at its limit. The expiry of that
  instant is still to come (R133). -/
  | renewed
  | reached
  deriving DecidableEq, Repr

/-- A filtered or debounced input (Conventions): its present state and the timer that runs while the raw level differs from it. -/
structure Filter where
  active : Bool
  timer : Timer
  deriving DecidableEq, Repr

/-- A reading of the seconds clock, with the synchronised flag it had. -/
structure Stamp where
  seconds : Word
  sync : Bool
  deriving DecidableEq, Repr

/-- Raw levels of the digital inputs (terminal list); `true` is active. -/
structure Pins where
  dhh : Bool
  dll : Bool
  drun : Bool
  dflt : Bool
  dsh : Bool
  dsa : Bool
  dgen : Bool
  dcam : Bool
  dovl : Bool
  dack : Bool
  deriving DecidableEq, Repr

/-- Start states, in the order of chapter 11. -/
inductive StartState where
  | loading | listening | operating | configFault
  deriving DecidableEq, Repr

/-- The start-up unit (chapter 11). -/
structure StartUnit where
  phase : StartState
  station : Station
  settings : Settings
  listening : Timer
  deriving DecidableEq, Repr

/-- The seconds clock (R169) and the milliseconds since it last advanced. -/
structure Clock where
  seconds : Word
  sync : Bool
  subMs : Nat
  deriving DecidableEq, Repr

/-- Phases of a level channel (R1). -/
inductive ChannelPhase where
  | stopped | settling | sampling | checking
  deriving DecidableEq, Repr

/-- Quality of an accepted sample (R4). -/
inductive SampleQuality where
  | good | lowSat | highSat
  deriving DecidableEq, Repr

/-- Fault condition of a channel (R11, R12). -/
inductive FaultCondition where
  | clear | holding | expired
  deriving DecidableEq, Repr

/-- A level channel (section 1.1). The fault flag of R13 is `fault ≠ clear`; the quality is `Channel.quality`. -/
structure Channel where
  phase : ChannelPhase
  discard : Nat
  /-- The check period whose sample event came last, while CHECKING. -/
  period : Nat
  firstRef : Int
  /-- The quality was INVALID when the present check began (R10). -/
  heldInvalid : Bool
  offset : Int
  /-- The averaging window, oldest first: empty or eight levels. -/
  samples : List Int
  level : Option Int
  /-- The level and the quality offered at the end of the latest sample event (R1). -/
  offeredLevel : Option Int
  offeredQuality : Quality
  newest : SampleQuality
  fault : FaultCondition
  hold : Timer
  consecutive : Nat
  rejects : Nat
  check : Timer
  checkFlag : Bool
  deriving DecidableEq, Repr

/-- The balance unit (section 2.1). Its raw conditions are those of its alarm points. -/
structure Balance where
  /-- H; `none` is INVALID. -/
  level : Option Int
  volume : Nat
  volumePrev : Nat
  outflowPrev : Nat
  prevValid : Bool
  inflow : Nat
  smoothed : Nat
  firstEstimate : Bool
  age : Nat
  low : Bool
  high : Bool
  band : Nat
  trend : Nat
  demand : Nat
  held : Nat
  invalidHold : Timer
  limit : Nat
  effective : Nat
  disagree : Timer
  timer : Timer
  deriving DecidableEq, Repr

/-- The float inputs (R33). -/
structure Floats where
  highHigh : Filter
  lowLow : Filter
  deriving DecidableEq, Repr

/-- Selector positions (R44). -/
inductive Position where
  | off | hand | auto
  deriving DecidableEq, Repr

/-- Causes held by the trip latch (R60). -/
inductive TripCause where
  | pumpFault | startFail | runLost | contactorStuck
  deriving DecidableEq, Repr

/-- The write of the hours word (R63): IDLE, or WRITING with the three bytes on the I2C line and the memory address of the first. -/
inductive HoursWrite where
  | idle
  | writing (address : Nat) (word : List Byte)
  deriving DecidableEq, Repr

/-- The pump sequencer (section 3.1). The run hours are `runSeconds / 3600` (R62). -/
structure Pump where
  state : PumpState
  /-- Contactor output QK, closed when `true`. -/
  contactor : Bool
  position : Position
  latch : Option TripCause
  inhibit : Bool
  lockout : Timer
  feedback : Timer
  settle : Timer
  run : Timer
  loss : Timer
  stray : Timer
  spacing : Timer
  stagger : Timer
  closedSeconds : Nat
  runSeconds : Nat
  startCount : Nat
  hoursWrite : HoursWrite
  hoursPending : Bool
  /-- CONFIG_WRITE as its owner holds it (R63, R172). -/
  configWrite : Bool
  runFb : Filter
  faultContact : Filter
  contactHand : Filter
  contactAuto : Filter
  /-- Time a contact combination giving OFF has held (R44). -/
  offHold : Timer
  deriving DecidableEq, Repr

/-- A frame offered to the transmit queue (R75). TIME and REPORT are built at each attempt. -/
inductive TxBody where
  | startClaim (number : Byte) (hours : Half)
  | startDone (number : Byte) (outcome : ClaimOutcome)
  | command (mask : Byte) (code : CommandCode) (argument : Byte)
  | time
  | report
  deriving DecidableEq, Repr

/-- An entry of the transmit queue: its frame, its attempt count and, for a REPORT already attempted, its number (R78). -/
structure TxEntry where
  body : TxBody
  attempts : Nat
  sequence : Option Byte
  deriving DecidableEq, Repr

/-- The contents of a Bay Link frame (section 4.7). -/
inductive FrameBody where
  | report (r : Report)
  | startClaim (number : Byte) (hours : Half)
  | startDone (number : Byte) (outcome : ClaimOutcome)
  | time (seconds : Word)
  | command (mask : Byte) (code : CommandCode) (argument : Byte)
  deriving DecidableEq, Repr

/-- The Bay Link port (R68). -/
structure Link where
  /-- The transmit queue, in class order. -/
  queue : List TxEntry
  /-- An offer of the kind being transmitted, held until the attempt ends (R76). -/
  heldOffer : Option TxBody
  /-- A START CLAIM held back behind a START DONE: its number and hours (R77). -/
  heldClaim : Option (Byte × Half)
  /-- A closing that waits for the end of the START CLAIM's transmission: its number and outcome (R77, R117). -/
  closing : Option (Byte × ClaimOutcome)
  /-- The frame being transmitted. -/
  sending : Option FrameBody
  /-- The first idle gap has passed, so the receiver takes frames (R68). -/
  listening : Bool
  lastSender : Station
  sequence : Byte
  rxErrors : Nat
  txErrors : Nat
  duplicate : Timer
  failure : Timer
  report : Timer
  deriving DecidableEq, Repr

/-- Entry states of the peer table (R86). -/
inductive EntryState where
  | empty | fresh | stale | lost
  deriving DecidableEq, Repr

/-- An entry of the peer table (section 5.1). -/
structure PeerEntry where
  state : EntryState
  last : Option Report
  age : Timer
  release : Timer
  missed : Nat
  lastHeard : Option Stamp
  lostAt : Option Stamp
  deriving DecidableEq, Repr

/-- Isolation causes (section 5.1). -/
inductive IsolationCause where
  | none | silence | duplicate
  deriving DecidableEq, Repr

/-- House supply (R94). -/
inductive Supply where
  | utility | generator
  deriving DecidableEq, Repr

/-- The peer table (section 5.1). -/
structure PeerTable where
  entries : Vector PeerEntry 8
  isolated : Bool
  cause : IsolationCause
  silence : Timer
  generator : Filter
  /-- C -/
  drawing : Nat
  /-- A -/
  available : Nat
  supply : Supply
  /-- Slim -/
  screenLimit : Nat
  deriving DecidableEq, Repr

/-- A duty key (Conventions): run hours, then station number. -/
structure DutyKey where
  hours : Nat
  station : Station
  deriving DecidableEq, Repr

/-- The window view (section 6.1). A claim number of `none` is UNKNOWN. -/
inductive WindowView where
  | free
  | held (holder : Station) (number : Option Byte) (best : DutyKey) (timer : Timer)
  | own
  deriving DecidableEq, Repr

/-- Phases of the own claim (section 6.1). -/
inductive ClaimPhase where
  | none | pending | holding | granted
  deriving DecidableEq, Repr

/-- The start window (section 6.1). -/
structure Window where
  view : WindowView
  claim : ClaimPhase
  number : Byte
  key : Option DutyKey
  hold : Timer
  patience : Timer
  /-- The present STARTING was entered through a claim (R65). -/
  viaClaim : Bool
  deriving DecidableEq, Repr

/-- Causes of a rake trigger (R125), in the order of their codes (R134). -/
inductive RakeCause where
  | level | interval | command
  deriving DecidableEq, Repr

/-- The screen unit (section 7.1). -/
structure Screen where
  /-- Differential; `none` is INVALID. -/
  delta : Option Int
  condition : ScreenCondition
  limit : Nat
  rake : RakeState
  /-- QFW, closed when `true`. -/
  forwardOut : Bool
  /-- QRV, closed when `true`. -/
  reverseOut : Bool
  pendingFlag : Bool
  pendingCause : RakeCause
  cycleCause : RakeCause
  overloads : Nat
  cycle : Timer
  camCheck : Timer
  reverse : Timer
  pause : Timer
  camArmed : Bool
  rest : Timer
  interval : Timer
  cycles : Nat
  overloadCount : Nat
  cam : Filter
  overload : Filter
  deriving DecidableEq, Repr

/-- A spill record (section 8.1); the provisional record has number 0. -/
structure SpillRecord where
  number : Nat
  start : Stamp
  stop : Option Stamp
  elapsed : Nat
  duration : Option Nat
  volume : Nat
  peak : Int
  gap : Nat
  gapFlag : Bool
  cut : Bool
  isOpen : Bool
  deriving DecidableEq, Repr

/-- The spill monitor (section 8.1). The spill list is `closed`, followed by the working record while that is open. -/
structure SpillMonitor where
  head : Option Int
  state : SpillState
  confirmCount : Nat
  endCount : Nat
  working : Option SpillRecord
  number : Nat
  closed : List SpillRecord
  discards : Nat
  lastFlow : Option Nat
  lastClamped : Bool
  deriving DecidableEq, Repr

/-- The 25 alarm points, in the order of their numbers (section 9.1). -/
inductive AlarmPoint where
  | wFault | xFault | wCheck | xCheck | levelDisagree | houseLevelLost | hhFloat | llFloat | floatConflict | selectorFault | pumpFault
  | startFail | runLost | contactorStuck | rakeJammed | rakeFault | screenBlinded | spilling | overflowRisk | onGenerator | isolated
  | duplicateId | bayTxFail | townSilent | configWrite
  deriving DecidableEq, Repr

/-- Annunciator states, in the order of their codes (R153). -/
inductive Annunciator where
  | normal | alert | standing | returned
  deriving DecidableEq, Repr

/-- One alarm point: its raw condition as last delivered and its annunciator state. -/
structure PointState where
  raw : Bool
  ann : Annunciator
  deriving DecidableEq, Repr

/-- The alarm block (R148). -/
structure Alarms where
  points : Vector PointState 25
  /-- Horn relay QHN, closed when `true`. -/
  horn : Bool
  /-- Beacon relay QBC, closed when `true`. -/
  beacon : Bool
  summary : Byte
  ack : Filter
  deriving DecidableEq, Repr

/-- Event kinds, in the order of their codes 1 to 19 (R154). -/
inductive EventKind where
  | alarmChange | balanceLow | started | stopped | tripped | rakeDone | rakeJammed | rakeFault | spillStart | spillEnd
  | peerJoined | peerLost | peerAlarm | peerSpillEnd | windowTimeout | timeSet | commandApplied | queueOverflow | configFault
  deriving DecidableEq, Repr

/-- An event record (R154). -/
structure EventRecord where
  sequence : Half
  time : Word
  sync : Bool
  kind : EventKind
  source : Station
  subject : Byte
  values : List Word
  deriving DecidableEq, Repr

/-- The event queue (R156, R157), oldest record first. -/
structure EventQueue where
  records : List EventRecord
  counter : Half
  overflow : Nat
  deriving DecidableEq, Repr

/-- An answer on the Town Line (R159). -/
structure TownAnswer where
  address : Byte
  kind : Byte
  toggle : Bool
  payload : List Byte
  deriving DecidableEq, Repr

/-- The Town Line port (chapter 10). -/
structure Town where
  toggle : Bool
  sent : Bool
  silence : Timer
  /-- The answer to the latest message heard; `none` where it got none. -/
  answer : Option TownAnswer
  /-- A RESTART has been answered and its answer is going out (R166). -/
  restarting : Bool
  deriving DecidableEq, Repr

/-- The whole state of the part, and the queue of commands that wait. -/
structure State where
  start : StartUnit
  clock : Clock
  pins : Pins
  chanW : Channel
  chanX : Channel
  balance : Balance
  floats : Floats
  pump : Pump
  link : Link
  table : PeerTable
  window : Window
  screen : Screen
  spill : SpillMonitor
  alarms : Alarms
  events : EventQueue
  town : Town
  pending : List Instr
  deriving DecidableEq, Repr

/-- Why the machine could stop with a fault. The part has no such condition (INVENTORY.md, Faults), so there is no constructor and
nothing raises one. -/
inductive Fault where
  deriving DecidableEq, Repr

/-- Why a command could have no meaning. -/
inductive Refusal where
  /-- Raised only by an arm of `exec` for a command without a meaning, naming its row; no arm does. Safe: the machine stops. -/
  | notModelled (mnemonic : String)
  deriving DecidableEq, Repr

/-- A filter at its inactive state, its timer stopped. -/
def Filter.reset : Filter := { active := false, timer := .stopped }

/-- R2. -/
def Channel.reset : Channel :=
  { phase := .stopped, discard := 0, period := 1, firstRef := 0, heldInvalid := false, offset := 0, samples := [], level := none,
    offeredLevel := none, offeredQuality := .invalid, newest := .good, fault := .clear, hold := .stopped, consecutive := 0, rejects := 0,
    check := .stopped, checkFlag := false }

/-- R20. -/
def Balance.reset : Balance :=
  { level := none, volume := 0, volumePrev := 0, outflowPrev := 0, prevValid := false, inflow := 0, smoothed := 0, firstEstimate := true,
    age := 0, low := false, high := false, band := 0, trend := 0, demand := 0, held := 0, invalidHold := .stopped, limit := 0,
    effective := 0, disagree := .stopped, timer := .stopped }

/-- R45. -/
def Pump.reset : Pump :=
  { state := .startup, contactor := false, position := .off, latch := none, inhibit := false, lockout := .stopped, feedback := .stopped,
    settle := .stopped, run := .stopped, loss := .stopped, stray := .stopped, spacing := .stopped, stagger := .stopped,
    closedSeconds := 0, runSeconds := 0, startCount := 0, hoursWrite := .idle, hoursPending := false, configWrite := false,
    runFb := .reset, faultContact := .reset, contactHand := .reset, contactAuto := .reset, offHold := .stopped }

/-- R68. -/
def Link.reset : Link :=
  { queue := [], heldOffer := none, heldClaim := none, closing := none, sending := none, listening := false, lastSender := 7,
    sequence := 0, rxErrors := 0, txErrors := 0, duplicate := .stopped, failure := .stopped, report := .stopped }

/-- R85, one entry. -/
def PeerEntry.reset : PeerEntry :=
  { state := .empty, last := none, age := .stopped, release := .stopped, missed := 0, lastHeard := none, lostAt := none }

/-- R85. -/
def PeerTable.reset : PeerTable :=
  { entries := Vector.replicate 8 .reset, isolated := false, cause := .none, silence := .stopped, generator := .reset, drawing := 0,
    available := 0, supply := .utility, screenLimit := 8 }

/-- R103. -/
def Window.reset : Window :=
  { view := .free, claim := .none, number := 0, key := none, hold := .stopped, patience := .stopped, viaClaim := false }

/-- R121; the unknown limit is its default until an image has been checked. -/
def Screen.reset : Screen :=
  { delta := none, condition := .unknown, limit := 8, rake := .rakeOff, forwardOut := false, reverseOut := false, pendingFlag := false,
    pendingCause := .level, cycleCause := .level, overloads := 0, cycle := .stopped, camCheck := .stopped, reverse := .stopped,
    pause := .stopped, camArmed := false, rest := .stopped, interval := .stopped, cycles := 0, overloadCount := 0, cam := .reset,
    overload := .reset }

/-- R135. -/
def SpillMonitor.reset : SpillMonitor :=
  { head := none, state := .none, confirmCount := 0, endCount := 0, working := none, number := 0, closed := [], discards := 0,
    lastFlow := none, lastClamped := false }

/-- R148. -/
def Alarms.reset : Alarms :=
  { points := Vector.replicate 25 { raw := false, ann := .normal }, horn := false, beacon := false, summary := 0, ack := .reset }

/-- R156. -/
def EventQueue.reset : EventQueue := { records := [], counter := 0, overflow := 0 }

/-- R159. -/
def Town.reset : Town := { toggle := false, sent := false, silence := .stopped, answer := none, restarting := false }

/-- Every input inactive: the levels of the pins lie outside the part. -/
def Pins.inactive : Pins :=
  { dhh := false, dll := false, drun := false, dflt := false, dsh := false, dsa := false, dgen := false, dcam := false, dovl := false,
    dack := false }

/-- The part after a full start (R168): LOADING, every block at its reset values, no command waiting. -/
def State.reset : State :=
  { start := { phase := .loading, station := 0, settings := .configFault 0, listening := .stopped },
    clock := { seconds := 0, sync := false, subMs := 0 },
    pins := .inactive, chanW := .reset, chanX := .reset, balance := .reset, floats := { highHigh := .reset, lowLow := .reset },
    pump := .reset, link := .reset, table := .reset, window := .reset, screen := .reset, spill := .reset, alarms := .reset,
    events := .reset, town := .reset, pending := [] }

end Sys2Proof.Machine
end

