-- ==== Sys2Proof/Machine/Codes.lean ====
section
/-! DEFINITION. The codes of coded fields: section 4.7 for the Bay Link, R154 for event kinds, R134 for rake causes, and R162's place in the
list of values for the rest. -/

namespace Sys2Proof.Machine

/-- Section 4.7. -/
def pumpStateCode : PumpState → Nat
  | .unconfigured => 0 | .startup => 1 | .off => 2 | .hand => 3 | .tripped => 4 | .inhibited => 5 | .lockout => 6 | .idle => 7
  | .waiting => 8 | .claiming => 9 | .starting => 10 | .running => 11 | .stopping => 12

/-- Section 4.7; a code outside the table names nothing (R80). -/
def pumpStateOf (code : Nat) : Option PumpState :=
  [PumpState.unconfigured, .startup, .off, .hand, .tripped, .inhibited, .lockout, .idle, .waiting, .claiming, .starting, .running,
    .stopping][code]?

/-- Section 4.7. -/
def qualityCode : Quality → Nat
  | .good => 0 | .lowSat => 1 | .highSat => 2 | .held => 3 | .invalid => 4

/-- Section 4.7. -/
def qualityOf (code : Nat) : Option Quality :=
  [Quality.good, .lowSat, .highSat, .held, .invalid][code]?

/-- Section 4.7. -/
def outcomeCode : ClaimOutcome → Nat
  | .started => 0 | .failed => 1 | .withdrawn => 2

/-- Section 4.7. -/
def outcomeOf (code : Nat) : Option ClaimOutcome :=
  [ClaimOutcome.started, .failed, .withdrawn][code]?

/-- Section 4.7. -/
def commandCode : CommandCode → Nat
  | .resetTrip => 1 | .rakeNow => 2 | .resetRake => 3 | .inhibit => 4 | .release => 5

/-- Section 4.7. -/
def commandOf : Nat → Option CommandCode
  | 1 => some .resetTrip
  | 2 => some .rakeNow
  | 3 => some .resetRake
  | 4 => some .inhibit
  | 5 => some .release
  | _ => none

/-- Section 4.7. -/
def screenConditionCode : ScreenCondition → Nat
  | .clear => 0 | .loaded => 1 | .blinded => 2 | .unknown => 3

/-- Section 4.7. -/
def screenConditionOf (code : Nat) : Option ScreenCondition :=
  [ScreenCondition.clear, .loaded, .blinded, .unknown][code]?

/-- Section 4.7. -/
def rakeStateCode : RakeState → Nat
  | .rakeOff => 0 | .rakeIdle => 1 | .forward => 2 | .clearing => 3 | .pause => 4 | .jammed => 5 | .fault => 6

/-- Section 4.7. -/
def rakeStateOf (code : Nat) : Option RakeState :=
  [RakeState.rakeOff, .rakeIdle, .forward, .clearing, .pause, .jammed, .fault][code]?

/-- Section 4.7. -/
def spillStateCode : SpillState → Nat
  | .none => 0 | .confirming => 1 | .spilling => 2 | .ending => 3

/-- Section 4.7. -/
def spillStateOf (code : Nat) : Option SpillState :=
  [SpillState.none, .confirming, .spilling, .ending][code]?

/-- R134. -/
def rakeCauseCode : RakeCause → Nat
  | .level => 0 | .interval => 1 | .command => 2

/-- R153. -/
def annunciatorCode : Annunciator → Nat
  | .normal => 0 | .alert => 1 | .standing => 2 | .returned => 3

/-- R154. -/
def eventCode : EventKind → Nat
  | .alarmChange => 1 | .balanceLow => 2 | .started => 3 | .stopped => 4 | .tripped => 5 | .rakeDone => 6 | .rakeJammed => 7
  | .rakeFault => 8 | .spillStart => 9 | .spillEnd => 10 | .peerJoined => 11 | .peerLost => 12 | .peerAlarm => 13
  | .peerSpillEnd => 14 | .windowTimeout => 15 | .timeSet => 16 | .commandApplied => 17 | .queueOverflow => 18 | .configFault => 19

/-- The class of an event kind (R154). -/
def eventClass : EventKind → Nat
  | .alarmChange => 0 | .balanceLow => 0 | .started => 1 | .stopped => 1 | .tripped => 1 | .rakeDone => 2 | .rakeJammed => 2
  | .rakeFault => 2 | .spillStart => 3 | .spillEnd => 3 | .peerJoined => 4 | .peerLost => 4 | .peerAlarm => 4
  | .peerSpillEnd => 4 | .windowTimeout => 5 | .timeSet => 6 | .commandApplied => 6 | .queueOverflow => 7 | .configFault => 7

/-- The number of an alarm point (section 9.1). -/
def pointIndex : AlarmPoint → Fin 25
  | .wFault => 0 | .xFault => 1 | .wCheck => 2 | .xCheck => 3 | .levelDisagree => 4 | .houseLevelLost => 5 | .hhFloat => 6
  | .llFloat => 7 | .floatConflict => 8 | .selectorFault => 9 | .pumpFault => 10 | .startFail => 11 | .runLost => 12
  | .contactorStuck => 13 | .rakeJammed => 14 | .rakeFault => 15 | .screenBlinded => 16 | .spilling => 17 | .overflowRisk => 18
  | .onGenerator => 19 | .isolated => 20 | .duplicateId => 21 | .bayTxFail => 22 | .townSilent => 23 | .configWrite => 24

/-- The group of an alarm point by its number (section 9.1). -/
def pointGroup (n : Nat) : Nat :=
  if n ≤ 5 then 0 else if n ≤ 8 then 1 else if n ≤ 13 then 2 else if n ≤ 16 then 3 else if n ≤ 18 then 4
  else if n = 19 then 5 else if n ≤ 22 then 6 else 7

/-- The alarm point of a trip's cause (R60, R66). -/
def tripPoint : TripCause → AlarmPoint
  | .pumpFault => .pumpFault | .startFail => .startFail | .runLost => .runLost | .contactorStuck => .contactorStuck

/-- R162: the trip latch by its place in the list of section 3.1. -/
def latchCode : Option TripCause → Nat
  | none => 0 | some .pumpFault => 1 | some .startFail => 2 | some .runLost => 3 | some .contactorStuck => 4

/-- R162: section 3.1's list. -/
def positionCode : Position → Nat
  | .off => 0 | .hand => 1 | .auto => 2

/-- R162: chapter 11's list. -/
def startStateCode : StartState → Nat
  | .loading => 0 | .listening => 1 | .operating => 2 | .configFault => 3

/-- The HOUSE layout (section 10.4). -/
def entryStateCode : EntryState → Nat
  | .empty => 0 | .fresh => 1 | .stale => 2 | .lost => 3

/-- R162: section 5.1's list. -/
def isolationCauseCode : IsolationCause → Nat
  | .none => 0 | .silence => 1 | .duplicate => 2

/-- R162: section 5.1's list. -/
def supplyCode : Supply → Nat
  | .utility => 0 | .generator => 1

/-- R162: section 6.1's list. -/
def claimPhaseCode : ClaimPhase → Nat
  | .none => 0 | .pending => 1 | .holding => 2 | .granted => 3

end Sys2Proof.Machine
end

