-- ==== Sys2Proof/Machine/Operands.lean ====
section
/-! DEFINITION. What the blocks read: timers and filters, the updates of one block of the state, qualities, floats in force, duty keys,
and the values derived from the peer table. -/

namespace Sys2Proof

/-- The parameters of a channel. -/
def Settings.channel (g : Settings) : ChannelId → ChannelSettings
  | .w => g.channelW
  | .x => g.channelX

/-- The stored pump of a REPORT draws: STARTING or flowing (R91, R92). -/
def Report.draws (r : Report) : Bool := r.pumpState == .starting || r.flowing

/-- The seven pump states that are counted in A (R93). -/
def PumpState.inDuty (p : PumpState) : Bool :=
  match p with
  | .lockout | .idle | .waiting | .claiming | .starting | .running | .stopping => true
  | _ => false

/-- The states the sequencer takes while the position is AUTO and the start state OPERATING (section 3.2). -/
def PumpState.isAuto (p : PumpState) : Bool :=
  match p with
  | .tripped | .inhibited => true
  | _ => p.inDuty

/-- R (R37). -/
def Settings.runningLimit (g : Settings) : Machine.Supply → Nat
  | .generator => g.generatorLimit
  | .utility => g.utilityLimit

/-! Limits of timers, in milliseconds. -/

/-- The fault hold time (R11). -/
def ChannelSettings.holdTime (g : ChannelSettings) : Nat := g.faultHold * 1000

/-- The check interval (R14). -/
def ChannelSettings.checkTime (g : ChannelSettings) : Nat := g.checkInterval * 60000

/-- The listening period: the greater of 3 report intervals and 2 s (R174). -/
def Settings.listeningPeriod (g : Settings) : Nat := max (3 * g.reportInterval) 2000

/-- The balance interval (R26). -/
def Settings.balanceTime (g : Settings) : Nat := g.balanceInterval * 1000

/-- The invalid hold (R36). -/
def Settings.invalidTime (g : Settings) : Nat := g.invalidHold * 1000

/-- The float debounce time, counted in half seconds (R33). -/
def Settings.floatTime (g : Settings) : Nat := g.floatDebounce * 500

/-- The feedback time, also the limit of the stray-run timer (R53, R57). -/
def Settings.feedbackLimit (g : Settings) : Nat := g.feedbackTime * 1000

/-- The start settle (R53). -/
def Settings.settleTime (g : Settings) : Nat := g.startSettle * 1000

/-- The minimum run time (R55). -/
def Settings.runTime (g : Settings) : Nat := g.minimumRun * 1000

/-- The stop spacing (R55). -/
def Settings.spacingTime (g : Settings) : Nat := g.stopSpacing * 1000

/-- The lost release (R91). -/
def Settings.releaseTime (g : Settings) : Nat := g.lostRelease * 1000

/-- The window limit (R112). -/
def Settings.viewTime (g : Settings) : Nat := g.windowLimit * 1000

/-- The patience time (R105). -/
def Settings.patienceTime (g : Settings) : Nat := g.patience * 1000

/-- The cycle timeout (R131). -/
def Settings.cycleTime (g : Settings) : Nat := g.cycleTimeout * 1000

/-- The reverse time (R129). -/
def Settings.reverseLimit (g : Settings) : Nat := g.reverseTime * 1000

/-- The rest (R127). -/
def Settings.restTime (g : Settings) : Nat := g.rest * 1000

/-- The rake interval (R126). -/
def Settings.intervalTime (g : Settings) : Nat := g.rakeInterval * 60000

/-- Ten report intervals: the limit of the peer table's silence timer, and the age at which an entry is LOST (R86, R97). -/
def Settings.lossLimit (g : Settings) : Nat := 10 * g.reportInterval

/-- The limit of the Town Line's silence timer (R167). With a timeout of 0 the timer never expires; that it then stops rising at 3,600 s is the
model's choice (note 46). -/
def Settings.silenceLimit (g : Settings) : Nat := (if g.townTimeout = 0 then 3600 else g.townTimeout) * 1000

end Sys2Proof

namespace Sys2Proof.Machine

/-- A timer started, or restarted, from 0. -/
def Timer.start : Timer := .running 0

/-- The interval timer restarted from 0 by the start of a cycle. At the instant at which it stands at its limit, the expiry of that instant can
still be taken: it is a trigger of its own (R133). -/
def Timer.restart (limit : Nat) : Timer → Timer
  | .running ms => if limit ≤ ms then .renewed else .start
  | .renewed => .renewed
  | _ => .start

/-- Whether the timer runs. -/
def Timer.isRunning : Timer → Bool
  | .running _ => true
  | .renewed => true
  | _ => false

/-- A running timer stands at its limit: the instant of its expiry (note 1). -/
def Timer.due (limit : Nat) : Timer → Bool
  | .running ms => limit ≤ ms
  | _ => false

/-- The interval timer's expiry can be taken: it stands at its limit, or a cycle started at this instant has restarted it from there (R133). -/
def Timer.canExpire (limit : Nat) : Timer → Bool
  | .renewed => true
  | t => t.due limit

/-- Whether the timer has reached its limit. -/
def Timer.hasReached : Timer → Bool
  | .reached => true
  | _ => false

/-- The reading in milliseconds, `limit` where the timer has reached it and 0 where it is stopped. -/
def Timer.reading (limit : Nat) : Timer → Nat
  | .stopped => 0
  | .running ms => ms
  | .renewed => 0
  | .reached => limit

/-- A filter at its start: the inactive state, its timer running if the raw input is already active (R20, R44). -/
def Filter.begin (raw : Bool) : Filter :=
  { active := false, timer := if raw then .start else .stopped }

/-- A raw level arrives at a running filter (R33): its timer stops when the level equals the state and starts, if stopped, when not. -/
def Filter.feed (raw : Bool) (f : Filter) : Filter :=
  if raw = f.active then { f with timer := .stopped }
  else if f.timer.isRunning then f
  else { f with timer := .start }

/-- The filter's time has run out: it takes the raw level (R33). -/
def Filter.take (raw : Bool) (_f : Filter) : Filter :=
  { active := raw, timer := .stopped }

/-! Updates of one block each. -/

def State.withStart (u : StartUnit) (s : State) : State := { s with start := u }
def State.withClock (c : Clock) (s : State) : State := { s with clock := c }
def State.withPins (p : Pins) (s : State) : State := { s with pins := p }
def State.withChanW (c : Channel) (s : State) : State := { s with chanW := c }
def State.withChanX (c : Channel) (s : State) : State := { s with chanX := c }
def State.withBalance (b : Balance) (s : State) : State := { s with balance := b }
def State.withFloats (f : Floats) (s : State) : State := { s with floats := f }
def State.withPump (p : Pump) (s : State) : State := { s with pump := p }
def State.withLink (l : Link) (s : State) : State := { s with link := l }
def State.withTable (t : PeerTable) (s : State) : State := { s with table := t }
def State.withWindow (w : Window) (s : State) : State := { s with window := w }
def State.withScreen (u : Screen) (s : State) : State := { s with screen := u }
def State.withSpill (m : SpillMonitor) (s : State) : State := { s with spill := m }
def State.withAlarms (a : Alarms) (s : State) : State := { s with alarms := a }
def State.withEvents (q : EventQueue) (s : State) : State := { s with events := q }
def State.withTown (t : Town) (s : State) : State := { s with town := t }
def State.withPending (cs : List Instr) (s : State) : State := { s with pending := cs }

/-- The parameters in use. -/
def State.cfg (s : State) : Settings := s.start.settings

/-- The own station number. -/
def State.own (s : State) : Station := s.start.station

/-- The stagger time: 5 s for each number below the own (R64). -/
def State.staggerTime (s : State) : Nat := s.own.val * 5000

/-- LOADING is over: the port, the alarm block, the queue and the Town Line port run (R68, R148, R156, R159). -/
def State.started (s : State) : Bool := s.start.phase != .loading

/-- LISTENING or OPERATING: the level channels, the balance unit, the peer table and the start window run (R20, R85, R103). -/
def State.working (s : State) : Bool := s.start.phase == .listening || s.start.phase == .operating

/-- OPERATING (R174). -/
def State.operating (s : State) : Bool := s.start.phase == .operating

/-- The screen unit runs (R121). -/
def State.screenRuns (s : State) : Bool := s.working && s.cfg.role == .screen

/-- The spill monitor runs (R135). -/
def State.weirRuns (s : State) : Bool := s.working && s.cfg.role == .weir

/-- The time of the disagree timer (R23). -/
def disagreeTime : Nat := 30000

/-- The time for which RUN_FB may be lost (R58). -/
def lossTime : Nat := 2000

/-- The time of the duplicate timer (R82). -/
def duplicateTime : Nat := 30000

/-- The time of the transmit-failure timer (R73). -/
def failureTime : Nat := 10000

/-- The time of the cam check (R128). -/
def camCheckTime : Nat := 2000

/-- The pause before FORWARD (R129). -/
def pauseTime : Nat := 5000

/-- The time of a 100 ms filter: RUN_FB, cam, overload, acknowledge (R44, R121, R150). -/
def fastFilter : Nat := 100

/-- The time of a 500 ms debounce: fault contact, selector contacts, the OFF combination, generator contact (R44, R94). -/
def slowFilter : Nat := 500

/-- The present reading of the clock with its flag. -/
def State.stamp (s : State) : Stamp := { seconds := s.clock.seconds, sync := s.clock.sync }

/-- The raw level of a pin. -/
def Pins.level (p : Pins) : Pin → Bool
  | .dhh => p.dhh | .dll => p.dll | .drun => p.drun | .dflt => p.dflt | .dsh => p.dsh | .dsa => p.dsa | .dgen => p.dgen
  | .dcam => p.dcam | .dovl => p.dovl | .dack => p.dack

/-- A pin takes a raw level. -/
def Pins.set (pin : Pin) (v : Bool) (p : Pins) : Pins :=
  match pin with
  | .dhh => { p with dhh := v } | .dll => { p with dll := v } | .drun => { p with drun := v } | .dflt => { p with dflt := v }
  | .dsh => { p with dsh := v } | .dsa => { p with dsa := v } | .dgen => { p with dgen := v } | .dcam => { p with dcam := v }
  | .dovl => { p with dovl := v } | .dack => { p with dack := v }

/-- One of the two channels. -/
def State.chan (s : State) : ChannelId → Channel
  | .w => s.chanW
  | .x => s.chanX

/-- One of the two channels is replaced. -/
def State.withChan (ch : ChannelId) (c : Channel) (s : State) : State :=
  match ch with
  | .w => s.withChanW c
  | .x => s.withChanX c

/-- A sample's quality as a level quality (R10, last row). -/
def SampleQuality.toQuality : SampleQuality → Quality
  | .good => .good
  | .lowSat => .lowSat
  | .highSat => .highSat

/-- The channel's quality (R10): the first row that applies. -/
def Channel.quality (c : Channel) : Quality :=
  if c.phase = .stopped ∨ c.level = none then .invalid
  else if c.fault = .expired then .invalid
  else if c.fault = .holding then .held
  else if c.phase = .checking ∧ c.heldInvalid = true then .invalid
  else if c.phase = .checking then .held
  else c.newest.toQuality

/-- What a user takes from the channel: the level most recently offered, where the quality offered with it is not INVALID (R1, R18, note 12). -/
def Channel.usable (c : Channel) : Option Int :=
  if c.offeredQuality = .invalid then none else c.offeredLevel

/-- The low-low float is in force (section 2.1). -/
def State.lowLowInForce (s : State) : Bool := s.floats.lowLow.active && !s.floats.highHigh.active

/-- The high-high float is in force (section 2.1). -/
def State.highHighInForce (s : State) : Bool := s.floats.highHigh.active && !s.floats.lowLow.active

/-- Run hours (R62). -/
def Pump.runHours (p : Pump) : Nat := p.runSeconds / 3600

/-- One duty key is better than another (Conventions). -/
def DutyKey.better (a b : DutyKey) : Bool :=
  a.hours < b.hours || (a.hours == b.hours && a.station.val < b.station.val)

/-- The own duty key (R62). -/
def State.ownKey (s : State) : DutyKey := { hours := s.pump.runHours, station := s.own }

/-- The stored REPORT of an entry that is FRESH or STALE. -/
def PeerEntry.seen (e : PeerEntry) : Option Report :=
  if e.state = .fresh ∨ e.state = .stale then e.last else none

/-- The limit of the age timer of an entry: 3 report intervals to STALE, 10 to LOST (R86). -/
def PeerEntry.ageLimit (interval : Nat) (e : PeerEntry) : Nat := (if e.state = .fresh then 3 else 10) * interval

/-- The entries of the table, in order of station number. -/
def PeerTable.list (t : PeerTable) : List PeerEntry := t.entries.toList

/-- The entry of a station. -/
def PeerTable.entry (t : PeerTable) (p : Station) : PeerEntry := t.entries[p]

/-- An entry is replaced. -/
def PeerTable.withEntry (p : Station) (e : PeerEntry) (t : PeerTable) : PeerTable :=
  { t with entries := t.entries.set p.val e p.isLt }

/-- An entry counts as drawing: FRESH or STALE and drawing, or LOST, drawing and within the lost release (R91, R92). -/
def PeerEntry.drawing (e : PeerEntry) : Bool :=
  match e.state, e.last with
  | .fresh, some r => r.draws
  | .stale, some r => r.draws
  | .lost, some r => r.draws && !e.release.hasReached
  | _, _ => false

/-- An entry is counted in A (R93). -/
def PeerEntry.available (e : PeerEntry) : Bool :=
  match e.seen with
  | some r => r.pumpState.inDuty
  | none => false

/-- The number of entries with a property. -/
def PeerTable.count (t : PeerTable) (p : PeerEntry → Bool) : Nat := (t.list.filter p).length

/-- C (R92). -/
def State.drawingCount (s : State) : Nat :=
  (if s.pump.state = .starting ∨ s.pump.runFb.active = true then 1 else 0) + s.table.count PeerEntry.drawing

/-- A (R93). -/
def State.availableCount (s : State) : Nat :=
  if s.table.isolated then 1
  else (if s.pump.state.inDuty then 1 else 0) + s.table.count PeerEntry.available

/-- The house supply (R94). -/
def State.houseSupply (s : State) : Supply :=
  if s.table.generator.active || s.table.list.any (fun e => (e.seen.map Report.generator).getD false) then .generator else .utility

/-- The screen limit an entry contributes to Slim (R95); 8 where it contributes none. -/
def PeerEntry.slimShare (lostLimit : Nat) (isolated : Bool) (e : PeerEntry) : Nat :=
  match e.last.bind Report.screen with
  | none => 8
  | some sec =>
    if e.state = .fresh ∨ e.state = .stale then sec.limit.toNat
    else if e.state = .lost ∧ isolated = false then lostLimit
    else 8

/-- Slim (R95): the least of the limits and 8. -/
def State.slim (s : State) : Nat :=
  (s.table.list.map (PeerEntry.slimShare s.cfg.screenLostLimit s.table.isolated)).foldl min
    (if s.cfg.role = .screen then min 8 s.screen.limit else 8)

/-- A spill is SPILLING in the own view (R49). -/
def State.spillSeen (s : State) : Bool :=
  s.spill.state == .spilling
    || s.table.list.any (fun e => ((e.seen.bind Report.weir).map (fun w => w.state == .spilling)).getD false)

/-- The lockout figure that applies at this moment, in milliseconds (R49). -/
def State.lockoutFigure (s : State) : Nat :=
  (if s.spillSeen then s.cfg.stormLockout else s.cfg.minimumOff) * 1000

/-- The station's pump is wanted in duty: C < E (R50), or in isolated mode D at or past the isolated position and E at least 1 (R64). -/
def State.wanted (s : State) : Bool :=
  if s.table.isolated then s.cfg.isolatedPosition ≤ s.balance.demand && 1 ≤ s.balance.effective
  else s.table.drawing < s.balance.effective

/-- The key of an entry that is FRESH or STALE with its pump in one of the given states. -/
def PeerEntry.keyIf (states : List PumpState) (p : Station) (e : PeerEntry) : Option DutyKey :=
  match e.seen with
  | some r => if r.pumpState ∈ states then some { hours := r.runHours.toNat, station := p } else none
  | none => none

/-- The keys of the peers whose pump is in one of the given states, by FRESH and STALE entries. -/
def PeerTable.keysOf (t : PeerTable) (states : List PumpState) : List DutyKey :=
  (List.finRange 8).filterMap fun p => (t.entry p).keyIf states p

/-- The own station is the first candidate (R104). -/
def State.firstCandidate (s : State) : Bool :=
  (s.pump.state == .idle || s.pump.state == .waiting) && (s.table.keysOf [.idle, .waiting]).all (fun k => s.ownKey.better k)

/-- The own key is the worst among the stations in RUNNING in the own view (R55). -/
def State.worstRunning (s : State) : Bool :=
  (s.table.keysOf [.running]).all (fun k => k.better s.ownKey)

/-- This station is the house reporter (section 5.7). -/
def State.isReporter (s : State) : Bool := s.cfg.houseReporter == s.own.val

/-- The differential or another signed figure as a 16-bit field; -32,768 where it is absent (sections 4.7, R162). -/
def signedHalf : Option Int → Half
  | some v => BitVec.ofInt 16 v
  | none => 0x8000#16

/-- V(H) by the volume table (R25): the end values outside it, straight lines inside it. -/
def volumeAt (table : List (Int × Nat)) (h : Int) : Nat :=
  match table with
  | [] => 0
  | [(_, v)] => v
  | (l1, v1) :: (l2, v2) :: rest =>
    if h ≤ l1 then v1
    else if h < l2 then v1 + (floorDiv ((h - l1) * ((v2 : Int) - v1)) (l2 - l1).toNat).toNat
    else volumeAt ((l2, v2) :: rest) h

end Sys2Proof.Machine
end

