-- ==== Sys2Proof/Machine/Flags.lean ====
section
/-! DEFINITION. Raw conditions and what follows from them: the event queue (R154 to R157), the annunciator (R149 to R153), the relays and
the summary. -/

namespace Sys2Proof.Machine

/-- A record joins at the tail and takes the counter's value (R156). -/
def EventQueue.push (r : EventRecord) (q : EventQueue) : EventQueue :=
  { q with records := q.records ++ [{ r with sequence := q.counter }], counter := q.counter + 1 }

/-- A QUEUE_OVERFLOW record carrying the count is taken in, and the count returns to 0 (R157). -/
def EventQueue.pushOverflow (stamp : Stamp) (own : Station) (count : Nat) (q : EventQueue) : EventQueue :=
  { q with overflow := 0 }.push
    { sequence := 0, time := stamp.seconds, sync := stamp.sync, kind := .queueOverflow, source := own, subject := 0,
      values := [BitVec.ofNat 32 count] }

/-- An event that passes the mask, by the room left and the overflow count (R157). -/
def EventQueue.takeIn (own : Station) (r : EventRecord) (q : EventQueue) : EventQueue :=
  if 64 ≤ q.records.length then { q with overflow := satInc16 q.overflow }
  else if q.overflow = 0 then q.push r
  else if q.records.length = 63 then q.pushOverflow { seconds := r.time, sync := r.sync } own (satInc16 q.overflow)
  else (q.pushOverflow { seconds := r.time, sync := r.sync } own q.overflow).push r

/-- The class mask in use: every class in CONFIG_FAULT (R155). -/
def State.classMask (s : State) : Byte :=
  if s.start.phase = .configFault then BitVec.allOnes 8 else s.cfg.classMask

/-- The queue takes events of this class (R155): its mask bit, and class 7 always. -/
def State.takesClass (s : State) (c : Nat) : Bool :=
  c == 7 || s.classMask.getLsbD c

/-- An event is offered with a source station (R154, R155). The queue runs from the end of LOADING (R156). -/
def State.offerFrom (source : Station) (kind : EventKind) (subject : Nat) (values : List Word) (s : State) : State :=
  if s.started && s.takesClass (eventClass kind) then
    s.withEvents (s.events.takeIn s.own
      { sequence := 0, time := s.clock.seconds, sync := s.clock.sync, kind := kind, source := source,
        subject := BitVec.ofNat 8 subject, values := values })
  else s

/-- An event is offered with the own station as its source (R154). -/
def State.offer (kind : EventKind) (subject : Nat) (values : List Word) (s : State) : State :=
  s.offerFrom s.own kind subject values

/-- A value of an event record. -/
def valueOf (n : Nat) : Word := BitVec.ofNat 32 n

/-- The lamp mask in use: every point in CONFIG_FAULT (R148). Bits 25 to 31 are not used, and the mask of all points, here and as the default,
has them 1: the model's choice, which STATUS alone shows (R158, note 24). -/
def State.lampMask (s : State) : Word :=
  if s.start.phase = .configFault then BitVec.allOnes 32 else s.cfg.lampMask

/-- A point calls for the horn: ALERT or RETURNED (R151). -/
def PointState.unseen (p : PointState) : Bool := p.ann == .alert || p.ann == .returned

/-- Some lamp-enabled point has a property. -/
def lampAny (lamp : Word) (points : Vector PointState 25) (f : PointState → Bool) : Bool :=
  (List.finRange 25).any fun i => lamp.getLsbD i.val && f points[i]

/-- Bit g of the summary: some point of group g is not NORMAL (R152). -/
def groupBit (points : Vector PointState 25) (g : Nat) : Bool :=
  (List.finRange 25).any fun i => pointGroup i.val == g && points[i].ann != .normal

/-- The relays are set and the summary is formed from the points (R151, R152). -/
def Alarms.refresh (lamp : Word) (a : Alarms) : Alarms :=
  { a with
    horn := lampAny lamp a.points PointState.unseen
    beacon := lampAny lamp a.points PointState.raw
    summary := flagByte (groupBit a.points) }

/-- A point is replaced, the relays and the summary follow in the same step (R151, R153). -/
def Alarms.withPoint (lamp : Word) (i : Fin 25) (p : PointState) (a : Alarms) : Alarms :=
  { a with points := a.points.set i.val p i.isLt }.refresh lamp

/-- The annunciator after a raw change (R149). -/
def Annunciator.onRaw (raw : Bool) (a : Annunciator) : Annunciator :=
  match raw, a with
  | true, .normal => .alert
  | true, .returned => .alert
  | false, .alert => .returned
  | false, .standing => .normal
  | _, a => a

/-- The annunciator after an acknowledge (R150). -/
def Annunciator.onAck : Annunciator → Annunciator
  | .alert => .standing
  | .returned => .normal
  | a => a

/-- A point takes a new state: relays, summary, and an ALARM_CHANGE where its annunciator state changes (R153). -/
def State.setPoint (i : Fin 25) (p : PointState) (cause : Nat) (s : State) : State :=
  let moved := s.withAlarms (s.alarms.withPoint s.lampMask i p)
  if p.ann = s.alarms.points[i].ann then moved
  else moved.offer .alarmChange i.val [valueOf (annunciatorCode p.ann), valueOf cause]

/-- An owner delivers a raw condition (R149); a repeated delivery changes nothing. The alarm block runs from the end of LOADING (R148). -/
def State.deliver (p : AlarmPoint) (raw : Bool) (s : State) : State :=
  if s.started = true ∧ s.alarms.points[pointIndex p].raw ≠ raw then
    s.setPoint (pointIndex p)
      { raw := raw, ann := s.alarms.points[pointIndex p].ann.onRaw raw }
      (if raw then 0 else 1)
  else s

/-- The raw condition of a point as last delivered. -/
def State.rawOf (s : State) (p : AlarmPoint) : Bool := s.alarms.points[pointIndex p].raw

/-- One point is acknowledged (R150, R153); a point that does not change offers nothing. -/
def State.ackPoint (cause : Nat) (s : State) (i : Fin 25) : State :=
  if s.alarms.points[i].ann.onAck = s.alarms.points[i].ann then s
  else s.setPoint i { s.alarms.points[i] with ann := s.alarms.points[i].ann.onAck } cause

/-- All points are acknowledged, in ascending point number (R150, R153). -/
def State.ackAll (cause : Nat) (s : State) : State :=
  (List.finRange 25).foldl (State.ackPoint cause) s

end Sys2Proof.Machine
end

