-- ==== Sys2Proof/Machine/Ops.lean ====
section
/-! DEFINITION. The operations the blocks share: the transmit queue, the closing of a claim, the derived values of the peer table and the
balance unit with their hand-on, and the transitions of the pump sequencer. They are layered, so that no hand-on can run in a circle
(notes 9, 10 and 11). -/

namespace Sys2Proof

/-- A pump state in which the stray-run watch applies (R57). -/
def PumpState.strayWatched (p : PumpState) : Bool :=
  match p with
  | .lockout | .idle | .waiting | .claiming | .inhibited => true
  | _ => false

end Sys2Proof

namespace Sys2Proof.Machine

/-! ## The transmit queue (R75 to R78) -/

/-- The class of a frame in the transmit queue (R75). -/
def TxBody.cls : TxBody → Nat
  | .startClaim _ _ => 1
  | .startDone _ _ => 2
  | .command _ _ _ => 3
  | .time => 4
  | .report => 5

/-- The class of a frame on the line. -/
def FrameBody.cls : FrameBody → Nat
  | .startClaim _ _ => 1
  | .startDone _ _ => 2
  | .command _ _ _ => 3
  | .time _ => 4
  | .report _ => 5

/-- A frame enters the queue at its class's place, or takes over the entry of its kind with attempt count 0; a REPORT keeps the number of an
entry already attempted (R75, R76, R78). -/
def upsert (b : TxBody) : List TxEntry → List TxEntry
  | [] => [{ body := b, attempts := 0, sequence := none }]
  | e :: rest =>
    if e.body.cls = b.cls then { body := b, attempts := 0, sequence := e.sequence } :: rest
    else if b.cls < e.body.cls then { body := b, attempts := 0, sequence := none } :: e :: rest
    else e :: upsert b rest

/-- The queue holds a frame of a class. -/
def Link.holds (l : Link) (cls : Nat) : Bool := l.queue.any (fun e => e.body.cls == cls)

/-- The entry of a class leaves the queue. -/
def Link.drop (cls : Nat) (l : Link) : Link := { l with queue := l.queue.filter (fun e => e.body.cls != cls) }

/-- The class of the frame being transmitted. -/
def Link.sendingClass (l : Link) : Option Nat := l.sending.map FrameBody.cls

/-- A frame is offered to the port (R76, R77). -/
def Link.offer (b : TxBody) (l : Link) : Link :=
  if l.sendingClass = some b.cls then { l with heldOffer := some b }
  else
    match b with
    | .startClaim n h => if l.holds 2 then { l with heldClaim := some (n, h) } else { l with queue := upsert b l.queue }
    | _ => { l with queue := upsert b l.queue }

/-- The start window withdraws a START CLAIM that has not gone out and is not being transmitted (R77): held back or queued, it is removed. -/
def Link.withdrawClaim (l : Link) : Link :=
  if l.heldClaim.isSome then { l with heldClaim := none } else l.drop 1

/-- A frame is offered to the port of this station. -/
def State.offerFrame (b : TxBody) (s : State) : State :=
  s.withLink (s.link.offer b)

/-- A REPORT is queued and the report timer restarts from 0 (R78). The timer restarts at the offer also where the offer is held during the
transmission of a REPORT (R76): the model's choice (note 45). -/
def State.queueReport (s : State) : State :=
  if s.started then s.withLink { (s.link.offer .report) with report := .start } else s

/-! ## The closing of a claim (R113, R117) -/

/-- The own claim ends: the hold timer stops, the phase becomes NONE and the view FREE. -/
def State.endClaim (s : State) : State :=
  s.withWindow { s.window with view := .free, claim := .none, hold := .stopped }

/-- The own claim is closed with an outcome: in PENDING the START CLAIM is withdrawn from the port, in HOLDING and GRANTED a START DONE is
offered. A closing that arrives while the START CLAIM is being transmitted waits for the end of the attempt (R77, R117, note 19). -/
def State.closeClaim (outcome : ClaimOutcome) (s : State) : State :=
  match s.window.claim with
  | .none => s
  | .pending =>
    if s.link.sendingClass = some 1 then s.withLink { s.link with closing := some (s.window.number, outcome) }
    else s.endClaim.withLink s.link.withdrawClaim
  | .holding => s.endClaim.offerFrame (.startDone s.window.number outcome)
  | .granted => s.endClaim.offerFrame (.startDone s.window.number outcome)

/-- The claim of a pump that leaves CLAIMING, or a STARTING entered through a claim, is closed (R65, R117). -/
def State.closeOwnClaim (outcome : ClaimOutcome) (s : State) : State :=
  if s.pump.state = .claiming ∨ (s.pump.state = .starting ∧ s.window.viaClaim = true) then s.closeClaim outcome else s

/-! ## Derived values -/

/-- C, A, the house supply and Slim (R96), and with them R (R37) and E (R38), from the entries and inputs as they stand. The peer table and
the balance unit run in LISTENING and OPERATING alone (R20, R85). -/
def State.withCounts (s : State) : State :=
  if s.working then
    (s.withTable { s.table with
        drawing := s.drawingCount, available := s.availableCount, supply := s.houseSupply, screenLimit := s.slim }).withBalance
      { s.balance with
        limit := s.cfg.runningLimit s.houseSupply
        effective := min (min s.balance.demand (s.cfg.runningLimit s.houseSupply)) (min s.slim s.availableCount) }
  else s

/-- D by the first row of R35 that applies. -/
def State.demandRow (s : State) : Nat :=
  if s.lowLowInForce then 0
  else if s.highHighInForce then 8
  else if s.balance.level.isSome then max s.balance.band s.balance.trend
  else if s.balance.invalidHold.hasReached then s.cfg.fallbackDemand
  else s.balance.held

/-- D is recomputed (R35). -/
def State.withDemand (s : State) : State :=
  if s.working then s.withBalance { s.balance with demand := s.demandRow } else s

/-- Whether OVERFLOW_RISK stands (R40). -/
def State.overflowRisk (s : State) : Bool :=
  s.operating && (s.balance.level.map (fun h => decide (s.cfg.riskLevel ≤ h))).getD false && s.balance.effective < s.balance.demand

/-- OVERFLOW_RISK is evaluated (R40). -/
def State.evalRisk (s : State) : State := s.deliver .overflowRisk s.overflowRisk

/-! ## Pump state changes -/

/-- Entry to a pump state: the contactor output follows the state (R46), the timers of the state left stop (R47) and those of the new state
start: the lockout (R49), the feedback or the settle timer (R52, R57), the run timer (R53), the stray-run timer (R57). The loss timer
carries on into RUNNING (R58). STARTING raises the start count and starts the contactor-closed time (R52). -/
def Pump.enter (st : PumpState) (p : Pump) : Pump :=
  { p with
    state := st
    contactor := st == .starting || st == .running
    lockout := if st = .lockout then .start else .stopped
    feedback := if st = .stopping ∨ (st = .starting ∧ p.runFb.active = false) then .start else .stopped
    settle := if st = .starting ∧ p.runFb.active = true then .start else .stopped
    run := if st = .running then .start else .stopped
    loss := if st = .running then p.loss else .stopped
    stray := if st.strayWatched = true ∧ p.runFb.active = true then .start else .stopped
    stagger := .stopped
    startCount := if st = .starting then satInc16 p.startCount else p.startCount
    closedSeconds := if st = .starting then 0 else p.closedSeconds }

/-- The pump enters a state: the patience timer starts on entry to WAITING and is cleared on leaving it (R105), a REPORT is queued (R78), and
the counts follow (R96). The own transitions never leave the sequencer with a further transition to make on C or E (note 11). -/
def State.enter (st : PumpState) (s : State) : State :=
  ((((s.withPump (s.pump.enter st)).withWindow
      { s.window with patience := if st = .waiting then .start else .stopped }).queueReport).withCounts).evalRisk

/-- A trip (R53, R57, R58, R59): the latch takes the cause, whose raw condition rises unless it is the fault contact's own, an open claim is
closed with FAILED, the pump enters TRIPPED with its contactor open, and TRIPPED is offered. -/
def State.trip (cause : TripCause) (s : State) : State :=
  let latched := s.withPump { s.pump with latch := some cause }
  let shown := if cause = .pumpFault then latched else latched.deliver (tripPoint cause) true
  (((shown.closeOwnClaim .failed).enter .tripped).offer .tripped (pointIndex (tripPoint cause)).val
    [valueOf (pumpStateCode s.pump.state)])

/-- Entry to LOCKOUT or INHIBITED: with the debounced fault contact active the pump trips at once (R59). -/
def State.enterRest (st : PumpState) (s : State) : State :=
  let rested := s.enter st
  if rested.pump.faultContact.active then rested.trip .pumpFault else rested

/-- The stop is complete (R57): INHIBITED with the inhibit flag set, LOCKOUT without. -/
def State.completeStop (s : State) : State :=
  if s.pump.inhibit then s.enterRest .inhibited else s.enterRest .lockout

/-- Stop causes, in the order of their codes (R154). -/
inductive StopCause where
  | duty | lowLow | inhibit | noDemand | selector
  deriving DecidableEq, Repr

/-- The code of a stop cause (R154). -/
def stopCode : StopCause → Nat
  | .duty => 0 | .lowLow => 1 | .inhibit => 2 | .noDemand => 3 | .selector => 4

/-- STOPPED is offered (R66). -/
def State.offerStopped (cause : StopCause) (s : State) : State :=
  s.offer .stopped (stopCode cause) [valueOf s.pump.closedSeconds, valueOf s.pump.runHours]

/-- STARTING or RUNNING goes to STOPPING (R54, R56, R57): a claim of STARTING is closed with WITHDRAWN, STOPPED is offered, and with RUN_FB
absent the stop is complete at entry. -/
def State.stopPump (cause : StopCause) (s : State) : State :=
  let stopping := ((s.closeOwnClaim .withdrawn).enter .stopping).offerStopped cause
  if stopping.pump.runFb.active then stopping else stopping.completeStop

/-- Entry to STARTING (R52), with the start record of R65. -/
def State.enterStarting (viaClaim : Bool) (s : State) : State :=
  (s.withWindow { s.window with viaClaim := viaClaim }).enter .starting

/-- A claim is opened (R106) and the pump enters CLAIMING. -/
def State.openClaim (s : State) : State :=
  let number := s.window.number + 1
  (((s.withWindow { s.window with view := .own, claim := .pending, number := number, key := some s.ownKey, hold := .stopped }).offerFrame
    (.startClaim number (BitVec.ofNat 16 s.pump.runHours))).enter .claiming)

/-- The conditions of R105. -/
def State.mayClaim (s : State) : Bool :=
  s.pump.state == .waiting && s.operating && !s.table.isolated && s.window.view == .free
    && (s.firstCandidate || s.window.patience.hasReached)

/-- The claim conditions are evaluated (R105). -/
def State.evalClaim (s : State) : State := if s.mayClaim then s.openClaim else s

/-- The stagger of an isolated start begins (R64): 5 s times the station number, so station 0 starts at once. -/
def State.beginStagger (s : State) : State :=
  if s.own.val = 0 then s.enterStarting false else s.withPump { s.pump with stagger := .start }

/-- Entry to WAITING (R50, R64): the comparison is made at entry, then the stagger begins in isolated mode and the claim conditions are
evaluated outside it (R105, note 10). -/
def State.enterWaiting (s : State) : State :=
  let waiting := s.enter .waiting
  if waiting.wanted then
    if waiting.table.isolated then waiting.beginStagger else waiting.evalClaim
  else waiting.enter .idle

/-- Entry to IDLE, with the comparison of R50 or R64 made at once. -/
def State.enterIdle (s : State) : State :=
  let idle := s.enter .idle
  if idle.wanted then idle.enterWaiting else idle

/-- The lockout ends (R49). -/
def State.endLockout (s : State) : State :=
  if s.pump.state = .lockout then s.enterIdle else s

/-- The lockout's figure is read again: it has ended if the timer has already passed it (R49). -/
def State.checkLockout (s : State) : State :=
  if s.pump.state = .lockout ∧ s.lockoutFigure ≤ s.pump.lockout.reading s.lockoutFigure then s.enterIdle else s

/-- The immediate stops of RUNNING (R56). -/
def State.immediateStop (s : State) : State :=
  if s.pump.state = .running then
    if s.lowLowInForce then s.stopPump .lowLow
    else if s.balance.effective = 0 ∧ s.floats.highHigh.active = false then s.stopPump .noDemand
    else s
  else s

/-- The four conditions of the stop rule (R55). -/
def State.stopRuleHolds (s : State) : Bool :=
  s.pump.run.hasReached && s.balance.effective < s.table.drawing && s.worstRunning && !s.pump.spacing.isRunning

/-- The isolated stop's conditions (R64). -/
def State.isolatedStopHolds (s : State) : Bool :=
  s.pump.run.hasReached && s.balance.demand < s.cfg.isolatedPosition

/-- RUNNING stops by the stop rule, or in isolated mode by the isolated stop (R55, R64). -/
def State.dutyStop (s : State) : State :=
  if s.pump.state = .running ∧ (if s.table.isolated then s.isolatedStopHolds else s.stopRuleHolds) = true then s.stopPump .duty else s

/-! ## Hand-on of C, D and E -/

/-- The sequencer meets a change of C or E, or of D in isolated mode (R39, R50, R55, R56, R64). Where one change calls for
an immediate stop of R56 and for the duty stop of R55 or R64, the immediate stop is taken first, so STOPPED carries NO_DEMAND and not DUTY: the
model's choice (note 8). -/
def State.onDemand (s : State) : State :=
  match s.pump.state with
  | .idle => if s.wanted then s.enterWaiting else s
  | .waiting => if s.wanted then s else s.enter .idle
  | .running => s.immediateStop.dutyStop
  | _ => s

/-- A change the sequencer evaluates: of C or E (R50, R55), in isolated mode of D or E (R64). -/
def demandChanged (before after : State) : Bool :=
  if after.table.isolated then
    before.balance.demand != after.balance.demand || before.balance.effective != after.balance.effective
  else before.table.drawing != after.table.drawing || before.balance.effective != after.balance.effective

/-- New values are handed on: first to the pump sequencer, then to OVERFLOW_RISK (R39). -/
def State.handOn (before after : State) : State :=
  (if demandChanged before after then after.onDemand else after).evalRisk

/-- C, A, the house supply and Slim are recomputed and handed on (R96). -/
def State.recount (s : State) : State := s.handOn s.withCounts

/-- D and E are recomputed and handed on (R35, R38, R39). -/
def State.redemand (s : State) : State := s.handOn s.withDemand.withCounts

/-! ## Isolated mode (R65, R99) -/

/-- The sequencer meets a change of the isolated flag (R65). -/
def State.onIsolation (s : State) : State :=
  if s.table.isolated then
    match s.pump.state with
    | .waiting => if s.wanted then s.beginStagger else s.enter .idle
    | .claiming => (s.closeOwnClaim .withdrawn).enterIdle
    | _ => s
  else
    match s.pump.state with
    | .waiting =>
      let plain := s.withPump { s.pump with stagger := .stopped }
      if plain.wanted then plain.evalClaim else plain.enter .idle
    | _ => s

/-- The isolated flag and its cause are set; a change of the flag is handed on in the order of R99: the counts, the sequencer with the start
window's closing, the alarm block. -/
def State.setIsolated (flag : Bool) (cause : IsolationCause) (s : State) : State :=
  let marked := s.withTable { s.table with isolated := flag, cause := cause }
  if s.table.isolated = flag then marked
  else (marked.recount.onIsolation).deliver .isolated flag

end Sys2Proof.Machine
end

