-- ==== Sys2Proof/Machine/Balance.lean ====
section
/-! DEFINITION. The balance unit and the floats (chapter 2): the house level, the disagree watch, bands, the balance event, trend demand, the
float inputs, and the meanings of their commands. -/

namespace Sys2Proof.Machine

/-! ## The house level (R21 to R24) -/

/-- A level joins a list in ascending order, duplicates kept. -/
def insertLevel (v : Int) : List Int → List Int
  | [] => [v]
  | w :: rest => if v ≤ w then v :: w :: rest else w :: insertLevel v rest

/-- Levels in ascending order. -/
def sortLevels (levels : List Int) : List Int := levels.foldr insertLevel []

/-- The middle value, or round half up of the mean of the two middle values (R21). -/
def medianLevel (levels : List Int) : Option Int :=
  let sorted := sortLevels levels
  let n := sorted.length
  if n % 2 = 1 then sorted[n / 2]?
  else
    match sorted[n / 2 - 1]?, sorted[n / 2]? with
    | some a, some b => some (roundHalfUp (a + b) 2)
    | _, _ => none

/-- The level a peer's entry gives to the median: FRESH, quality not INVALID (R21). -/
def PeerEntry.candidate (e : PeerEntry) : Option Int :=
  match e.state, e.last with
  | .fresh, some r => if r.quality = .invalid then none else some r.level.toInt
  | _, _ => none

/-- The candidate levels (R21), the own alone in isolated mode (R22). -/
def State.candidates (s : State) : List Int :=
  s.chanW.usable.toList ++ (if s.table.isolated then [] else s.table.list.filterMap PeerEntry.candidate)

/-- H as an own W sample event forms it (R21, R22). -/
def State.formLevel (s : State) : Option Int := medianLevel s.candidates

/-- The own W level compared with H (R23). A timer that has reached 30 s stays at its limit while the difference lasts and is not started again:
that is the model's choice (note 42). -/
def State.compareLevel (s : State) : State :=
  match s.chanW.usable, s.balance.level with
  | some own, some h =>
    if (s.cfg.disagreeLimit : Int) < |own - h| then
      if s.balance.disagree = .stopped then s.withBalance { s.balance with disagree := .start } else s
    else (s.withBalance { s.balance with disagree := .stopped }).deliver .levelDisagree false
  | _, _ => (s.withBalance { s.balance with disagree := .stopped }).deliver .levelDisagree false

/-- HOUSE_LEVEL_LOST is evaluated (R24). -/
def State.evalLevelLost (s : State) : State :=
  s.deliver .houseLevelLost (s.operating && s.balance.level.isNone)

/-! ## Band demand (R30, R31) -/

/-- The rising pass of R30. -/
def riseBands (bands : List (Int × Int)) (h : Int) : Nat → Nat → Nat
  | 0, db => db
  | fuel + 1, db =>
    match bands[db]? with
    | some (start, _) => if start ≤ h then riseBands bands h fuel (db + 1) else db
    | none => db

/-- The falling pass of R30. -/
def fallBands (bands : List (Int × Int)) (h : Int) : Nat → Nat
  | 0 => 0
  | db + 1 =>
    match bands[db]? with
    | some (_, stop) => if h < stop then fallBands bands h db else db + 1
    | none => db + 1

/-- Db at an own W sample event with H valid (R30). -/
def bandDemand (bands : List (Int × Int)) (h : Int) (db : Nat) : Nat :=
  fallBands bands h (riseBands bands h bands.length db)

/-- The balance unit takes the H just formed: V (R25), Db (R30, R31), the held demand and the invalid hold (R36). -/
def Balance.takeLevel (g : Settings) (h : Option Int) (b : Balance) : Balance :=
  match h with
  | some level =>
    { b with level := some level, volume := volumeAt g.volumeTable level, band := bandDemand g.bands level b.band,
             invalidHold := .stopped }
  | none =>
    if b.level.isSome then { b with level := none, held := b.demand, invalidHold := .start } else { b with level := none }

/-- An own W sample event as the balance unit meets it (R21 to R25, R30, R31, R35, R36, R38 to R40). Where it changes several points they
are delivered in the order LEVEL_DISAGREE, HOUSE_LEVEL_LOST, OVERFLOW_RISK, the last after D and E have reached the sequencer (R39): the first
two places are the model's choice (R42, note 8). -/
def State.onWSample (s : State) : State :=
  if s.working then
    (((s.withBalance (s.balance.takeLevel s.cfg s.formLevel)).compareLevel).evalLevelLost).redemand
  else s

/-- DISAGREE_TIMER_EXPIRY (R23): the timer stops at 30 s and LEVEL_DISAGREE rises. -/
def execDisagreeTimerExpiry (s : State) : Host.Outcome State Fault Refusal :=
  .next (if s.balance.disagree.due disagreeTime then
    (s.withBalance { s.balance with disagree := .reached }).deliver .levelDisagree true
  else s)

/-! ## The balance event (R26 to R29, R32) -/

/-- The rated flow a peer's entry adds to the outflow (R26). -/
def PeerEntry.outflow (e : PeerEntry) : Nat :=
  match e.seen with
  | some r => if r.flowing then r.ratedFlow.toNat else 0
  | none => 0

/-- Qo (R26). -/
def State.outflow (s : State) : Nat :=
  (if s.pump.runFb.active then s.cfg.ratedFlow else 0) + (s.table.list.map PeerEntry.outflow).sum

/-- q before its clamp (R27). -/
def rawInflow (b : Balance) (outflow volume interval : Nat) : Int :=
  ((b.outflowPrev + outflow) / 2 : Nat) + truncDiv ((volume : Int) - b.volumePrev) interval

/-- q, its flags and Qs at a balance event that computes q (R27, R28). -/
def Balance.estimate (raw : Int) (b : Balance) : Balance :=
  let q := (clampInt 0 65535 raw).toNat
  { b with
    inflow := q
    low := decide (raw < 0)
    high := decide (65535 < raw)
    age := 0
    smoothed := if b.firstEstimate then q else ((b.smoothed : Int) + truncDiv ((q : Int) - b.smoothed) 4).toNat
    firstEstimate := false }

/-- Dt at a balance event with H valid (R32). -/
def trendDemand (g : Settings) (h : Int) (smoothed : Nat) : Nat :=
  if g.trendArm ≤ h ∧ 0 < smoothed then min 8 (ceilDiv smoothed g.referenceFlow) else 0

/-- The estimate of a balance event (R27, R28): q and Qs with both ends valid, else the age rises. -/
def Balance.atEvent (g : Settings) (outflow : Nat) (b : Balance) : Balance :=
  match b.level with
  | some h =>
    if b.prevValid then b.estimate (rawInflow b outflow (volumeAt g.volumeTable h) g.balanceInterval)
    else { b with age := satInc16 b.age }
  | none => { b with age := satInc16 b.age }

/-- The bookkeeping (R29) and Dt (R32) that end a balance event, and the balance timer starting again (R26). -/
def Balance.bookkeep (g : Settings) (outflow : Nat) (b : Balance) : Balance :=
  match b.level with
  | some h =>
    { b with outflowPrev := outflow, volumePrev := volumeAt g.volumeTable h, prevValid := true, trend := trendDemand g h b.smoothed,
             timer := .start }
  | none => { b with outflowPrev := outflow, prevValid := false, timer := .start }

/-- BALANCE_LOW is offered when the balance-low flag rises (R27). -/
def State.offerBalanceLow (before : Balance) (outflow : Nat) (s : State) : State :=
  match before.level with
  | some h =>
    if before.low = false ∧ s.balance.low = true then
      s.offer .balanceLow 0
        [BitVec.ofInt 32 (rawInflow before outflow (volumeAt s.cfg.volumeTable h) s.cfg.balanceInterval), valueOf outflow]
    else s
  | none => s

/-- BALANCE_EVENT (R26 to R29, R32, R35, R38). -/
def execBalanceEvent (s : State) : Host.Outcome State Fault Refusal :=
  .next (if s.working = true ∧ s.balance.timer.due s.cfg.balanceTime = true then
    let estimated := s.balance.atEvent s.cfg s.outflow
    let offered := (s.withBalance estimated).offerBalanceLow s.balance s.outflow
    (offered.withBalance (offered.balance.bookkeep s.cfg s.outflow)).redemand
  else s)

/-- INVALID_HOLD_EXPIRY (R36): D takes the fallback demand unless a float row applies. -/
def execInvalidHoldExpiry (s : State) : Host.Outcome State Fault Refusal :=
  .next (if s.balance.invalidHold.due s.cfg.invalidTime then
    (s.withBalance { s.balance with invalidHold := .reached }).redemand
  else s)

/-! ## Floats (R33, R34) -/

/-- The filter of a float. -/
def Floats.filter (f : Floats) : FloatId → Filter
  | .highHigh => f.highHigh
  | .lowLow => f.lowLow

/-- A float's filter is replaced. -/
def Floats.withFilter (id : FloatId) (v : Filter) (f : Floats) : Floats :=
  match id with
  | .highHigh => { f with highHigh := v }
  | .lowLow => { f with lowLow := v }

/-- The pin of a float. -/
def floatPin : FloatId → Pin
  | .highHigh => .dhh
  | .lowLow => .dll

/-- The alarm point of a float. -/
def floatPoint : FloatId → AlarmPoint
  | .highHigh => .hhFloat
  | .lowLow => .llFloat

/-- The low-low float in force takes STARTING and RUNNING to STOPPING (R54, R56). -/
def State.lowLowStop (s : State) : State :=
  if s.lowLowInForce = true ∧ (s.pump.state = .starting ∨ s.pump.state = .running) then s.stopPump .lowLow else s

/-- FLOAT_DEBOUNCE_EXPIRY (R33, R34, R35, R54, R56): the debounced state changes, its point and FLOAT_CONFLICT follow, the low-low float coming
into force stops the pump, D and E are recomputed, and a high-high float gone inactive with E at 0 stops a RUNNING pump. -/
def execFloatDebounceExpiry (f : FloatId) (s : State) : Host.Outcome State Fault Refusal :=
  .next (if s.working = true ∧ (s.floats.filter f).timer.due s.cfg.floatTime = true then
    let taken := s.withFloats (s.floats.withFilter f ((s.floats.filter f).take (s.pins.level (floatPin f))))
    let shown := (taken.deliver (floatPoint f) (s.pins.level (floatPin f))).deliver .floatConflict
      (taken.floats.highHigh.active && taken.floats.lowLow.active)
    shown.lowLowStop.redemand.immediateStop
  else s)

end Sys2Proof.Machine
end

