-- ==== Sys2Proof/Machine/Inputs.lean ====
section
/-! DEFINITION. The digital inputs as they change (R33, R44, R94, R121, R150), and the panel acknowledge (R150). -/

namespace Sys2Proof.Machine

/-- A raw level reaches the filters of the pump sequencer (R44). -/
def Pump.feed (pin : Pin) (v : Bool) (p : Pump) : Pump :=
  match pin with
  | .drun => { p with runFb := p.runFb.feed v }
  | .dflt => { p with faultContact := p.faultContact.feed v }
  | .dsh => { p with contactHand := p.contactHand.feed v }
  | .dsa => { p with contactAuto := p.contactAuto.feed v }
  | _ => p

/-- A raw level reaches the floats (R33). -/
def Floats.feed (pin : Pin) (v : Bool) (f : Floats) : Floats :=
  match pin with
  | .dhh => { f with highHigh := f.highHigh.feed v }
  | .dll => { f with lowLow := f.lowLow.feed v }
  | _ => f

/-- A raw level reaches the filters of the screen unit (R121). -/
def Screen.feed (pin : Pin) (v : Bool) (u : Screen) : Screen :=
  match pin with
  | .dcam => { u with cam := u.cam.feed v }
  | .dovl => { u with overload := u.overload.feed v }
  | _ => u

/-- A raw level reaches the filter of its input, where that filter runs: the floats in LISTENING and OPERATING (R20), the screen's at a
screen station (R121), the others from the end of LOADING (R44, R94, R150). -/
def State.feed (pin : Pin) (v : Bool) (s : State) : State :=
  match pin with
  | .dhh => if s.working then s.withFloats (s.floats.feed pin v) else s
  | .dll => if s.working then s.withFloats (s.floats.feed pin v) else s
  | .dcam => if s.screenRuns then s.withScreen (s.screen.feed pin v) else s
  | .dovl => if s.screenRuns then s.withScreen (s.screen.feed pin v) else s
  | .dgen => if s.started then s.withTable { s.table with generator := s.table.generator.feed v } else s
  | .dack => if s.started then s.withAlarms { s.alarms with ack := s.alarms.ack.feed v } else s
  | .drun => if s.started then s.withPump (s.pump.feed pin v) else s
  | .dflt => if s.started then s.withPump (s.pump.feed pin v) else s
  | .dsh => if s.started then s.withPump (s.pump.feed pin v) else s
  | .dsa => if s.started then s.withPump (s.pump.feed pin v) else s

/-- INPUT_LEVEL_CHANGE (R33, R44, R94, R121, R150). -/
def execInputLevelChange (pin : Pin) (level : Bool) (s : State) : Host.Outcome State Fault Refusal :=
  .next ((s.withPins (s.pins.set pin level)).feed pin level)

/-- The filtered acknowledge input takes a level. -/
def State.takeAck (v : Bool) (s : State) : State :=
  s.withAlarms { s.alarms with ack := s.alarms.ack.take v }

/-- PANEL_ACKNOWLEDGE (R150): the filtered input becomes active, and every point is acknowledged with cause panel acknowledge. -/
def execPanelAcknowledge (s : State) : Host.Outcome State Fault Refusal :=
  .next (if s.alarms.ack.timer.due fastFilter = true ∧ s.pins.dack = true then (s.takeAck true).ackAll 3 else s)

/-- ACKNOWLEDGE_INPUT_RELEASED (R150): the filtered input becomes inactive. -/
def execAcknowledgeInputReleased (s : State) : Host.Outcome State Fault Refusal :=
  .next (if s.alarms.ack.timer.due fastFilter = true ∧ s.pins.dack = false then s.takeAck false else s)

end Sys2Proof.Machine
end

