-- ==== Sys2Proof/Machine/Spill.lean ====
section
/-! DEFINITION. The spill monitor (chapter 8): the monitor tick, the weir flow, the spill list, and what a town restart does to the working
record. -/

namespace Sys2Proof.Machine

/-- The weir flow with the whole-number root (R141), before its clamp. -/
def rawWeirFlow (km : Nat) (h : Int) : Nat :=
  let head := (min h 3000).toNat
  km * head * wholeSqrt (100 * head) / 316230

/-- q_w (R141). -/
def weirFlow (km : Nat) (h : Int) : Nat :=
  if h ≤ 0 then 0 else min 65535 (rawWeirFlow km h)

/-- The head or the flow was clamped (R146). A head of exactly 3,000 mm is not clamped (R141), and the flag is 0 there: the model's choice
(note 24). -/
def weirClamped (km : Nat) (h : Int) : Bool :=
  decide (3000 < h) || (decide (0 < h) && decide (65535 < rawWeirFlow km h))

/-- The greatest 32-bit count. -/
def maxCount32 : Nat := 4294967295

/-- A provisional record as its opening tick makes it (R137), before that tick is accounted. -/
def SpillRecord.opened (stamp : Stamp) (h : Int) : SpillRecord :=
  { number := 0, start := stamp, stop := none, elapsed := 0, duration := none, volume := 0, peak := h, gap := 0, gapFlag := false,
    cut := false, isOpen := false }

/-- A tick is accounted to a record (R142); the tick that opens it adds no second. -/
def SpillRecord.account (km : Nat) (head : Option Int) (opening : Bool) (r : SpillRecord) : SpillRecord :=
  let timed := { r with elapsed := if opening then r.elapsed else satAdd maxCount32 r.elapsed 1 }
  match head with
  | some h => { timed with volume := satAdd maxCount32 r.volume (weirFlow km h), peak := max r.peak h }
  | none => { timed with gap := satInc16 r.gap, gapFlag := true }

/-- The spill list (R143): the closed records and, as its newest, the open one. -/
def SpillMonitor.list (m : SpillMonitor) : List SpillRecord :=
  m.closed ++ (match m.working with
    | some r => if r.isOpen then [r] else []
    | none => [])

/-- The list with room for one more record (R143 step 3): the oldest of 16 leaves. -/
def makeRoom (records : List SpillRecord) : List SpillRecord :=
  if 16 ≤ records.length then records.drop 1 else records

/-- The provisional record is confirmed (R138, R143): the list is emptied at the number's wrap, the number rises, room is made, the record
enters it open. -/
def SpillMonitor.confirm (r : SpillRecord) (m : SpillMonitor) : SpillMonitor :=
  let number := if m.number = 65535 then 1 else m.number + 1
  { m with
    state := .spilling
    number := number
    closed := makeRoom (if m.number = 65535 then [] else m.closed)
    working := some { r with number := number, isOpen := true } }

/-- The spill state rules of a tick (R137 to R139), from the head just formed. The end stamp is taken here and the duration with it: the
elapsed seconds this tick makes (note 15). A close is left to the end of the tick (R140). -/
def SpillMonitor.rules (g : Settings) (stamp : Stamp) (head : Option Int) (m : SpillMonitor) : SpillMonitor :=
  match m.state, head, m.working with
  | .none, some h, _ =>
    if g.startMargin ≤ h then { m with state := .confirming, confirmCount := 0, working := some (.opened stamp h) } else m
  | .confirming, some h, some r =>
    if g.startMargin ≤ h then
      let counted := { m with confirmCount := m.confirmCount + 1 }
      if g.confirmTime ≤ m.confirmCount + 1 then counted.confirm r else counted
    else { m with state := .none, working := none, discards := satInc16 m.discards }
  | .spilling, some h, some r =>
    if h < g.endMargin then
      { m with
        state := .ending, endCount := 0
        working := some { r with stop := some stamp, duration := some (satAdd maxCount32 r.elapsed 1) } }
    else m
  | .ending, some h, some r =>
    if h < g.endMargin then { m with endCount := m.endCount + 1 }
    else { m with state := .spilling, endCount := 0, working := some { r with stop := none, duration := none } }
  | _, _, _ => m

/-- The tick is accounted to the working record (R142), and the last weir flow noted (R146). -/
def SpillMonitor.account (g : Settings) (opening : Bool) (m : SpillMonitor) : SpillMonitor :=
  match m.working with
  | none => m
  | some r =>
    { m with
      working := some (r.account g.weirFactor m.head opening)
      lastFlow := match m.head with
        | some h => some (weirFlow g.weirFactor h)
        | none => m.lastFlow
      lastClamped := match m.head with
        | some h => weirClamped g.weirFactor h
        | none => m.lastClamped }

/-- The record closes once the end count has reached the end time (R140). -/
def SpillMonitor.close (g : Settings) (m : SpillMonitor) : SpillMonitor :=
  match m.state, m.working with
  | .ending, some r =>
    if g.endTime ≤ m.endCount then
      { m with state := .none, working := none, closed := m.closed ++ [{ r with isOpen := false }] }
    else m
  | _, _ => m

/-- The head of a tick (R136). -/
def State.spillHead (s : State) : Option Int :=
  s.chanX.usable.map (fun level => level - s.cfg.crestLevel)

/-- The monitor after the state rules, the accounting and the close of one tick (R136). -/
def SpillMonitor.tick (g : Settings) (stamp : Stamp) (head : Option Int) (m : SpillMonitor) : SpillMonitor :=
  let ruled := { m with head := head }.rules g stamp head
  (ruled.account g (m.state == .none)).close g

/-- The peak head in whole centimetres and the clamped duration of SPILL_END (R144). -/
def spillEndValue (r : SpillRecord) : Nat :=
  min 1048575 (r.duration.getD 0) * 4096 + r.peak.toNat / 10

/-- The events of a tick (R144): SPILL_START at the confirmation, SPILL_END at the close. -/
def State.offerSpillEvents (before : SpillState) (s : State) : State :=
  match before, s.spill.state, s.spill.working, s.spill.closed.getLast? with
  | .confirming, .spilling, some r, _ =>
    s.offer .spillStart (spillStateCode .spilling) [valueOf r.number, r.start.seconds]
  | .ending, .none, _, some r =>
    s.offer .spillEnd (spillStateCode .none) [valueOf (spillEndValue r), valueOf r.volume]
  | _, _, _, _ => s

/-- The raw condition of the point SPILLING (R145). -/
def SpillState.openRecord : SpillState → Bool
  | .spilling | .ending => true
  | _ => false

/-- A monitor tick (R136): the monitor's own part, then the hand-on of R144 and R145: the events, the sequencer's lockout figure, the alarm
block. -/
def State.monitorTick (s : State) : State :=
  if s.weirRuns then
    let ticked := s.withSpill (s.spill.tick s.cfg s.stamp s.spillHead)
    let offered := ticked.offerSpillEvents s.spill.state
    (if s.spill.state = ticked.spill.state then offered else offered.checkLockout).deliver .spilling
      (SpillState.openRecord ticked.spill.state)
  else s

/-- The tick about to come confirms a spill (R138). -/
def State.tickConfirms (s : State) : Bool :=
  s.weirRuns && s.spill.state == .confirming
    && (s.spillHead.map (fun h => decide (s.cfg.startMargin ≤ h))).getD false && s.cfg.confirmTime ≤ s.spill.confirmCount + 1

/-- The tick about to come closes the record (R140). -/
def State.tickCloses (s : State) : Bool :=
  s.weirRuns && s.spill.state == .ending
    && (s.spillHead.map (fun h => decide (h < s.cfg.endMargin))).getD false && s.cfg.endTime ≤ s.spill.endCount + 1

/-- What a town restart does to the working record (R135). -/
def SpillMonitor.restart (stamp : Stamp) (m : SpillMonitor) : SpillMonitor :=
  let kept := { SpillMonitor.reset with number := m.number, closed := m.closed }
  match m.state, m.working with
  | .confirming, _ => { kept with discards := 1 }
  | .spilling, some r =>
    { kept with closed := m.closed ++ [{ r with stop := some stamp, duration := some r.elapsed, cut := true, isOpen := false }] }
  | .ending, some r => { kept with closed := m.closed ++ [{ r with cut := true, isOpen := false }] }
  | _, _ => kept

end Sys2Proof.Machine
end

