-- ==== Sys2Proof/Machine/Clock.lean ====
section
/-! DEFINITION. The seconds clock and what each second drives: the run-seconds count and the hours word (R62, R63), the contactor-closed time,
the monitor tick (R136); and the setting of the clock (R165). -/

namespace Sys2Proof.Machine

/-- The hours word (R172): the run hours and the low byte of their check value. -/
def hoursWord (hours : Nat) : List Byte :=
  let two := halfBytes (BitVec.ofNat 16 hours)
  two ++ [(crc two).setWidth 8]

/-- The place of the hours word in the configuration memory (section 11.5). -/
def hoursAddress : Nat := 0x100

/-- The write of the hours word begins, or is marked pending while a write is in progress (R63). -/
def Pump.writeHours (p : Pump) : Pump :=
  match p.hoursWrite with
  | .writing _ _ => { p with hoursPending := true }
  | .idle => { p with hoursWrite := .writing hoursAddress (hoursWord p.runHours) }

/-- The greatest run-seconds count (R62). -/
def maxRunSeconds : Nat := 235929599

/-- The run-seconds counter at a second of the clock (R62); it counts from LISTENING or CONFIG_FAULT onward while RUN_FB is present. -/
def State.nextRunSeconds (s : State) : Nat :=
  if s.started && s.pump.runFb.active then satAdd maxRunSeconds s.pump.runSeconds 1 else s.pump.runSeconds

/-- The second about to come raises the run hours (R63). -/
def State.hoursRise (s : State) : Bool := s.pump.runHours < s.nextRunSeconds / 3600

/-- The pump's share of a second: the contactor-closed time and the run-seconds counter; a rise of the run hours begins a write of the hours
word (R63) and has the claim conditions evaluated (R105). -/
def State.countRun (s : State) : State :=
  let counted := { s.pump with
    closedSeconds := if s.pump.contactor then satAdd maxCount32 s.pump.closedSeconds 1 else s.pump.closedSeconds
    runSeconds := s.nextRunSeconds }
  if s.hoursRise then (s.withPump counted.writeHours).evalClaim else s.withPump counted

/-- One second of the seconds clock (R169). The run-seconds count, with the hours rise and its claim evaluation (R62), comes before the monitor
tick (R136): the model's choice (note 8). -/
def State.secondTick (s : State) : State :=
  ((s.withClock { s.clock with seconds := s.clock.seconds + 1 }).countRun).monitorTick

/-- SECONDS_CLOCK_TICK (R169). -/
def execSecondsClockTick (s : State) : Host.Outcome State Fault Refusal :=
  .next s.secondTick

/-- SPILL_CONFIRM (R138): the second whose monitor tick confirms the provisional record; no other state has one. -/
def execSpillConfirm (s : State) : Host.Outcome State Fault Refusal :=
  .next (if s.tickConfirms then s.secondTick else s)

/-- SPILL_CLOSE (R140): the second whose monitor tick closes the record; no other state has one. -/
def execSpillClose (s : State) : Host.Outcome State Fault Refusal :=
  .next (if s.tickCloses then s.secondTick else s)

/-- RUN_HOURS_RISE (R63): the second at which the run hours rise by one; no other state has one. -/
def execRunHoursRise (s : State) : Host.Outcome State Fault Refusal :=
  .next (if s.hoursRise then s.secondTick else s)

/-- The end of a write of the hours word (R63): a pending write begins with the run hours as they stand. -/
def Pump.endHoursWrite (acknowledged : Bool) (p : Pump) : Pump :=
  { p with
    configWrite := !acknowledged
    hoursPending := false
    hoursWrite := if p.hoursPending then .writing hoursAddress (hoursWord p.runHours) else .idle }

/-- HOURS_WRITE_COMPLETE (R63): CONFIG_WRITE rises on a failure and falls on a success. -/
def execHoursWriteComplete (acknowledged : Bool) (s : State) : Host.Outcome State Fault Refusal :=
  .next (match s.pump.hoursWrite with
    | .writing _ _ => (s.withPump (s.pump.endHoursWrite acknowledged)).deliver .configWrite (!acknowledged)
    | .idle => s)

/-- The clock is set and becomes synchronised, and TIME_SET is offered with the clock before and after (R165). -/
def State.setClock (source : Station) (subject : Nat) (seconds : Word) (s : State) : State :=
  (s.withClock { s.clock with seconds := seconds, sync := true }).offerFrom source .timeSet subject [s.clock.seconds, seconds]

end Sys2Proof.Machine
end

