-- ==== Sys2Proof/Machine/Image.lean ====
section
/-! DEFINITION. The configuration image and the hours word (sections 11.2 and 11.5): the layout, the checks of R170 to R172, and the settings an
accepted image gives. -/

namespace Sys2Proof.Machine

/-- How a field of the image reads (R171, section 11.5). -/
inductive FieldWidth where
  | byte | half | signed | word
  deriving DecidableEq, Repr

/-- The bytes of a field. -/
def FieldWidth.size : FieldWidth → Nat
  | .byte => 1 | .half => 2 | .signed => 2 | .word => 4

/-- A field of the image: its offset, its width, its default where the parameter has one, and its allowed ranges. -/
structure Field where
  offset : Nat
  width : FieldWidth
  default : Option Int
  ranges : List (Int × Int)
  deriving DecidableEq, Repr

/-- A number of the image, least significant byte first. -/
def imageNumber (image : List Byte) (offset : Nat) : Nat → Nat
  | 0 => 0
  | n + 1 => (image.getD offset 0).toNat + 256 * imageNumber image (offset + 1) n

/-- The value of a field: its default at all ones, where it has one, and its number otherwise (R171). -/
def Field.value (image : List Byte) (f : Field) : Int :=
  let number := imageNumber image f.offset f.width.size
  if number = 2 ^ (8 * f.width.size) - 1 ∧ f.default.isSome = true then f.default.getD 0
  else if f.width = .signed then (BitVec.ofNat 16 number).toInt
  else number

/-- The value of a field that is not signed. -/
def Field.count (image : List Byte) (f : Field) : Nat := (f.value image).toNat

/-- A field lies in its range (R171). -/
def Field.good (image : List Byte) (f : Field) : Bool :=
  f.ranges.any fun r => decide (r.1 ≤ f.value image) && decide (f.value image ≤ r.2)

/-- A byte with a default. -/
def byteField (offset : Nat) (default lo hi : Int) : Field := { offset := offset, width := .byte, default := some default, ranges := [(lo, hi)] }

/-- Two bytes with a default. -/
def halfField (offset : Nat) (default lo hi : Int) : Field := { offset := offset, width := .half, default := some default, ranges := [(lo, hi)] }

/-- Two bytes without a default. -/
def plainField (offset : Nat) (lo hi : Int) : Field := { offset := offset, width := .half, default := none, ranges := [(lo, hi)] }

/-- A signed level, without a default. -/
def levelField (offset : Nat) (lo hi : Int) : Field := { offset := offset, width := .signed, default := none, ranges := [(lo, hi)] }

/-- A field that may also be 0, off. -/
def Field.orOff (f : Field) : Field := { f with ranges := (0, 0) :: f.ranges }

/-! The fields of section 11.5, in the order of their offsets; `base` is the offset of a channel's first field. -/

def datumField (base : Nat) : Field := levelField base (-5000) 5000
def spanField (base : Nat) : Field := plainField (base + 2) 500 20000
def stepField (base : Nat) : Field := (halfField (base + 4) 300 20 2000).orOff
def faultHoldField (base : Nat) : Field := byteField (base + 6) 10 0 60
def checkField (base : Nat) : Field := (halfField (base + 7) 60 1 1440).orOff
def disagreeField : Field := halfField 20 300 50 2000
def intervalField : Field := byteField 22 10 4 120
def debounceField : Field := byteField 23 4 1 20
def invalidHoldField : Field := halfField 24 120 30 600
def fallbackField : Field := byteField 26 1 0 8
def utilityField : Field := byteField 27 4 1 8
def generatorField : Field := byteField 28 2 0 8
def riskField : Field := levelField 29 (-5000) 25000
def ratedField : Field := plainField 31 1 10000
def trendField : Field := levelField 33 (-5000) 25000
def referenceField : Field := plainField 35 1 5000
def volumeCountField : Field := { offset := 37, width := .byte, default := none, ranges := [(0, 255)] }
def pointLevelField (n : Nat) : Field := levelField (38 + 6 * n) (-5000) 25000
def pointVolumeField (n : Nat) : Field := { offset := 40 + 6 * n, width := .word, default := none, ranges := [(0, 16000000)] }
def bandCountField : Field := { offset := 110, width := .byte, default := none, ranges := [(0, 255)] }
def bandStartField (n : Nat) : Field := levelField (111 + 4 * n) (-5000) 25000
def bandStopField (n : Nat) : Field := levelField (113 + 4 * n) (-5000) 25000
def minimumOffField : Field := halfField 143 300 60 1800
def stormField : Field := halfField 145 60 10 600
def feedbackField : Field := byteField 147 3 1 10
def settleField : Field := byteField 148 5 1 30
def minimumRunField : Field := halfField 149 120 30 900
def spacingField : Field := byteField 151 15 5 60
def isolatedField (station : Station) : Field := byteField 152 (station.val + 1) 1 8
def reportField : Field := halfField 153 500 250 2000
def lostReleaseField : Field := halfField 155 60 10 300
def houseSizeField : Field := byteField 157 2 1 8
def screenLostField : Field := byteField 158 8 0 8
def reporterField : Field := byteField 159 0 0 8
def claimHoldField : Field := halfField 160 400 200 2000
def windowField : Field := byteField 162 20 5 60
def patienceField : Field := byteField 163 5 2 30
def rakeLevelField : Field := halfField 164 150 50 1000
def blindLevelField : Field := halfField 166 400 100 2000
def blindClearField : Field := halfField 168 300 50 1999
def blindedField : Field := byteField 170 2 0 8
def unknownField : Field := byteField 171 8 0 8
def rakeIntervalField : Field := (byteField 172 30 5 240).orOff
def restField : Field := halfField 173 60 10 600
def cycleField : Field := halfField 175 90 20 300
def reverseField : Field := byteField 177 4 2 10
def crestField : Field := levelField 178 (-5000) 25000
def weirFactorField : Field := plainField 180 100 50000
def startMarginField : Field := byteField 182 20 5 200
def confirmField : Field := halfField 183 30 5 300
/-- The upper bound of the end margin is the consistency check's (section 8.1, note 27). -/
def endMarginField : Field := byteField 185 10 0 255
def endTimeField : Field := halfField 186 300 60 1800
def lampField : Field := { offset := 188, width := .word, default := some 4294967295, ranges := [(0, 4294967295)] }
def classField : Field := byteField 192 255 0 255
def addressField : Field := { offset := 193, width := .byte, default := none, ranges := [(1, 247)] }
def bitRateField : Field := byteField 194 0 0 2
def remoteField : Field := byteField 195 1 0 1
def timeoutField : Field := (halfField 196 300 10 3600).orOff

/-- The X role as its byte gives it; outside 0 to 2 it is a consistency failure (R171). -/
def imageRole (image : List Byte) : Option XRole :=
  match (image.getD 1 0).toNat with
  | 0 => some .none
  | 1 => some .screen
  | 2 => some .weir
  | _ => none

/-- The points of the volume table that are read: its count, at most 12. -/
def pointCount (image : List Byte) : Nat := min 12 (volumeCountField.count image)

/-- The bands that are read: their count, at most 8. -/
def bandCount (image : List Byte) : Nat := min 8 (bandCountField.count image)

/-- The five fields of a channel. -/
def channelFields (base : Nat) : List Field :=
  [datumField base, spanField base, stepField base, faultHoldField base, checkField base]

/-- Every field that is checked, in ascending order of offset (R170, R171). -/
def checkedFields (station : Station) (image : List Byte) : List Field :=
  channelFields 2 ++ channelFields 11
    ++ [disagreeField, intervalField, debounceField, invalidHoldField, fallbackField, utilityField, generatorField, riskField, ratedField,
        trendField, referenceField, volumeCountField]
    ++ (List.range (pointCount image)).flatMap (fun n => [pointLevelField n, pointVolumeField n])
    ++ [bandCountField]
    ++ (List.range (bandCount image)).flatMap (fun n => [bandStartField n, bandStopField n])
    ++ [minimumOffField, stormField, feedbackField, settleField, minimumRunField, spacingField, isolatedField station, reportField,
        lostReleaseField, houseSizeField, screenLostField, reporterField, claimHoldField, windowField, patienceField]
    ++ (if imageRole image = some .screen then
        [rakeLevelField, blindLevelField, blindClearField, blindedField, unknownField, rakeIntervalField, restField, cycleField,
          reverseField]
      else [])
    ++ (if imageRole image = some .weir then
        [crestField, weirFactorField, startMarginField, confirmField, endMarginField, endTimeField]
      else [])
    ++ [lampField, classField, addressField, bitRateField, remoteField, timeoutField]

/-- The volume table as read. -/
def imagePoints (image : List Byte) : List (Int × Nat) :=
  (List.range (pointCount image)).map fun n => ((pointLevelField n).value image, (pointVolumeField n).count image)

/-- The bands as read. -/
def imageBands (image : List Byte) : List (Int × Int) :=
  (List.range (bandCount image)).map fun n => ((bandStartField n).value image, (bandStopField n).value image)

/-- Neighbours of a list stand in an order. -/
def ordered {α : Type} (r : α → α → Bool) : List α → Bool
  | a :: b :: rest => r a b && ordered r (b :: rest)
  | _ => true

/-- The consistency checks (R171), each with the offset of the first field it names. -/
def consistencyChecks (image : List Byte) : List (Nat × Bool) :=
  [(1, (imageRole image).isSome),
   (37, decide (2 ≤ volumeCountField.count image) && decide (volumeCountField.count image ≤ 12)
      && ordered (fun a b => decide (a.1 < b.1) && decide (a.2 ≤ b.2)) (imagePoints image)),
   (110, decide (1 ≤ bandCountField.count image) && decide (bandCountField.count image ≤ 8)
      && ordered (fun a b => decide (a.1 < b.1) && decide (a.2 < b.2)) (imageBands image)
      && (imageBands image).all (fun a => decide (a.2 < a.1))),
   (164, imageRole image != some .screen
      || (decide (rakeLevelField.value image < blindLevelField.value image)
        && decide (blindClearField.value image < blindLevelField.value image))),
   (185, imageRole image != some .weir || decide (endMarginField.value image < startMarginField.value image))]

/-- The settings of a channel. -/
def imageChannel (image : List Byte) (base : Nat) : ChannelSettings :=
  { datum := (datumField base).value image, span := (spanField base).count image, stepLimit := (stepField base).count image,
    faultHold := (faultHoldField base).count image, checkInterval := (checkField base).count image }

/-- The bit rate of its code (section 11.5). -/
def bitRateOf (code : Nat) : Nat :=
  if code = 1 then 19200 else if code = 2 then 38400 else 9600

/-- The settings an image gives (section 11.5). -/
def imageSettings (station : Station) (image : List Byte) : Settings :=
  { role := (imageRole image).getD .none, channelW := imageChannel image 2, channelX := imageChannel image 11,
    disagreeLimit := disagreeField.count image, balanceInterval := intervalField.count image, floatDebounce := debounceField.count image,
    invalidHold := invalidHoldField.count image, fallbackDemand := fallbackField.count image, utilityLimit := utilityField.count image,
    generatorLimit := generatorField.count image, riskLevel := riskField.value image, ratedFlow := ratedField.count image,
    trendArm := trendField.value image, referenceFlow := referenceField.count image, volumeTable := imagePoints image,
    bands := imageBands image, minimumOff := minimumOffField.count image, stormLockout := stormField.count image,
    feedbackTime := feedbackField.count image, startSettle := settleField.count image, minimumRun := minimumRunField.count image,
    stopSpacing := spacingField.count image, isolatedPosition := (isolatedField station).count image,
    reportInterval := reportField.count image, lostRelease := lostReleaseField.count image, houseSize := houseSizeField.count image,
    screenLostLimit := screenLostField.count image, houseReporter := reporterField.count image, claimHold := claimHoldField.count image,
    windowLimit := windowField.count image, patience := patienceField.count image, rakeLevel := rakeLevelField.value image,
    blindLevel := blindLevelField.value image, blindClear := blindClearField.value image, blindedLimit := blindedField.count image,
    unknownLimit := unknownField.count image, rakeInterval := rakeIntervalField.count image, rest := restField.count image,
    cycleTimeout := cycleField.count image, reverseTime := reverseField.count image, crestLevel := crestField.value image,
    weirFactor := weirFactorField.count image, startMargin := startMarginField.value image, confirmTime := confirmField.count image,
    endMargin := endMarginField.value image, endTime := endTimeField.count image, lampMask := BitVec.ofNat 32 (lampField.count image),
    classMask := BitVec.ofNat 8 (classField.count image), townAddress := BitVec.ofNat 8 (addressField.count image),
    bitRate := bitRateOf (bitRateField.count image), remote := decide (remoteField.count image = 1),
    townTimeout := timeoutField.count image }

/-- The outcome of the image checks (R170): accepted, or the cause code with the failure offset. -/
inductive ImageVerdict where
  | accepted (settings : Settings)
  | failed (cause offset : Nat)
  deriving DecidableEq, Repr

/-- The failure offset of the causes without a field (R173). -/
def noOffset : Nat := 65535

/-- The first read attempt of three that succeeded, every byte acknowledged (R170). -/
def firstRead (size : Nat) (reads : List (Option (List Byte))) : Option (List Byte) :=
  (reads.take 3).findSome? fun r => r.filter fun bytes => bytes.length == size

/-- The checks of an image that has been read (R170, orders 2 to 5). -/
def checkImage (station : Station) (image : List Byte) : ImageVerdict :=
  if crc image ≠ 0 then .failed 1 noOffset
  else if image.getD 0 0 ≠ 1 then .failed 2 noOffset
  else
    match (checkedFields station image).find? (fun f => !f.good image), (consistencyChecks image).find? (fun c => !c.2) with
    | some f, _ => .failed 3 f.offset
    | none, some c => .failed 4 c.1
    | none, none => .accepted (imageSettings station image)

/-- The image as read and judged (R170). -/
def judgeImage (station : Station) (reads : List (Option (List Byte))) : ImageVerdict :=
  match firstRead 200 reads with
  | some image => checkImage station image
  | none => .failed 5 noOffset

/-- The run hours of the hours word (R172), `none` where the read or the check byte failed. -/
def judgeHours (reads : List (Option (List Byte))) : Option Nat :=
  match firstRead 3 reads with
  | some [b0, b1, check] => if check = (crc [b0, b1]).setWidth 8 then some (halfOf b0 b1).toNat else none
  | _ => none

end Sys2Proof.Machine
end

