-- ==== Sys2Proof/Machine/Screen.lean ====
section
/-! DEFINITION. The screen unit (chapter 7): the differential and the screen condition, triggers, the rake cycle, and the meanings of its
commands. -/

namespace Sys2Proof.Machine

/-! ## The rake (R127 to R131) -/

/-- The rake enters a state; the outputs follow it (section 7.4). -/
def Screen.enterRake (r : RakeState) (u : Screen) : Screen :=
  { u with rake := r, forwardOut := r == .forward, reverseOut := r == .clearing }

/-- The four timers of a cycle stop (R130, R131). -/
def Screen.stopTimers (u : Screen) : Screen :=
  { u with cycle := .stopped, camCheck := .stopped, reverse := .stopped, pause := .stopped }

/-- The cycle time in whole seconds, truncated (R134). -/
def State.cycleSeconds (s : State) : Nat := s.screen.cycle.reading (s.cfg.cycleTimeout * 1000) / 1000

/-- The rest is over: it is stopped at its limit or was never started (section 7.1). -/
def Screen.restOver (u : Screen) : Bool := !u.rest.isRunning

/-- The rake jams (R130). -/
def State.jamRake (s : State) : State :=
  ((s.withScreen (s.screen.stopTimers.enterRake .jammed)).deliver .rakeJammed true).offer .rakeJammed (rakeStateCode s.screen.rake)
    [valueOf s.screen.overloads, valueOf s.screen.cycles]

/-- Causes of a rake fault, in the order of their codes (R134). -/
inductive RakeFaultCause where
  | camStuck | timeout
  deriving DecidableEq, Repr

/-- The code of a rake fault's cause (R134). -/
def rakeFaultCode : RakeFaultCause → Nat
  | .camStuck => 0
  | .timeout => 1

/-- The rake faults (R131). -/
def State.faultRake (cause : RakeFaultCause) (s : State) : State :=
  ((s.withScreen (s.screen.stopTimers.enterRake .fault)).deliver .rakeFault true).offer .rakeFault (rakeFaultCode cause)
    [valueOf (rakeStateCode s.screen.rake), valueOf s.cycleSeconds]

/-- An overload is counted (R129, R130). -/
def Screen.countOverload (u : Screen) : Screen :=
  { u with overloadCount := satInc16 u.overloadCount, overloads := u.overloads + 1 }

/-- An overload in FORWARD (R129): the third jams the rake, an earlier one reverses it. -/
def State.overloadForward (s : State) : State :=
  let counted := s.withScreen s.screen.countOverload
  if 3 ≤ counted.screen.overloads then counted.jamRake
  else counted.withScreen { (counted.screen.enterRake .clearing) with reverse := .start }

/-- A cycle starts (R127). -/
def State.startCycle (cause : RakeCause) (s : State) : State :=
  let begun := s.withScreen
    { (s.screen.enterRake .forward) with
      cycleCause := cause, pendingFlag := false, overloads := 0, camArmed := false, cycle := .start, camCheck := .start,
      interval := if s.cfg.rakeInterval = 0 then .stopped else s.screen.interval.restart s.cfg.intervalTime }
  if begun.screen.overload.active then begun.overloadForward else begun

/-- A trigger (R125): it starts a cycle in RAKE_IDLE with the rest over, and is left pending otherwise. -/
def State.trigger (cause : RakeCause) (s : State) : State :=
  if s.screen.rake = .rakeIdle ∧ s.screen.restOver = true then s.startCycle cause
  else s.withScreen { s.screen with pendingFlag := true, pendingCause := cause }

/-- A set pending flag starts a cycle in RAKE_IDLE with the rest over (R127). -/
def State.startPending (s : State) : State :=
  if s.screen.rake = .rakeIdle ∧ s.screen.restOver = true ∧ s.screen.pendingFlag = true then s.startCycle s.screen.pendingCause else s

/-- The cam check (R128). -/
def State.checkCam (s : State) : State :=
  if s.screen.cam.active then s.faultRake .camStuck
  else s.withScreen { s.screen with camArmed := true, camCheck := .stopped }

/-! ## The differential and the condition (R122 to R124) -/

/-- The differential (R122). -/
def State.differential (s : State) : Option Int :=
  match s.chanX.usable with
  | none => none
  | some x =>
    match s.balance.level with
    | some h => some (x - h)
    | none => s.chanW.usable.map (fun w => x - w)

/-- The screen condition by the first row of R123 that applies. -/
def nextCondition (g : Settings) (present : ScreenCondition) : Option Int → ScreenCondition
  | none => .unknown
  | some d =>
    if present = .blinded ∧ g.blindClear ≤ d then .blinded
    else if g.blindLevel ≤ d then .blinded
    else if g.rakeLevel ≤ d then .loaded
    else .clear

/-- The own screen limit of a condition (R124). -/
def conditionLimit (g : Settings) : ScreenCondition → Nat
  | .clear => 8
  | .loaded => 8
  | .blinded => g.blindedLimit
  | .unknown => g.unknownLimit

/-- An X sample event as the screen unit meets it: the differential, the condition with SCREEN_BLINDED, the own screen limit to the peer
table, and the LEVEL trigger (R122 to R125). -/
def State.onXSample (s : State) : State :=
  if s.screenRuns then
    let delta := s.differential
    let condition := nextCondition s.cfg s.screen.condition delta
    let judged := ((s.withScreen { s.screen with delta := delta, condition := condition, limit := conditionLimit s.cfg condition }).deliver
      .screenBlinded (condition == .blinded)).recount
    if (delta.map (fun d => decide (s.cfg.rakeLevel ≤ d))).getD false then judged.trigger .level else judged
  else s

/-! ## Meanings -/

/-- CAM_FILTER_EXPIRY (R128): an armed cycle in FORWARD completes when the cam becomes active. -/
def execCamFilterExpiry (s : State) : Host.Outcome State Fault Refusal :=
  .next (if s.screenRuns = true ∧ s.screen.cam.timer.due fastFilter = true then
    let taken := s.withScreen { s.screen with cam := s.screen.cam.take s.pins.dcam }
    if taken.screen.cam.active = true ∧ s.screen.rake = .forward ∧ s.screen.camArmed = true then
      (taken.withScreen
        { (taken.screen.stopTimers.enterRake .rakeIdle) with rest := .start, cycles := satInc16 s.screen.cycles }).offer .rakeDone
        (rakeCauseCode s.screen.cycleCause) [valueOf s.cycleSeconds, valueOf s.screen.overloads]
    else taken
  else s)

/-- OVERLOAD_FILTER_EXPIRY (R129, R130). -/
def execOverloadFilterExpiry (s : State) : Host.Outcome State Fault Refusal :=
  .next (if s.screenRuns = true ∧ s.screen.overload.timer.due fastFilter = true then
    let taken := s.withScreen { s.screen with overload := s.screen.overload.take s.pins.dovl }
    if taken.screen.overload.active then
      match s.screen.rake with
      | .forward => taken.overloadForward
      | .clearing => (taken.withScreen taken.screen.countOverload).jamRake
      | _ => taken
    else taken
  else s)

/-- CAM_CHECK_EXPIRY (R128): the check is made in FORWARD, and waits for the next entry to FORWARD otherwise. -/
def execCamCheckExpiry (s : State) : Host.Outcome State Fault Refusal :=
  .next (if s.screen.camCheck.due camCheckTime then
    if s.screen.rake = .forward then s.checkCam else s.withScreen { s.screen with camCheck := .reached }
  else s)

/-- REVERSE_TIMER_EXPIRY (R129). -/
def execReverseTimerExpiry (s : State) : Host.Outcome State Fault Refusal :=
  .next (if s.screen.reverse.due s.cfg.reverseLimit = true ∧ s.screen.rake = .clearing then
    s.withScreen { (s.screen.enterRake .pause) with reverse := .stopped, pause := .start }
  else s)

/-- PAUSE_TIMER_EXPIRY (R129): FORWARD again; a cam check that fell due outside FORWARD is made first (R128), then an active overload input
is a further overload. -/
def execPauseTimerExpiry (s : State) : Host.Outcome State Fault Refusal :=
  .next (if s.screen.pause.due pauseTime = true ∧ s.screen.rake = .pause then
    let resumed := s.withScreen { (s.screen.enterRake .forward) with pause := .stopped }
    let checked := if resumed.screen.camCheck.hasReached then resumed.checkCam else resumed
    if checked.screen.rake = .forward ∧ checked.screen.overload.active = true then checked.overloadForward else checked
  else s)

/-- CYCLE_TIMEOUT (R131). -/
def execCycleTimeout (s : State) : Host.Outcome State Fault Refusal :=
  .next (if s.screen.cycle.due s.cfg.cycleTime = true ∧ (s.screen.rake = .forward ∨ s.screen.rake = .clearing ∨ s.screen.rake = .pause) then
    (s.withScreen { s.screen with cycle := .reached }).faultRake .timeout
  else s)

/-- REST_TIMER_EXPIRY (R127): the rest timer is stopped at its limit, and the rest is over (section 7.1). -/
def execRestTimerExpiry (s : State) : Host.Outcome State Fault Refusal :=
  .next (if s.screen.rest.due s.cfg.restTime then (s.withScreen { s.screen with rest := .stopped }).startPending else s)

/-- INTERVAL_TIMER_EXPIRY (R126): the timer can expire only while C is above 0 and the rake is not in RAKE_OFF; it restarts and is a trigger. -/
def execIntervalTimerExpiry (s : State) : Host.Outcome State Fault Refusal :=
  .next (if s.screen.interval.canExpire s.cfg.intervalTime = true ∧ 0 < s.table.drawing ∧ s.screen.rake ≠ .rakeOff then
    (s.withScreen { s.screen with interval := .start }).trigger .interval
  else s)

/-- RAKE_NOW applied to this station (R132). -/
def State.rakeNow (s : State) : State := if s.screenRuns then s.trigger .command else s

/-- RESET_RAKE has an effect: a latched JAMMED or FAULT at a screen station (R132, R164). -/
def State.rakeLatched (s : State) : Bool := s.screenRuns && (s.screen.rake == .jammed || s.screen.rake == .fault)

/-- RESET_RAKE applied to this station (R132): the latch is cleared, the rest counts as over, and a pending flag starts a cycle at once. -/
def State.resetRake (s : State) : State :=
  if s.rakeLatched then
    (((s.withScreen { (s.screen.enterRake .rakeIdle) with overloads := 0, camArmed := false, rest := .stopped }).deliver
      .rakeJammed false).deliver .rakeFault false).startPending
  else s

end Sys2Proof.Machine
end

