-- ==== Sys2Proof/Machine/Level.lean ====
section
/-! DEFINITION. The level channels (chapter 1): from current to level and quality, step rejection, faults, the self-check, and the meanings of
their commands. -/

namespace Sys2Proof.Machine

/-- The class of a corrected current (R4): the current used for the level and the sample quality, `none` for a fault. -/
def classifyCurrent (i : Int) : Option (Int × SampleQuality) :=
  if i < 3000 then none
  else if i < 3800 then some (4000, .lowSat)
  else if i < 4000 then some (4000, .good)
  else if i ≤ 20000 then some (i, .good)
  else if i ≤ 20500 then some (20000, .good)
  else if i ≤ 22000 then some (20000, .highSat)
  else none

/-- The sample level of a valid sample's current (R5). -/
def sampleLevel (g : ChannelSettings) (current : Int) : Int :=
  g.datum + roundHalfUp ((current - 4000) * g.span) 16000

/-- The window is filled with eight copies of a level (R6, R8). -/
def Channel.fill (level : Int) (q : SampleQuality) (c : Channel) : Channel :=
  { c with samples := List.replicate 8 level, level := some level, newest := q, consecutive := 0 }

/-- A sample joins the filled window (R9). -/
def Channel.join (level : Int) (q : SampleQuality) (c : Channel) : Channel :=
  { c with
    samples := c.samples.drop 1 ++ [level]
    level := some (roundHalfUp (c.samples.drop 1 ++ [level]).sum 8)
    newest := q
    consecutive := 0 }

/-- A sample is rejected (R7). -/
def Channel.reject (c : Channel) : Channel :=
  { c with consecutive := c.consecutive + 1, rejects := satInc16 c.rejects }

/-- A level lies further from the channel level than the step limit (R7). -/
def Channel.outOfStep (g : ChannelSettings) (level : Int) (c : Channel) : Bool :=
  g.stepLimit != 0 && (g.stepLimit : Int) < |level - c.level.getD level|

/-- A valid sample reaches the window (R6 to R9). -/
def Channel.takeValid (g : ChannelSettings) (level : Int) (q : SampleQuality) (c : Channel) : Channel :=
  if c.samples = [] then c.fill level q
  else if c.outOfStep g level then (if c.consecutive < 2 then c.reject else c.fill level q)
  else c.join level q

/-- A valid sample ends a fault (R12): the condition is CLEAR, the hold timer stopped, the window empty. -/
def Channel.recover (c : Channel) : Channel :=
  if c.fault = .clear then c else { c with fault := .clear, hold := .stopped, samples := [] }

/-- A fault sample (R11). With a fault hold time of 0 the hold timer is not started, and EXPIRED has it stopped: the model's choice (note 44). -/
def Channel.faultSample (g : ChannelSettings) (c : Channel) : Channel :=
  if c.fault = .clear then
    if g.faultHold = 0 then { c with fault := .expired } else { c with fault := .holding, hold := .start }
  else c

/-- A conversion is classified and processed (R4 to R9, R11, R12). -/
def Channel.classified (g : ChannelSettings) (conversion : Int) (c : Channel) : Channel :=
  match classifyCurrent (clampInt 0 25000 conversion - c.offset) with
  | none => c.faultSample g
  | some (current, q) => c.recover.takeValid g (sampleLevel g current) q

/-- The reference mean sets the offset correction and the check flag (R17). -/
def Channel.formOffset (second : Int) (c : Channel) : Channel :=
  let mean := truncDiv (c.firstRef + second) 2
  { c with offset := clampInt (-200) 200 mean, checkFlag := decide (mean < -200 ∨ 200 < mean) }

/-- The check timer as SAMPLING is entered (R3, R14): it starts unless the self-check interval is 0. -/
def checkTimerStart (g : ChannelSettings) : Timer :=
  if g.checkInterval = 0 then .stopped else .start

/-- A sample event in CHECKING (R15): the conversion of the period that follows the last one. -/
def Channel.checkEvent (g : ChannelSettings) (conversion : Int) (c : Channel) : Channel :=
  match c.period with
  | 1 => { c with period := 2 }
  | 2 => { c with period := 3, firstRef := clampInt (-1000) 1000 conversion }
  | 3 => { (c.formOffset (clampInt (-1000) 1000 conversion)) with period := 4 }
  | 4 => { c with period := 5 }
  | _ => { c with phase := .sampling, period := 1, check := checkTimerStart g }

/-- A self-check begins (R14): the sample event is its period 1, and the timer has stopped. -/
def Channel.beginCheck (c : Channel) : Channel :=
  { c with phase := .checking, period := 1, heldInvalid := c.quality == .invalid, check := .stopped }

/-- A discard in SETTLING (R3). -/
def Channel.settle (g : ChannelSettings) (c : Channel) : Channel :=
  if c.discard ≤ 1 then { c with discard := 0, phase := .sampling, check := checkTimerStart g }
  else { c with discard := c.discard - 1 }

/-- One sample event of a channel, by its phase (R1). -/
def Channel.sample (g : ChannelSettings) (conversion : Int) (c : Channel) : Channel :=
  match c.phase with
  | .stopped => c
  | .settling => c.settle g
  | .sampling => if c.check.hasReached then c.beginCheck else c.classified g conversion
  | .checking => c.checkEvent g conversion

/-- A channel starts (R3). -/
def Channel.begin : Channel := { Channel.reset with phase := .settling, discard := 2 }

/-- The fault point of a channel (R13). -/
def faultPoint : ChannelId → AlarmPoint
  | .w => .wFault
  | .x => .xFault

/-- The check point of a channel (R17). -/
def checkPoint : ChannelId → AlarmPoint
  | .w => .wCheck
  | .x => .xCheck

/-- The level and quality are offered to the channel's users (R18). -/
def State.offerLevel (ch : ChannelId) (s : State) : State :=
  match ch with
  | .w => s.onWSample
  | .x => s.onXSample

/-- The end of a sample event: the channel offers its present level and quality (R1). -/
def Channel.offer (c : Channel) : Channel := { c with offeredLevel := c.level, offeredQuality := c.quality }

/-- A sample event of a channel (R1): the conversion by its phase and the offer, its flags to the alarm block (R19), its level to its users
(R18). -/
def State.sampleChannel (ch : ChannelId) (conversion : Int) (s : State) : State :=
  if (s.chan ch).phase = .stopped then s
  else
    let c := ((s.chan ch).sample (s.cfg.channel ch) conversion).offer
    (((s.withChan ch c).deliver (faultPoint ch) (c.fault != .clear)).deliver (checkPoint ch) c.checkFlag).offerLevel ch

/-- SAMPLE_EVENT (R1). -/
def execSampleEvent (ch : ChannelId) (conversion : Int) (s : State) : Host.Outcome State Fault Refusal :=
  .next (s.sampleChannel ch conversion)

/-- SETTLING_END (R3): the sample event that is the second discard; no other state has one. -/
def execSettlingEnd (ch : ChannelId) (s : State) : Host.Outcome State Fault Refusal :=
  .next (if (s.chan ch).phase = .settling ∧ (s.chan ch).discard ≤ 1 then s.sampleChannel ch 0 else s)

/-- CHECK_END (R15): the sample event of check period 6; no other state has one. -/
def execCheckEnd (ch : ChannelId) (s : State) : Host.Outcome State Fault Refusal :=
  .next (if (s.chan ch).phase = .checking ∧ (s.chan ch).period = 5 then s.sampleChannel ch 0 else s)

/-- CHECK_TIMER_EXPIRY (R14): the timer stops at the interval, and the check begins at the next sample event. -/
def execCheckTimerExpiry (ch : ChannelId) (s : State) : Host.Outcome State Fault Refusal :=
  .next (if (s.chan ch).check.due (s.cfg.channel ch).checkTime then s.withChan ch { s.chan ch with check := .reached } else s)

/-- FAULT_HOLD_EXPIRY (R12): HOLDING becomes EXPIRED, and the quality INVALID with it; the users take it with the next offer (R1). That the hold
timer stands at its limit in EXPIRED is the model's choice (note 44). -/
def execFaultHoldExpiry (ch : ChannelId) (s : State) : Host.Outcome State Fault Refusal :=
  .next (if (s.chan ch).fault = .holding ∧ (s.chan ch).hold.due (s.cfg.channel ch).holdTime = true then
    s.withChan ch { s.chan ch with fault := .expired, hold := .reached }
  else s)

end Sys2Proof.Machine
end

