-- ==== Sys2Proof/Machine/Start.lean ====
section
/-! DEFINITION. The start-up unit (chapter 11): the two starts, the end of LOADING, CONFIG_FAULT, and the entry to operation. -/

namespace Sys2Proof.Machine

/-- FULL_START (R168): every block at its reset values. The pins keep their levels and the commands that wait keep waiting (note 6). -/
def execFullStart (s : State) : Host.Outcome State Fault Refusal :=
  .next ((State.reset.withPins s.pins).withPending s.pending)

/-- TOWN_RESTART (R135, R166, R168): a full start that keeps the clock, the spill list and the spill number. It follows a served RESTART alone. -/
def execTownRestart (s : State) : Host.Outcome State Fault Refusal :=
  .next (if s.town.restarting then
    (((State.reset.withClock s.clock).withSpill (s.spill.restart s.stamp)).withPins s.pins).withPending s.pending
  else s)

/-- The station number of the straps (R170). -/
def strapStation (st0 st1 st2 : Bool) : Station :=
  Fin.ofNat 8 (st0.toNat + 2 * st1.toNat + 4 * st2.toNat)

/-- The sequencer as its filters start (R44, R45), the contactor open: the run hours from the hours word, CONFIG_WRITE where that failed (R172). -/
def Pump.begin (st : PumpState) (pins : Pins) (hours : Option Nat) (p : Pump) : Pump :=
  { p with
    state := st
    contactor := false
    runSeconds := hours.getD 0 * 3600
    configWrite := hours.isNone
    runFb := .begin pins.drun
    faultContact := .begin pins.dflt
    contactHand := .begin pins.dsh
    contactAuto := .begin pins.dsa }

/-- What starts at the end of LOADING in either start state (R44, R94, R148, R159): the sequencer's filters, the generator contact, the
acknowledge input, the relays and the summary from the points, the Town Line's silence timer. -/
def State.beginCommon (st : PumpState) (hours : Option Nat) (s : State) : State :=
  (((s.withPump (s.pump.begin st s.pins hours)).withTable { s.table with generator := .begin s.pins.dgen }).withAlarms
    ({ s.alarms with ack := .begin s.pins.dack }.refresh s.lampMask)).withTown { s.town with silence := .start }

/-- Channel X starts unless its role is NONE (R3). -/
def State.beginChannels (g : Settings) (s : State) : State :=
  if g.role = .none then s.withChanW .begin else (s.withChanW .begin).withChanX .begin

/-- The balance unit and the floats start (R20, R36). -/
def State.beginBalance (s : State) : State :=
  (s.withBalance { s.balance with timer := .start, invalidHold := .start }).withFloats
    { highHigh := .begin s.pins.dhh, lowLow := .begin s.pins.dll }

/-- The screen unit starts at a screen station (R121). -/
def State.beginScreen (g : Settings) (s : State) : State :=
  if g.role = .screen then
    s.withScreen { s.screen with limit := g.unknownLimit, cam := .begin s.pins.dcam, overload := .begin s.pins.dovl }
  else s

/-- Entry to LISTENING (R174, ENTER_LISTENING). -/
def State.enterListening (g : Settings) (hours : Option Nat) (s : State) : State :=
  let listening := s.withStart { s.start with phase := .listening, settings := g, listening := .start }
  (((((listening.beginCommon .startup hours).beginChannels g).beginBalance.beginScreen g).queueReport).withCounts).deliver .configWrite
    hours.isNone

/-- Entry to CONFIG_FAULT (R156, R173, ENTER_CONFIG_FAULT). -/
def State.enterConfigFault (cause offset : Nat) (hours : Option Nat) (s : State) : State :=
  let faulted := s.withStart { s.start with phase := .configFault, settings := .configFault s.own, listening := .stopped }
  (((faulted.beginCommon .unconfigured hours).offer .configFault cause [valueOf offset]).queueReport).deliver .configWrite hours.isNone

/-- LOADING_END (R170 to R174). -/
def execLoadingEnd (st0 st1 st2 : Bool) (imageReads hoursReads : List (Option (List Byte))) (s : State) : Host.Outcome State Fault Refusal :=
  .next (if s.start.phase = .loading then
    let strapped := s.withStart { s.start with station := strapStation st0 st1 st2 }
    match judgeImage (strapStation st0 st1 st2) imageReads with
    | .accepted g => strapped.enterListening g (judgeHours hoursReads)
    | .failed cause offset => strapped.enterConfigFault cause offset (judgeHours hoursReads)
  else s)

/-- The sequencer leaves STARTUP (R45). -/
def State.leaveStartup (s : State) : State :=
  match s.pump.position with
  | .off => s.enter .off
  | .hand => s.enter .hand
  | .auto => s.enterRest .lockout

/-- The screen unit at entry to OPERATING (R121, R126, R127). -/
def State.openRake (s : State) : State :=
  if s.screenRuns then
    (s.withScreen
      { (s.screen.enterRake .rakeIdle) with interval := if s.cfg.rakeInterval = 0 then .stopped else .start }).startPending
  else s

/-- LISTENING_END (R174): OPERATING, handed on to the balance unit, the sequencer, the screen unit and the peer table. That
the listening timer is stopped from then on is the model's choice (note 44). -/
def execListeningEnd (s : State) : Host.Outcome State Fault Refusal :=
  .next (if s.start.phase = .listening ∧ s.start.listening.due s.cfg.listeningPeriod = true then
    let up := s.withStart { s.start with phase := .operating, listening := .stopped }
    let opened := up.evalLevelLost.evalRisk.leaveStartup.openRake
    opened.withTable { opened.table with silence := .start }
  else s)

end Sys2Proof.Machine
end

