-- ==== Sys2Proof/Machine/Pump.lean ====
section
/-! DEFINITION. The pump sequencer (chapter 3): the selector, the run feedback, the timers of the pump states, trips, and the commands that
belong to it. -/

namespace Sys2Proof.Machine

/-! ## The trip latch (R60) -/

/-- The latch is cleared and the raw condition of its cause falls (R60); PUMP_FAULT follows the fault contact, not the latch. -/
def State.clearLatch (s : State) : State :=
  match s.pump.latch with
  | none => s
  | some cause =>
    let cleared := s.withPump { s.pump with latch := none }
    if cause = .pumpFault then cleared else cleared.deliver (tripPoint cause) false

/-- The conditions of a trip reset: the latch set, the debounced fault contact inactive, RUN_FB absent (R48, R60). -/
def State.mayReset (s : State) : Bool :=
  s.pump.latch.isSome && !s.pump.faultContact.active && !s.pump.runFb.active

/-- RESET_TRIP applied to this station (R60). -/
def State.resetTrip (s : State) : State :=
  if s.mayReset then
    let cleared := s.clearLatch
    if cleared.pump.state = .tripped then cleared.completeStop else cleared
  else s

/-! ## Inhibit (R61) -/

/-- INHIBIT applied to this station (R61). -/
def State.inhibitPump (s : State) : State :=
  if s.pump.inhibit then s
  else
    let flagged := s.withPump { s.pump with inhibit := true }
    match s.pump.state with
    | .lockout => flagged.enterRest .inhibited
    | .idle => flagged.enterRest .inhibited
    | .waiting => flagged.enterRest .inhibited
    | .claiming => (flagged.closeOwnClaim .withdrawn).enterRest .inhibited
    | .starting => flagged.stopPump .inhibit
    | .running => flagged.stopPump .inhibit
    | _ => flagged

/-- RELEASE applied to this station (R61). -/
def State.releasePump (s : State) : State :=
  if s.pump.inhibit then
    let flagged := s.withPump { s.pump with inhibit := false }
    if s.pump.state = .inhibited then flagged.enterRest .lockout else flagged
  else s

/-! ## The selector (R44, R47, R48) -/

/-- The position leaves AUTO (R47). -/
def State.leaveAuto (st : PumpState) (s : State) : State :=
  let left := (s.closeOwnClaim .withdrawn).enter st
  if s.pump.state = .starting ∨ s.pump.state = .running then left.offerStopped .selector else left

/-- The position becomes AUTO (R48): the latch is cleared on a cycle through OFF, then the first row that applies. -/
def State.enterAuto (old : Position) (s : State) : State :=
  let reset := if old = .off ∧ s.mayReset = true then s.clearLatch else s
  if reset.pump.latch.isSome then reset.enter .tripped
  else if reset.pump.faultContact.active then reset.trip .pumpFault
  else if reset.pump.inhibit then reset.enterRest .inhibited
  else reset.enterRest .lockout

/-- The selector position changes (R44, R47, R48). Before OPERATING and in CONFIG_FAULT the pump state does not follow it (R45). -/
def State.setPosition (pos : Position) (s : State) : State :=
  if s.pump.position = pos then s
  else
    let moved := s.withPump { s.pump with position := pos }
    if s.operating then
      match s.pump.position, pos with
      | .auto, .off => moved.leaveAuto .off
      | .auto, .hand => moved.leaveAuto .hand
      | .off, .hand => moved.enter .hand
      | .hand, .off => moved.enter .off
      | old, .auto => moved.enterAuto old
      | _, _ => moved
    else moved

/-- The filter of a selector contact. -/
def Pump.contact (p : Pump) : Contact → Filter
  | .hand => p.contactHand
  | .auto => p.contactAuto

/-- A selector contact's filter is replaced. -/
def Pump.withContact (c : Contact) (f : Filter) (p : Pump) : Pump :=
  match c with
  | .hand => { p with contactHand := f }
  | .auto => { p with contactAuto := f }

/-- The pin of a selector contact. -/
def contactPin : Contact → Pin
  | .hand => .dsh
  | .auto => .dsa

/-- The position a combination of the contacts gives at once, `none` where it gives OFF (R44). -/
def Pump.combination (p : Pump) : Option Position :=
  match p.contactHand.active, p.contactAuto.active with
  | true, false => some .hand
  | false, true => some .auto
  | _, _ => none

/-- A combination that gives OFF has held for 500 ms (R44): OFF becomes the position, with SELECTOR_FAULT when both contacts are active. -/
def State.takeOff (s : State) : State :=
  ((s.withPump { s.pump with offHold := .reached }).deliver .selectorFault
    (s.pump.contactHand.active && s.pump.contactAuto.active)).setPosition .off

/-- A combination that has held for its 500 ms when a contact changes has held long enough (R44: "500 ms or more"): OFF becomes the position
before the contact is taken, also where the OFF hold's own expiry has not come yet in that instant. -/
def State.settleOff (s : State) : State := if s.pump.offHold.due slowFilter then s.takeOff else s

/-- SELECTOR_CONTACT_DEBOUNCE_EXPIRY (R44): a combination whose 500 ms are over gives OFF first. Then the contact is taken: HAND and AUTO
become the position at once, a combination giving OFF begins its 500 ms. SELECTOR_FAULT cannot stand after a contact has changed. -/
def execSelectorContactDebounceExpiry (c : Contact) (s : State) : Host.Outcome State Fault Refusal :=
  .next (if (s.pump.contact c).timer.due slowFilter then
    let settled := s.settleOff
    let taken := settled.withPump (settled.pump.withContact c ((s.pump.contact c).take (s.pins.level (contactPin c))))
    match taken.pump.combination with
    | some pos => ((taken.withPump { taken.pump with offHold := .stopped }).deliver .selectorFault false).setPosition pos
    | none => (taken.withPump { taken.pump with offHold := .start }).deliver .selectorFault false
  else s)

/-- SELECTOR_OFF_HOLD_EXPIRY (R44): OFF becomes the position. -/
def execSelectorOffHoldExpiry (s : State) : Host.Outcome State Fault Refusal :=
  .next (if s.pump.offHold.due slowFilter then s.takeOff else s)

/-! ## Inputs -/

/-- RUN_FB changes: the timers it starts and stops in the present state (R53, R57, R58). -/
def Pump.onRunFb (active : Bool) (p : Pump) : Pump :=
  let taken := { p with runFb := p.runFb.take active }
  if active then
    if p.state = .starting ∧ p.feedback.isRunning = true then { taken with feedback := .stopped, settle := .start }
    else if p.state = .starting ∨ p.state = .running then { taken with loss := .stopped }
    else if p.state.strayWatched then { taken with stray := .start }
    else taken
  else if p.state = .running ∨ (p.state = .starting ∧ p.settle.isRunning = true) then { taken with loss := .start }
  else if p.state.strayWatched then { taken with stray := .stopped }
  else taken

/-- RUN_FB_FILTER_EXPIRY (R44, R53, R57, R58): the timers follow, a STOPPING pump whose RUN_FB drops has stopped, and the counts follow (R96). -/
def execRunFbFilterExpiry (s : State) : Host.Outcome State Fault Refusal :=
  .next (if s.pump.runFb.timer.due fastFilter then
    let taken := s.withPump (s.pump.onRunFb s.pins.drun)
    (if s.pump.state = .stopping ∧ s.pins.drun = false then taken.completeStop else taken).recount
  else s)

/-- FAULT_CONTACT_DEBOUNCE_EXPIRY (R44, R59): PUMP_FAULT follows the contact, and an AUTO pump that is not TRIPPED trips. -/
def execFaultContactDebounceExpiry (s : State) : Host.Outcome State Fault Refusal :=
  .next (if s.pump.faultContact.timer.due slowFilter then
    let taken := (s.withPump { s.pump with faultContact := s.pump.faultContact.take s.pins.dflt }).deliver .pumpFault s.pins.dflt
    if s.pins.dflt = true ∧ s.pump.state.isAuto = true ∧ s.pump.state ≠ .tripped then taken.trip .pumpFault else taken
  else s)

/-! ## Timers -/

/-- LOCKOUT_END (R49, R50). -/
def execLockoutEnd (s : State) : Host.Outcome State Fault Refusal :=
  .next (if s.pump.lockout.due s.lockoutFigure then s.endLockout else s)

/-- FEEDBACK_TIMER_EXPIRY (R53, R57). -/
def execFeedbackTimerExpiry (s : State) : Host.Outcome State Fault Refusal :=
  .next (if s.pump.feedback.due s.cfg.feedbackLimit then
    match s.pump.state with
    | .starting => s.trip .startFail
    | .stopping => if s.pump.runFb.active then s.trip .contactorStuck else s.completeStop
    | _ => s
  else s)

/-- SETTLE_TIMER_EXPIRY (R53): RUNNING, the claim closed with STARTED, STARTED offered, and the immediate stops read at entry (R56). -/
def execSettleTimerExpiry (s : State) : Host.Outcome State Fault Refusal :=
  .next (if s.pump.settle.due s.cfg.settleTime = true ∧ s.pump.state = .starting then
    (((s.closeOwnClaim .started).enter .running).offer .started (pumpStateCode .starting)
      [valueOf s.pump.startCount, valueOf s.pump.runHours]).immediateStop
  else s)

/-- LOSS_TIMER_EXPIRY (R53, R58). -/
def execLossTimerExpiry (s : State) : Host.Outcome State Fault Refusal :=
  .next (if s.pump.loss.due lossTime then
    match s.pump.state with
    | .starting => s.trip .startFail
    | .running => s.trip .runLost
    | _ => s
  else s)

/-- MINIMUM_RUN_REACHED (R55, R64). -/
def execMinimumRunReached (s : State) : Host.Outcome State Fault Refusal :=
  .next (if s.pump.run.due s.cfg.runTime then (s.withPump { s.pump with run := .reached }).dutyStop else s)

/-- The stop rule is evaluated where it applies, outside isolated mode (R55, R64). -/
def State.stopRule (s : State) : State := if s.table.isolated then s else s.dutyStop

/-- STOP_SPACING_EXPIRY (R55). -/
def execStopSpacingExpiry (s : State) : Host.Outcome State Fault Refusal :=
  .next (if s.pump.spacing.due s.cfg.spacingTime then (s.withPump { s.pump with spacing := .stopped }).stopRule else s)

/-- STRAY_RUN_EXPIRY (R57). -/
def execStrayRunExpiry (s : State) : Host.Outcome State Fault Refusal :=
  .next (if s.pump.stray.due s.cfg.feedbackLimit = true ∧ s.pump.state.strayWatched = true then s.trip .contactorStuck else s)

/-- STAGGER_TIMER_EXPIRY (R64): STARTING without a claim, with the WAITING conditions still holding. -/
def execStaggerTimerExpiry (s : State) : Host.Outcome State Fault Refusal :=
  .next (if s.pump.stagger.due s.staggerTime = true ∧ s.pump.state = .waiting ∧ s.table.isolated = true ∧ s.wanted = true then
    s.enterStarting false
  else s)

end Sys2Proof.Machine
end

