-- ==== Sys2Proof/Machine/Commands.lean ====
section
/-! DEFINITION. The application of a town command to this station (R164). -/

namespace Sys2Proof.Machine

/-- Whether a command, applied now, changes the station's state (R164, last paragraph). -/
def State.commandActs (code : CommandCode) (s : State) : Bool :=
  match code with
  | .resetTrip => s.mayReset
  | .inhibit => !s.pump.inhibit
  | .release => s.pump.inhibit
  | .rakeNow => s.screenRuns
  | .resetRake => s.rakeLatched

/-- A command is handed to its owner (R164). -/
def State.handCommand (code : CommandCode) (s : State) : State :=
  match code with
  | .resetTrip => s.resetTrip
  | .inhibit => s.inhibitPump
  | .release => s.releasePump
  | .rakeNow => s.rakeNow
  | .resetRake => s.resetRake

/-- A command is applied (R164): its owner takes it, and COMMAND_APPLIED is offered. `route` is 0 for a town request and 1 for a Bay Link
frame. -/
def State.applyCommand (source : Station) (route : Nat) (code : CommandCode) (s : State) : State :=
  (s.handCommand code).offerFrom source .commandApplied (commandCode code)
    [valueOf route, valueOf (if s.commandActs code then 0 else 1)]

/-- The own bit of a target mask (R164). -/
def State.masked (mask : Byte) (s : State) : Bool := mask.getLsbD s.own.val

/-- Some bit of a target mask other than the own (R164). -/
def State.othersMasked (mask : Byte) (s : State) : Bool :=
  (List.finRange 8).any fun g => g != s.own && mask.getLsbD g.val

/-- A COMMAND request served in OPERATING, its answer apart (R164). -/
def State.serveCommand (mask : Byte) (code : CommandCode) (argument : Byte) (s : State) : State :=
  let applied := if s.masked mask then s.applyCommand s.own 0 code else s
  if s.othersMasked mask then applied.offerFrame (.command mask code argument) else applied

/-- A good Bay Link COMMAND frame (R81, R164). -/
def State.frameCommand (sender : Station) (mask : Byte) (code : CommandCode) (s : State) : State :=
  if s.masked mask = true ∧ s.cfg.remote = true ∧ s.operating = true then s.applyCommand sender 1 code else s

end Sys2Proof.Machine
end

