-- ==== Sys2Proof/Machine/Frames.lean ====
section
/-! DEFINITION. Bay Link frames as bytes (section 4.7, R67, R80, R83): the frame a station sends, and the checks a received frame must pass. -/

namespace Sys2Proof.Machine

/-- A code as a byte. -/
def codeByte (n : Nat) : Byte := BitVec.ofNat 8 n

/-- The flag byte of a REPORT (section 4.7). -/
def reportFlags (r : Report) : Byte :=
  flagByte fun g =>
    match g with
    | 0 => r.configured | 1 => r.timeSync | 2 => r.isolated | 3 => r.generator | 4 => r.inhibited | 5 => r.flowing
    | 6 => r.screen.isSome | _ => r.weir.isSome

/-- The screen section, 5 bytes (section 4.7). -/
def screenBytes (u : ScreenSection) : List Byte :=
  [codeByte (screenConditionCode u.condition), codeByte (rakeStateCode u.rake)] ++ halfBytes u.delta ++ [u.limit]

/-- The weir section, 8 bytes (section 4.7). -/
def weirBytes (w : WeirSection) : List Byte :=
  [codeByte (spillStateCode w.state)] ++ halfBytes w.head ++ halfBytes w.number ++ tripleBytes w.volume

/-- The fixed part of a REPORT, 12 bytes (section 4.7). -/
def reportFixed (r : Report) : List Byte :=
  [r.sequence, reportFlags r, codeByte (pumpStateCode r.pumpState), codeByte (qualityCode r.quality)] ++ halfBytes r.level
    ++ halfBytes r.runHours ++ halfBytes r.ratedFlow ++ [r.summary, r.demand ++ r.effective]

/-- The payload of a REPORT: the fixed part, then the sections present (section 4.7). -/
def reportPayload (r : Report) : List Byte :=
  reportFixed r ++ (r.screen.map screenBytes).getD [] ++ (r.weir.map weirBytes).getD []

/-- The kind byte of a frame (section 4.7). -/
def FrameBody.kind : FrameBody → Byte
  | .report _ => 1
  | .startClaim _ _ => 2
  | .startDone _ _ => 3
  | .time _ => 4
  | .command _ _ _ => 5

/-- The payload of a frame (section 4.7). -/
def FrameBody.payload : FrameBody → List Byte
  | .report r => reportPayload r
  | .startClaim number hours => number :: halfBytes hours
  | .startDone number outcome => [number, codeByte (outcomeCode outcome)]
  | .time seconds => wordBytes seconds
  | .command mask code argument => [mask, codeByte (commandCode code), argument]

/-- The bytes of a frame, check value included (section 4.7, R83). -/
def frameBytes (sender : Station) (body : FrameBody) : List Byte :=
  withCheck ([body.kind, codeByte sender.val, codeByte body.payload.length] ++ body.payload)

/-- The screen section of a received REPORT and the bytes after it, where its flag is set (R80). -/
def takeScreen (present : Bool) (bytes : List Byte) : Option (Option ScreenSection × List Byte) :=
  if present then
    match bytes with
    | c :: k :: d0 :: d1 :: lim :: rest =>
      match screenConditionOf c.toNat, rakeStateOf k.toNat with
      | some condition, some rake => some (some { condition := condition, rake := rake, delta := halfOf d0 d1, limit := lim }, rest)
      | _, _ => none
    | _ => none
  else some (none, bytes)

/-- The weir section of a received REPORT and the bytes after it, where its flag is set (R80). -/
def takeWeir (present : Bool) (bytes : List Byte) : Option (Option WeirSection × List Byte) :=
  if present then
    match bytes with
    | c :: h0 :: h1 :: n0 :: n1 :: v0 :: v1 :: v2 :: rest =>
      match spillStateOf c.toNat with
      | some st => some (some { state := st, head := halfOf h0 h1, number := halfOf n0 n1, volume := tripleOf v0 v1 v2 }, rest)
      | none => none
    | _ => none
  else some (none, bytes)

/-- A REPORT's payload, its length agreeing with its section flags and its codes in their tables (R80). -/
def takeReport (payload : List Byte) : Option Report :=
  match payload with
  | sq :: fl :: ps :: q :: l0 :: l1 :: h0 :: h1 :: f0 :: f1 :: sm :: de :: rest =>
    match pumpStateOf ps.toNat, qualityOf q.toNat, takeScreen (fl.getLsbD 6) rest with
    | some pumpState, some quality, some (screen, afterScreen) =>
      match takeWeir (fl.getLsbD 7) afterScreen with
      | some (weir, []) =>
        some { sequence := sq, configured := fl.getLsbD 0, timeSync := fl.getLsbD 1, isolated := fl.getLsbD 2,
               generator := fl.getLsbD 3, inhibited := fl.getLsbD 4, flowing := fl.getLsbD 5, pumpState := pumpState,
               quality := quality, level := halfOf l0 l1, runHours := halfOf h0 h1, ratedFlow := halfOf f0 f1, summary := sm,
               demand := (de >>> 4).setWidth 4, effective := de.setWidth 4, screen := screen, weir := weir }
      | _ => none
    | _, _, _ => none
  | _ => none

/-- A payload by its kind byte, at a length allowed for the kind and its codes in their tables (R80). -/
def takePayload (kind : Byte) (payload : List Byte) : Option FrameBody :=
  match kind.toNat, payload with
  | 1, bytes => (takeReport bytes).map FrameBody.report
  | 2, [number, h0, h1] => some (.startClaim number (halfOf h0 h1))
  | 3, [number, o] => (outcomeOf o.toNat).map (FrameBody.startDone number)
  | 4, [b0, b1, b2, b3] => some (.time (wordOf b0 b1 b2 b3))
  | 5, [mask, c, argument] => (commandOf c.toNat).map (fun code => FrameBody.command mask code argument)
  | _, _ => none

/-- The sender of a frame, where its byte is 0 to 7. -/
def senderOf (b : Byte) : Option Station :=
  if h : b.toNat < 8 then some ⟨b.toNat, h⟩ else none

/-- A frame that passes every check of R80 and has no framing error, with its sender. -/
def parseFrame (bytes : List Byte) : Option (Station × FrameBody) :=
  if bytes.length < 5 ∨ 30 < bytes.length ∨ crc bytes ≠ 0 then none
  else
    match bytes with
    | kind :: sender :: n :: rest =>
      if n.toNat = bytes.length - 5 then
        match senderOf sender, takePayload kind (rest.take n.toNat) with
        | some station, some body => some (station, body)
        | _, _ => none
      else none
    | _ => none

/-- The sender a discarded frame leaves as last sender (R69): its check value is good, it is not truncated, its sender byte is 0 to 7. What a
truncated frame with a good check value is, R69 leaves open. DESIGN CHOICE (note 21): fewer than 5 characters are truncated and leave none, and 5
to 32 are not, whatever their length byte says. A frame of more than the 32 characters the receiver stores leaves none (DEDUCED, note 21). -/
def checkedSender (bytes : List Byte) : Option Station :=
  if bytes.length < 5 ∨ 32 < bytes.length ∨ crc bytes ≠ 0 then none
  else
    match bytes with
    | _ :: sender :: _ => senderOf sender
    | _ => none

end Sys2Proof.Machine
end

