-- ==== Sys2Proof/Machine/Window.lean ====
section
/-! DEFINITION. The start window (chapter 6): the observer's view, the claimant, and the meanings of the window's timers. -/

namespace Sys2Proof.Machine

/-- The window is taken for a peer: the timer starts from 0 (R107, R108, R110). -/
def State.holdWindow (holder : Station) (number : Option Byte) (best : DutyKey) (s : State) : State :=
  s.withWindow { s.window with view := .held holder number best .start }

/-- The view becomes FREE: holder, claim number and best heard key cleared, window timer stopped (R109 to R112). -/
def State.freeWindow (s : State) : State :=
  s.withWindow { s.window with view := .free }

/-- The own claim is in PENDING or HOLDING (R113). -/
def Window.contestable (w : Window) : Bool := w.claim == .pending || w.claim == .holding

/-- The own claim is withdrawn in favour of a peer (R113): closed with WITHDRAWN, the window held by the peer, the pump back in WAITING. -/
def State.withdrawTo (holder : Station) (number : Option Byte) (best : DutyKey) (s : State) : State :=
  let held := (s.closeClaim .withdrawn).holdWindow holder number best
  if s.pump.state = .claiming then held.enterWaiting else held

/-- A good START CLAIM from a peer (R107, R108, R113, R116). -/
def State.observeClaim (sender : Station) (number : Byte) (hours : Half) (s : State) : State :=
  let key : DutyKey := { hours := hours.toNat, station := sender }
  match s.window.view with
  | .free => s.holdWindow sender (some number) key
  | .held holder _ best _ =>
    if sender = holder ∨ key.better best = true then s.holdWindow sender (some number) key else s
  | .own =>
    if s.window.contestable = true ∧ key.better (s.window.key.getD s.ownKey) = true then s.withdrawTo sender (some number) key else s

/-- A good START DONE from a peer (R109). -/
def State.observeDone (sender : Station) (number : Byte) (s : State) : State :=
  match s.window.view with
  | .held holder known _ _ =>
    if sender = holder ∧ (known = none ∨ known = some number) then s.freeWindow.evalClaim else s
  | _ => s

/-- A REPORT acts on the view by its pump state (R110, R113, R116). -/
def State.viewReport (sender : Station) (r : Report) (s : State) : State :=
  let key : DutyKey := { hours := r.runHours.toNat, station := sender }
  match s.window.view with
  | .free => if r.pumpState = .starting then s.holdWindow sender none key else s
  | .held holder _ _ _ =>
    if sender = holder ∧ r.pumpState ≠ .claiming ∧ r.pumpState ≠ .starting then s.freeWindow else s
  | .own => if s.window.contestable = true ∧ r.pumpState = .starting then s.withdrawTo sender none key else s

/-- A REPORT handed to the start window: the view, then the claim conditions (R105, R110). -/
def State.observeReport (sender : Station) (r : Report) (s : State) : State :=
  (s.viewReport sender r).evalClaim

/-- The entry of a peer has entered LOST (R111). -/
def State.observeLost (peer : Station) (s : State) : State :=
  match s.window.view with
  | .held holder _ _ _ => if peer = holder then s.freeWindow.evalClaim else s
  | _ => s

/-- The own START CLAIM has gone out (R114). -/
def State.claimSent (s : State) : State :=
  if s.window.claim = .pending then s.withWindow { s.window with claim := .holding, hold := .start } else s

/-- The own START CLAIM has been dropped (R114): the claim is closed without a START DONE and the pump returns to WAITING. -/
def State.claimDropped (s : State) : State :=
  if s.window.claim = .pending then
    if s.pump.state = .claiming then s.endClaim.enterWaiting else s.endClaim
  else s

/-- The value of WINDOW_TIMEOUT's subject: the holder's stored pump state, 255 when its entry is EMPTY (R112). -/
def PeerEntry.timeoutSubject (e : PeerEntry) : Nat :=
  match e.state, e.last with
  | .empty, _ => 255
  | _, some r => pumpStateCode r.pumpState
  | _, none => 255

/-- WINDOW_TIMER_EXPIRY (R112). -/
def execWindowTimerExpiry (s : State) : Host.Outcome State Fault Refusal :=
  .next (match s.window.view with
    | .held holder number _ timer =>
      if timer.due s.cfg.viewTime then
        (s.freeWindow.offerFrom holder .windowTimeout (s.table.entry holder).timeoutSubject
          [valueOf ((number.map BitVec.toNat).getD 256), valueOf s.cfg.windowLimit]).evalClaim
      else s
    | _ => s)

/-- PATIENCE_RUN_OUT (R105). -/
def execPatienceRunOut (s : State) : Host.Outcome State Fault Refusal :=
  .next (if s.window.patience.due s.cfg.patienceTime then (s.withWindow { s.window with patience := .reached }).evalClaim else s)

/-- CLAIM_HOLD_EXPIRY (R115): the grant when C < E and the low-low float is not in force, the withdrawal at expiry otherwise. That the hold timer
is stopped at the grant, where it has done its work, is the model's choice (note 41). -/
def execClaimHoldExpiry (s : State) : Host.Outcome State Fault Refusal :=
  .next (if s.window.claim = .holding ∧ s.window.hold.due s.cfg.claimHold = true ∧ s.pump.state = .claiming then
    if s.table.drawing < s.balance.effective ∧ s.lowLowInForce = false then
      (s.withWindow { s.window with claim := .granted, hold := .stopped }).enterStarting true
    else (s.closeClaim .withdrawn).enterIdle
  else s)

end Sys2Proof.Machine
end

