-- ==== Sys2Proof/Machine/Peer.lean ====
section
/-! DEFINITION. The peer table (chapter 5): taking in a REPORT, the ageing of an entry, the lost release, silence, the generator contact, and
the peer events of the house reporter. -/

namespace Sys2Proof

/-- The pump states a peer shows right after its reset (R89). -/
def PumpState.afterReset (p : PumpState) : Bool := p == .startup || p == .unconfigured

/-- The frame shows that the peer has restarted since the stored REPORT (R89, second row). -/
def Report.restarts (old new : Report) : Bool :=
  new.pumpState.afterReset && (!old.pumpState.afterReset || (new.sequence == 0 && old.sequence != 0))

end Sys2Proof

namespace Sys2Proof.Machine

/-- The missed-report counter once a REPORT has been taken in (R89). -/
def PeerEntry.missedAfter (r : Report) (e : PeerEntry) : Nat :=
  match e.seen with
  | none => e.missed
  | some old => if old.restarts r then e.missed else satAdd 65535 e.missed ((r.sequence - old.sequence).toNat - 1)

/-- The cause with which a REPORT joins its peer (R100), `none` where it does not. -/
def PeerEntry.joinCause (r : Report) (e : PeerEntry) : Option Nat :=
  match e.state, e.last with
  | .empty, _ => some 0
  | .lost, _ => some 1
  | _, some old => if old.restarts r then some 2 else none
  | _, none => none

/-- The entry once a REPORT has been taken in (R86 to R89): its age timer restarts from 0, and an expiry of the same instant does not happen. -/
def PeerEntry.store (stamp : Stamp) (r : Report) (e : PeerEntry) : PeerEntry :=
  { state := .fresh, last := some r, age := .start, release := .stopped, missed := e.missedAfter r,
    lastHeard := some stamp, lostAt := none }

/-- The stored pump state RUNNING is followed by STOPPING (R90 step 1). -/
def PeerEntry.stopsWith (r : Report) (e : PeerEntry) : Bool :=
  (e.last.map (fun old => old.pumpState == .running)).getD false && r.pumpState == .stopping

/-- A spill whose end the REPORT shows: the carried weir section (R101). -/
def PeerEntry.spillEnded (r : Report) (e : PeerEntry) : Option WeirSection :=
  match e.seen.bind Report.weir, r.weir with
  | some old, some new =>
    if (old.state = .spilling ∨ old.state = .ending) ∧ new.state = .none ∧ new.number = old.number then some new else none
  | _, _ => none

/-- PEER_ALARM is offered where the alarm summary has changed (R101). -/
def State.offerPeerAlarm (peer : Station) (old r : Report) (s : State) : State :=
  if old.summary = r.summary then s
  else s.offerFrom peer .peerAlarm (pumpStateCode r.pumpState) [old.summary.setWidth 32, r.summary.setWidth 32]

/-- PEER_SPILL_END is offered where a peer's spill has ended (R101). -/
def State.offerPeerSpillEnd (peer : Station) (ended : Option WeirSection) (s : State) : State :=
  match ended with
  | some w => s.offerFrom peer .peerSpillEnd (spillStateCode .none) [w.number.setWidth 32, w.volume.setWidth 32]
  | none => s

/-- The peer events of a REPORT at the house reporter (R100, R101), from the entry as it was before. -/
def State.offerPeerEvents (peer : Station) (before : PeerEntry) (r : Report) (s : State) : State :=
  if s.isReporter then
    match before.joinCause r, before.seen with
    | some cause, _ => s.offerFrom peer .peerJoined (pumpStateCode r.pumpState) [valueOf cause, r.summary.setWidth 32]
    | none, some old => (s.offerPeerAlarm peer old r).offerPeerSpillEnd peer (before.spillEnded r)
    | none, none => s
  else s

/-- The REPORT is stored in its sender's entry, the silence timer restarts in OPERATING (R97), and the stop-spacing timer starts at a change
from RUNNING to STOPPING (R90 step 1, R55). -/
def State.storeReport (sender : Station) (r : Report) (s : State) : State :=
  let entry := s.table.entry sender
  let stored := s.withTable
    { (s.table.withEntry sender (entry.store s.stamp r)) with
      silence := if s.operating then .start else s.table.silence }
  if entry.stopsWith r then stored.withPump { s.pump with spacing := .start } else stored

/-- A peer REPORT ends isolated mode while the duplicate timer is stopped (R98). -/
def State.endIsolation (s : State) : State :=
  if s.table.isolated = true ∧ s.link.duplicate.isRunning = false then s.setIsolated false .none else s

/-- A good REPORT from a peer, handed on in the order of R90. The stop rule is evaluated at each REPORT (R55), and the lockout's figure is read
again, since a weir section may have changed (R49). -/
def State.takeReport (sender : Station) (r : Report) (s : State) : State :=
  ((((((s.storeReport sender r).recount).stopRule).checkLockout.endIsolation).offerPeerEvents sender (s.table.entry sender) r).observeReport
    sender r)

/-- ENTRY_BECOMES_STALE (R86, R87, R96). -/
def execEntryBecomesStale (peer : Station) (s : State) : Host.Outcome State Fault Refusal :=
  .next (if (s.table.entry peer).state = .fresh ∧ (s.table.entry peer).age.due ((s.table.entry peer).ageLimit s.cfg.reportInterval) = true then
    (s.withTable (s.table.withEntry peer { s.table.entry peer with state := .stale })).recount
  else s)

/-- The entry as it enters LOST (R86). -/
def PeerEntry.lose (stamp : Stamp) (e : PeerEntry) : PeerEntry :=
  { e with state := .lost, age := .stopped, release := .start, lostAt := some stamp }

/-- PEER_LOST at the house reporter (R100), from the entry as it stands LOST. -/
def State.offerPeerLost (peer : Station) (s : State) : State :=
  match s.isReporter, (s.table.entry peer).last, (s.table.entry peer).lastHeard with
  | true, some r, some heard =>
    s.offerFrom peer .peerLost (pumpStateCode r.pumpState) [heard.seconds, valueOf (if (s.table.entry peer).drawing then 1 else 0)]
  | _, _, _ => s

/-- ENTRY_BECOMES_LOST (R86, R87, R91, R96, R100, R111). The entry's weir section leaves the own view, so the lockout's figure is read again (R49). -/
def execEntryBecomesLost (peer : Station) (s : State) : Host.Outcome State Fault Refusal :=
  .next (if (s.table.entry peer).state = .stale ∧ (s.table.entry peer).age.due ((s.table.entry peer).ageLimit s.cfg.reportInterval) = true then
    (((s.withTable (s.table.withEntry peer ((s.table.entry peer).lose s.stamp))).recount).checkLockout.offerPeerLost peer).observeLost peer
  else s)

/-- LOST_RELEASE_EXPIRY (R91, R96). -/
def execLostReleaseExpiry (peer : Station) (s : State) : Host.Outcome State Fault Refusal :=
  .next (if (s.table.entry peer).state = .lost ∧ (s.table.entry peer).release.due s.cfg.releaseTime = true then
    (s.withTable (s.table.withEntry peer { s.table.entry peer with release := .reached })).recount
  else s)

/-- PEER_SILENCE_EXPIRY (R97), of a timer no REPORT of the same instant has restarted: the timer stops, and a house of two or more is left for
isolated mode. -/
def execPeerSilenceExpiry (s : State) : Host.Outcome State Fault Refusal :=
  .next (if s.table.silence.due s.cfg.lossLimit then
    let stopped := s.withTable { s.table with silence := .reached }
    if 2 ≤ s.cfg.houseSize then stopped.setIsolated true .silence else stopped
  else s)

/-- GENERATOR_DEBOUNCE_EXPIRY (R94, R96): ON_GENERATOR follows the debounced contact, and the house supply is recomputed. -/
def execGeneratorDebounceExpiry (s : State) : Host.Outcome State Fault Refusal :=
  .next (if s.table.generator.timer.due slowFilter then
    ((s.withTable { s.table with generator := s.table.generator.take s.pins.dgen }).deliver .onGenerator s.pins.dgen).recount
  else s)

end Sys2Proof.Machine
end

