-- ==== Sys2Proof/Machine/Link.lean ====
section
/-! DEFINITION. The Bay Link port (chapter 4): turns on the line, sending and its checks, receiving, and the meanings of its commands. -/

namespace Sys2Proof.Machine

/-! ## Receiving (R80 to R82) -/

/-- The port takes frames: it runs, the first idle gap has passed and it is not transmitting (R68, R80). -/
def State.canReceive (s : State) : Bool := s.started && s.link.listening && s.link.sending.isNone

/-- A good frame bearing the own station number (R82): the duplicate timer starts or restarts; its start raises DUPLICATE_ID and puts the
station in isolated mode (R97). -/
def State.heardOwn (s : State) : State :=
  let timed := s.withLink { s.link with duplicate := .start }
  if s.link.duplicate.isRunning then timed else (timed.deliver .duplicateId true).setIsolated true .duplicate

/-- A good frame from another station is handed on (R81); in CONFIG_FAULT only TIME is. -/
def State.handFrame (sender : Station) (body : FrameBody) (s : State) : State :=
  match body with
  | .report r => if s.working then s.takeReport sender r else s
  | .startClaim number hours => if s.working then s.observeClaim sender number hours else s
  | .startDone number _ => if s.working then s.observeDone sender number else s
  | .time seconds => s.setClock sender 1 seconds
  | .command mask code _ => s.frameCommand sender mask code

/-- A good frame: its sender becomes the last sender (R69), the own number is the mark of a duplicate, any other frame is handed on. -/
def State.goodFrame (sender : Station) (body : FrameBody) (s : State) : State :=
  let heard := s.withLink { s.link with lastSender := sender }
  if sender = s.own then heard.heardOwn else heard.handFrame sender body

/-- A good frame reaches the port. -/
def State.receive (sender : Station) (body : FrameBody) (s : State) : State :=
  if s.canReceive then s.goodFrame sender body else s

/-- A frame is discarded (R80), and leaves its sender as last sender where R69 says so. -/
def State.discardFrame (bytes : List Byte) (s : State) : State :=
  s.withLink { s.link with rxErrors := satInc16 s.link.rxErrors, lastSender := (checkedSender bytes).getD s.link.lastSender }

/-- The characters of a frame, checked by R80. -/
def State.hearFrame (bytes : List Byte) (framingError : Bool) (s : State) : State :=
  match (if framingError then none else parseFrame bytes) with
  | some (sender, body) => s.goodFrame sender body
  | none => s.discardFrame bytes

/-- REPORT (R81, R88). -/
def execReport (sender : Station) (r : Report) (s : State) : Host.Outcome State Fault Refusal :=
  .next (s.receive sender (.report r))

/-- START_CLAIM (R81, R107, R108, R113). -/
def execStartClaim (sender : Station) (number : Byte) (hours : Half) (s : State) : Host.Outcome State Fault Refusal :=
  .next (s.receive sender (.startClaim number hours))

/-- START_DONE (R81, R109). -/
def execStartDone (sender : Station) (number : Byte) (outcome : ClaimOutcome) (s : State) : Host.Outcome State Fault Refusal :=
  .next (s.receive sender (.startDone number outcome))

/-- TIME_FRAME (R81, R165). -/
def execTimeFrame (sender : Station) (seconds : Word) (s : State) : Host.Outcome State Fault Refusal :=
  .next (s.receive sender (.time seconds))

/-- BAD_FRAME (R69, R80). The characters are taken as what they are (note 22). -/
def execBadFrame (bytes : List Byte) (framingError : Bool) (s : State) : Host.Outcome State Fault Refusal :=
  .next (if s.canReceive then s.hearFrame bytes framingError else s)

/-- OWN_NUMBER_FRAME (R69, R82). -/
def execOwnNumberFrame (s : State) : Host.Outcome State Fault Refusal :=
  .next (if s.canReceive then (s.withLink { s.link with lastSender := s.own }).heardOwn else s)

/-- DUPLICATE_TIMER_EXPIRY (R82, R85, R98): the flag waits for a peer REPORT, but for a house of one and for CONFIG_FAULT. There
DUPLICATE_ID falls before the flag is handed on and ISOLATED falls: the model's choice (note 8). -/
def execDuplicateTimerExpiry (s : State) : Host.Outcome State Fault Refusal :=
  .next (if s.link.duplicate.due duplicateTime then
    let fallen := (s.withLink { s.link with duplicate := .stopped }).deliver .duplicateId false
    if s.start.phase = .configFault ∨ s.cfg.houseSize = 1 then fallen.setIsolated false .none else fallen
  else s)

/-- FIRST_IDLE_GAP (R68). -/
def execFirstIdleGap (s : State) : Host.Outcome State Fault Refusal :=
  .next (if s.started then s.withLink { s.link with listening := true } else s)

/-! ## Sending (R70 to R79) -/

/-- The normal position, ((own - last - 1) mod 8) + 1 (R70). -/
def normalPosition (own last : Station) : Nat := (own.val + 15 - last.val) % 8 + 1

/-- The retry position (R70). -/
def retryPosition (own : Station) : Nat := own.val + 9

/-- The position in use for an entry (R70). -/
def TxEntry.position (own last : Station) (e : TxEntry) : Nat :=
  if e.attempts = 0 then normalPosition own last else retryPosition own

/-- The entry chosen for transmission: the lowest class present (R75). -/
def Link.chosen (l : Link) : Option TxEntry := l.queue.head?

/-- The slot belongs to a position: p, p + 16, p + 32 and so on (R70). -/
def slotOf (position slot : Nat) : Bool := position ≤ slot && slot % 16 == position % 16

/-- The volume of the record with the monitor's spill number, in cubic metres (R145). -/
def SpillMonitor.reportVolume (m : SpillMonitor) : BitVec 24 :=
  match m.list.find? (fun r => m.number != 0 && r.number == m.number) with
  | some r => BitVec.ofNat 24 (r.volume / 1000)
  | none => 0

/-- The screen section of a REPORT (R124). -/
def Screen.report (u : Screen) : ScreenSection :=
  { condition := u.condition, rake := u.rake, delta := if u.condition = .unknown then signedHalf none else signedHalf u.delta,
    limit := BitVec.ofNat 8 u.limit }

/-- The weir section of a REPORT (R145). -/
def SpillMonitor.report (m : SpillMonitor) : WeirSection :=
  { state := m.state, head := signedHalf m.head, number := BitVec.ofNat 16 m.number, volume := m.reportVolume }

/-- The contents of a REPORT (R79). -/
def State.buildReport (sequence : Byte) (s : State) : Report :=
  { sequence := sequence
    configured := s.start.phase != .configFault
    timeSync := s.clock.sync
    isolated := s.table.isolated
    generator := s.table.generator.active
    inhibited := s.pump.inhibit
    flowing := s.pump.runFb.active
    pumpState := s.pump.state
    quality := s.chanW.offeredQuality
    level := BitVec.ofInt 16 (s.chanW.offeredLevel.getD 0)
    runHours := BitVec.ofNat 16 s.pump.runHours
    ratedFlow := BitVec.ofNat 16 s.cfg.ratedFlow
    summary := s.alarms.summary
    demand := BitVec.ofNat 4 s.balance.demand
    effective := BitVec.ofNat 4 s.balance.effective
    screen := if s.cfg.role = .screen ∧ s.start.phase ≠ .configFault then some s.screen.report else none
    weir := if s.cfg.role = .weir ∧ s.start.phase ≠ .configFault then some s.spill.report else none }

/-- A REPORT's number is taken at the first attempt of its entry (R78). -/
def Link.numberReport (l : Link) : Link :=
  match l.queue.find? (fun e => e.body.cls == 5) with
  | some e =>
    if e.sequence.isSome then l
    else { l with
      queue := l.queue.map (fun x => if x.body.cls = 5 then { x with sequence := some l.sequence } else x)
      sequence := l.sequence + 1 }
  | none => l

/-- The frame of an entry as its attempt begins (R75, R78, R79). -/
def State.frameOf (e : TxEntry) (s : State) : FrameBody :=
  match e.body with
  | .startClaim number hours => .startClaim number hours
  | .startDone number outcome => .startDone number outcome
  | .command mask code argument => .command mask code argument
  | .time => .time s.clock.seconds
  | .report => .report (s.buildReport (e.sequence.getD s.link.sequence))

/-- An attempt begins (R70, R75). -/
def State.beginAttempt (e : TxEntry) (s : State) : State :=
  s.withLink { (if e.body.cls = 5 then s.link.numberReport else s.link) with sending := some (s.frameOf e) }

/-- The chosen entry whose slot this is, with the line free for the port (R68, R70). -/
def State.slotEntry (slot : Nat) (s : State) : Option TxEntry :=
  match s.link.chosen with
  | some e => if s.canReceive = true ∧ slotOf (e.position s.own s.link.lastSender) slot = true then some e else none
  | none => none

/-- TRANSMIT_SLOT (R70, R75, R78, R79). -/
def execTransmitSlot (slot : Nat) (s : State) : Host.Outcome State Fault Refusal :=
  .next (match s.slotEntry slot with
    | some e => s.beginAttempt e
    | none => s)

/-- The offer held during an attempt is made once it has ended (R76). A REPORT offer has restarted the report timer when it was held, and does not
restart it here: the model's choice (note 45). -/
def State.releaseOffer (s : State) : State :=
  match s.link.heldOffer with
  | some b => (s.withLink { s.link with heldOffer := none }).offerFrame b
  | none => s

/-- The START CLAIM held back enters the queue as the START DONE leaves it (R74, R77). -/
def Link.releaseClaim (l : Link) : Link :=
  match l.heldClaim with
  | some (number, hours) => { l with heldClaim := none, queue := upsert (.startClaim number hours) l.queue }
  | none => l

/-- A frame has been sent (R74): its entry leaves the queue and the own station is the last sender. -/
def Link.frameSent (own : Station) (body : FrameBody) (l : Link) : Link :=
  { (l.drop body.cls) with sending := none, lastSender := own }

/-- The start window is told that a frame has gone out (R74, R77, R114, R117): a closing that has waited is made, and the claim conditions are
evaluated as the view becomes FREE (R105). -/
def State.tellSent (body : FrameBody) (s : State) : State :=
  match body, s.link.closing with
  | .startClaim _ _, some (number, outcome) =>
    (((s.withLink { s.link with closing := none }).endClaim).offerFrame (.startDone number outcome)).evalClaim
  | .startClaim _ _, none => s.claimSent
  | .startDone _ _, _ => s.withLink s.link.releaseClaim
  | _, _ => s

/-- FRAME_SENT (R74, R76, R77, R114). -/
def execFrameSent (s : State) : Host.Outcome State Fault Refusal :=
  .next (match s.link.sending with
    | some body => ((s.withLink (s.link.frameSent s.own body)).tellSent body).releaseOffer
    | none => s)

/-- An attempt has failed (R72): driving stops, the entry's count and the transmit-error counter rise. -/
def Link.attemptFailed (body : FrameBody) (l : Link) : Link :=
  { l with
    sending := none
    txErrors := satInc16 l.txErrors
    queue := l.queue.map (fun e => if e.body.cls = body.cls then { e with attempts := e.attempts + 1 } else e) }

/-- The entry of a class has reached four attempts (R73). -/
def Link.exhausted (cls : Nat) (l : Link) : Bool := l.queue.any (fun e => e.body.cls == cls && 4 ≤ e.attempts)

/-- What the fourth failure does to the queue (R73): a START DONE begins its attempts again, any other frame is dropped. -/
def Link.giveUp (body : FrameBody) (l : Link) : Link :=
  match body with
  | .startDone _ _ => { l with queue := l.queue.map (fun e => if e.body.cls = 2 then { e with attempts := 0 } else e), failure := .start }
  | _ => { (l.drop body.cls) with failure := .start }

/-- The attempt limit (R73): the fourth failure starts the transmit-failure timer, and BAY_TX_FAIL rises. -/
def State.attemptLimit (body : FrameBody) (s : State) : State :=
  if s.link.exhausted body.cls then (s.withLink (s.link.giveUp body)).deliver .bayTxFail true else s

/-- What a failed START CLAIM means to the start window (R77, R114, R117): with a closing that has waited it leaves the queue and its claim is
closed, dropped at the attempt limit it closes its claim. -/
def State.tellFailed (body : FrameBody) (s : State) : State :=
  match body, s.link.closing with
  | .startClaim _ _, some _ => ((s.withLink { (s.link.drop 1) with closing := none }).endClaim).evalClaim
  | .startClaim _ _, none => if s.link.holds 1 then s else s.claimDropped
  | _, _ => s

/-- ECHO_FAILURE (R72, R73, R76, R77, R114). -/
def execEchoFailure (s : State) : Host.Outcome State Fault Refusal :=
  .next (match s.link.sending with
    | some body => (((s.withLink (s.link.attemptFailed body)).attemptLimit body).tellFailed body).releaseOffer
    | none => s)

/-- TX_FAILURE_TIMER_EXPIRY (R73, R84). -/
def execTxFailureTimerExpiry (s : State) : Host.Outcome State Fault Refusal :=
  .next (if s.link.failure.due failureTime then (s.withLink { s.link with failure := .stopped }).deliver .bayTxFail false else s)

/-- REPORT_TIMER_EXPIRY (R78). -/
def execReportTimerExpiry (s : State) : Host.Outcome State Fault Refusal :=
  .next (if s.link.report.due s.cfg.reportInterval then s.queueReport else s)

end Sys2Proof.Machine
end

