-- ==== Sys2Proof/Machine/Status.lean ====
section
/-! DEFINITION. The answers of the Town Line as bytes (R162, section 10.4): event records, spill records, HOUSE entries and the STATUS pages. -/

namespace Sys2Proof.Machine

/-! ## Fields (R162) -/

/-- One byte. -/
def u8 (n : Nat) : List Byte := [BitVec.ofNat 8 n]

/-- Two bytes, least significant first. -/
def u16 (n : Nat) : List Byte := halfBytes (BitVec.ofNat 16 n)

/-- Four bytes, least significant first. -/
def u32 (n : Nat) : List Byte := wordBytes (BitVec.ofNat 32 n)

/-- A flag: one byte, 0 or 1. -/
def flag8 (b : Bool) : List Byte := u8 b.toNat

/-- An input whose values are listed active, inactive: its place in that list (R162, sections 2.1 and 5.1). -/
def activity8 (active : Bool) : List Byte := u8 (if active then 0 else 1)

/-- One byte, the greatest value where the item is absent. -/
def opt8 (v : Option Nat) : List Byte := u8 (v.getD 255)

/-- Two bytes, the greatest value where the item is absent. -/
def opt16 (v : Option Nat) : List Byte := u16 (v.getD 65535)

/-- Four bytes, the greatest value where the item is absent. -/
def opt32 (v : Option Nat) : List Byte := u32 (v.getD 4294967295)

/-- Two bytes in two's complement, the least value where the item is absent. -/
def signed16 (v : Option Int) : List Byte := halfBytes (signedHalf v)

/-- A timer in whole units of `unit` milliseconds, truncated; absent where it is stopped, its limit where it stands at that (note 24). -/
def Timer.shown (unit limit : Nat) : Timer → Option Nat
  | .stopped => none
  | .running ms => some (ms / unit)
  | .renewed => some 0
  | .reached => some limit

/-- A timer that stops on reaching its limit, in whole units, truncated: absent unless it runs (R162). -/
def Timer.shownRunning (unit : Nat) : Timer → Option Nat
  | .stopped => none
  | .running ms => some (ms / unit)
  | .renewed => some 0
  | .reached => none

/-- The time remaining of a timer that stops on reaching its limit, in whole units, truncated: absent unless it runs (R162). -/
def Timer.remaining (unit limit : Nat) : Timer → Option Nat
  | .stopped => none
  | .running ms => some ((limit * unit - ms) / unit)
  | .renewed => some limit
  | .reached => none

/-- A duty key: its run hours, then its station number (R162). -/
def keyBytes (k : Option DutyKey) : List Byte :=
  opt16 (k.map DutyKey.hours) ++ opt8 (k.map (fun d => d.station.val))

/-- A stamp with its synchronised flag. -/
def stampBytes (v : Option Stamp) : List Byte :=
  opt32 (v.map (fun t => t.seconds.toNat)) ++ opt8 (v.map (fun t => t.sync.toNat))

/-! ## Records (section 10.4) -/

/-- An event record as FETCH sends it. -/
def recordBytes (r : EventRecord) : List Byte :=
  halfBytes r.sequence ++ wordBytes r.time ++ flag8 r.sync ++ u8 (eventCode r.kind) ++ u8 r.source.val ++ [r.subject]
    ++ r.values.flatMap wordBytes

/-- The flags of a spill record. -/
def spillFlags (r : SpillRecord) : Byte :=
  flagByte fun g =>
    match g with
    | 0 => r.start.sync | 1 => (r.stop.map Stamp.sync).getD false | 2 => r.stop.isSome | 3 => r.gapFlag | 4 => r.cut | 5 => r.isOpen
    | _ => false

/-- A spill record as SPILLS sends it, 25 bytes. -/
def spillBytes (m : SpillMonitor) (r : SpillRecord) : List Byte :=
  u8 m.list.length ++ u16 r.number ++ wordBytes r.start.seconds ++ wordBytes ((r.stop.map Stamp.seconds).getD 0)
    ++ u32 (r.duration.getD 0) ++ u32 r.volume ++ halfBytes (BitVec.ofInt 16 r.peak) ++ u16 r.gap ++ [spillFlags r]
    ++ u8 (spillStateCode m.state)

/-- The first byte of a HOUSE entry. -/
def PeerEntry.houseByte (e : PeerEntry) : Byte :=
  BitVec.ofNat 8 (entryStateCode e.state + flagBit e.drawing 2 + flagBit ((e.lastHeard.map Stamp.sync).getD false) 3
    + flagBit ((e.lostAt.map Stamp.sync).getD false) 4)

/-- A HOUSE entry: an EMPTY one is its first byte alone. -/
def PeerEntry.houseBytes (e : PeerEntry) : List Byte :=
  if e.state = .empty then [e.houseByte]
  else
    [e.houseByte] ++ (e.last.map reportPayload).getD [] ++ u16 e.missed
      ++ wordBytes ((e.lastHeard.map Stamp.seconds).getD 0)
      ++ (if e.state = .lost then wordBytes ((e.lostAt.map Stamp.seconds).getD 0) else [])

/-- The eight entries of the HOUSE answer (R162, R102). -/
def PeerTable.houseBytes (t : PeerTable) : List Byte := t.list.flatMap PeerEntry.houseBytes

/-! ## STATUS pages (R162) -/

/-- A channel's items (R18). -/
def Channel.statusBytes (c : Channel) : List Byte :=
  signed16 c.level ++ u8 (qualityCode c.quality) ++ signed16 (some c.offset) ++ u16 c.rejects

/-- The balance unit's items (R41). The validity of H is a byte of its own, 1 for valid, beside a field that is the least value when
H is INVALID, and the held demand is sent while the invalid hold timer is stopped too: the model's choices (note 24). -/
def State.balanceBytes (s : State) : List Byte :=
  signed16 s.balance.level ++ flag8 s.balance.level.isSome ++ u32 s.balance.volume ++ u16 s.balance.inflow ++ u16 s.balance.smoothed
    ++ flag8 s.balance.low ++ flag8 s.balance.high ++ u16 s.balance.age ++ u8 s.balance.band ++ u8 s.balance.trend ++ u8 s.balance.demand
    ++ u8 s.balance.held ++ opt16 (s.balance.invalidHold.shown 1000 s.cfg.invalidHold) ++ u8 s.balance.limit ++ u8 s.table.screenLimit
    ++ u8 s.table.available ++ u8 s.balance.effective ++ activity8 s.floats.highHigh.active ++ activity8 s.floats.lowLow.active

/-- The sequencer's items (R66). -/
def State.pumpBytes (s : State) : List Byte :=
  u8 (pumpStateCode s.pump.state) ++ u8 (positionCode s.pump.position) ++ u8 (latchCode s.pump.latch) ++ flag8 s.pump.inhibit
    ++ u32 s.pump.runSeconds ++ u16 s.pump.runHours ++ u16 s.pump.startCount
    ++ opt16 (s.pump.lockout.remaining 1000 (s.lockoutFigure / 1000)) ++ opt16 (s.pump.run.shown 1000 s.cfg.minimumRun)

/-- The code of the window view: section 6.1's list. -/
def WindowView.code : WindowView → Nat
  | .free => 0
  | .held _ _ _ _ => 1
  | .own => 2

/-- The holder's items and the window timer, absent unless HELD; a claim number of 256 is UNKNOWN (note 24). -/
def WindowView.holderBytes (limit : Nat) : WindowView → List Byte
  | .held holder number best timer =>
    u8 holder.val ++ u16 ((number.map BitVec.toNat).getD 256) ++ keyBytes (some best) ++ opt8 (timer.shown 1000 limit)
  | _ => opt8 none ++ opt16 none ++ keyBytes none ++ opt8 none

/-- The start window's items (R119). -/
def State.windowBytes (s : State) : List Byte :=
  u8 s.window.view.code ++ s.window.view.holderBytes s.cfg.windowLimit ++ u8 (claimPhaseCode s.window.claim) ++ [s.window.number]
    ++ keyBytes s.window.key ++ opt16 (s.window.hold.shown 1 s.cfg.claimHold) ++ opt8 (s.window.patience.shownRunning 1000)
    ++ flag8 s.firstCandidate

/-- A kind of the transmit queue (R84): a flag byte for its presence, then its attempt count in one byte, 255 where it is not present. That form
is the model's choice (note 24). -/
def Link.kindBytes (l : Link) (cls : Nat) : List Byte :=
  flag8 (l.holds cls) ++ opt8 ((l.queue.find? (fun e => e.body.cls == cls)).map TxEntry.attempts)

/-- The port's items (R84). -/
def Link.statusBytes (l : Link) : List Byte :=
  u16 l.rxErrors ++ u16 l.txErrors ++ u8 l.lastSender.val ++ [l.sequence] ++ [1, 2, 3, 4, 5].flatMap l.kindBytes

/-- The peer table's items (R102). -/
def PeerTable.statusBytes (t : PeerTable) : List Byte :=
  u8 t.drawing ++ u8 t.available ++ u8 t.screenLimit ++ u8 (supplyCode t.supply) ++ activity8 t.generator.active ++ flag8 t.isolated
    ++ u8 (isolationCauseCode t.cause)
    ++ [EntryState.empty, .fresh, .stale, .lost].flatMap (fun st => u8 (t.count (fun e => e.state == st)))

/-- The alarm block's items (R152): the summary, and each point's raw condition and annunciator state. -/
def Alarms.statusBytes (a : Alarms) : List Byte :=
  [a.summary] ++ a.points.toList.flatMap (fun p => flag8 p.raw ++ u8 (annunciatorCode p.ann))

/-- The event queue's items, with the masks, relays, acknowledge input and summary (R158). Neither relays nor acknowledge input have a list of
values where they are held, so each is sent as a flag, 1 for closed and for active: the model's choice (note 24). -/
def State.queueBytes (s : State) : List Byte :=
  u8 s.events.records.length ++ opt16 (s.events.records.head?.map (fun r => r.sequence.toNat)) ++ halfBytes s.events.counter
    ++ u16 s.events.overflow ++ [s.classMask] ++ wordBytes s.lampMask ++ flag8 s.alarms.horn ++ flag8 s.alarms.beacon
    ++ flag8 s.alarms.ack.active ++ [s.alarms.summary]

/-- The Town Line port's items (R162). -/
def State.townBytes (s : State) : List Byte :=
  flag8 s.town.toggle ++ flag8 s.town.sent ++ opt16 (s.town.silence.shown 1000 s.cfg.townTimeout)

/-- The screen unit's items (R134). While C is 0, or the rake is in RAKE_OFF, the interval timer holds its value (R126), and its remaining minutes
are sent and not the absent form: the model's choice (note 24). -/
def State.screenStatus (s : State) : List Byte :=
  signed16 s.screen.delta ++ u8 (screenConditionCode s.screen.condition) ++ u8 s.screen.limit ++ u8 (rakeStateCode s.screen.rake)
    ++ flag8 s.screen.pendingFlag ++ u8 (rakeCauseCode s.screen.pendingCause) ++ u8 s.screen.overloads
    ++ opt16 (s.screen.cycle.remaining 1000 s.cfg.cycleTimeout) ++ opt16 (s.screen.rest.remaining 1000 s.cfg.rest)
    ++ opt8 (s.screen.interval.remaining 60000 s.cfg.rakeInterval) ++ u16 s.screen.cycles ++ u16 s.screen.overloadCount

/-- The confirm or the end count, whichever the state uses (R146). NONE and SPILLING use neither, and the count is then sent as absent: the model's
choice (note 24). -/
def SpillMonitor.countShown (m : SpillMonitor) : Option Nat :=
  match m.state with
  | .confirming => some m.confirmCount
  | .ending => some m.endCount
  | _ => none

/-- The working record's items (R146), absent without one. -/
def workingBytes (r : Option SpillRecord) : List Byte :=
  stampBytes (r.map SpillRecord.start) ++ opt32 (r.map SpillRecord.elapsed) ++ opt32 (r.map SpillRecord.volume)
    ++ opt16 (r.map (fun x => x.peak.toNat)) ++ opt16 (r.map SpillRecord.gap) ++ opt8 (r.map (fun x => x.gapFlag.toNat))
    ++ opt8 (r.map (fun x => x.cut.toNat)) ++ opt8 (r.map (fun x => x.isOpen.toNat)) ++ stampBytes (r.bind SpillRecord.stop)
    ++ opt32 (r.bind SpillRecord.duration)

/-- The spill monitor's items (R146). -/
def SpillMonitor.statusBytes (m : SpillMonitor) : List Byte :=
  signed16 m.head ++ u8 (spillStateCode m.state) ++ opt16 m.countShown ++ opt16 m.lastFlow ++ flag8 m.lastClamped ++ workingBytes m.working
    ++ u16 m.number ++ u8 m.list.length ++ u16 m.discards

/-- A STATUS page (R162), `none` above page 3. -/
def State.statusPage (s : State) : Nat → Option (List Byte)
  | 0 => some (s.chanW.statusBytes ++ s.chanX.statusBytes ++ s.balanceBytes)
  | 1 => some (s.pumpBytes ++ s.windowBytes)
  | 2 => some (wordBytes s.clock.seconds ++ flag8 s.clock.sync ++ u8 (startStateCode s.start.phase) ++ s.link.statusBytes
      ++ s.table.statusBytes ++ s.alarms.statusBytes ++ s.queueBytes ++ s.townBytes)
  | 3 => some (match s.cfg.role with
      | .screen => s.screenStatus
      | .weir => s.spill.statusBytes
      | .none => [])
  | _ => none

end Sys2Proof.Machine
end

