-- ==== Sys2Proof/Machine/Town.lean ====
section
/-! DEFINITION. The Town Line port (chapter 10): the checks of a message, the serving of the eight requests, the five commands, and the
silence timer. -/

namespace Sys2Proof.Machine

/-- The eight requests with their contents (section 10.4). -/
inductive TownRequest where
  | fetch (toggle : Bool)
  | status (page : Option Byte)
  | house
  | spills (index : Byte)
  | ack (point : Byte)
  | command (mask : Byte) (code : CommandCode) (argument : Byte)
  | time (seconds : Word)
  | restart
  deriving DecidableEq, Repr

/-- The toggle an answer to a request carries: the request's own for FETCH, 0 for every other kind (R159). -/
def TownRequest.toggle : TownRequest → Bool
  | .fetch b => b
  | _ => false

/-- The kind code of a request (section 10.4). -/
def TownRequest.kind : TownRequest → Nat
  | .fetch _ => 1
  | .status _ => 2
  | .house => 3
  | .spills _ => 4
  | .ack _ => 5
  | .command _ _ _ => 6
  | .time _ => 7
  | .restart => 8

/-- Refusal codes (R160). -/
inductive TownRefusal where
  | tooLong | badRequest | notPermitted | configFault | badIndex
  deriving DecidableEq, Repr

/-- The code a REFUSED answer carries (R160). -/
def refusalCode : TownRefusal → Nat
  | .tooLong => 1 | .badRequest => 2 | .notPermitted => 3 | .configFault => 4 | .badIndex => 5

/-! ## Answers (R159) -/

/-- The message of an answer on TLT (R159): address, kind, flags with the toggle in bit 0, payload length, payload, and the check value low byte
first. -/
def TownAnswer.bytes (a : TownAnswer) : List Byte :=
  withCheck ([a.address, a.kind] ++ flag8 a.toggle ++ u8 a.payload.length ++ a.payload)

/-- What the port sends on TLT in answer to the latest message: nothing where that got no answer. -/
def State.townLine (s : State) : List Byte := (s.town.answer.map TownAnswer.bytes).getD []

/-- A message gets this answer, none when it came to the broadcast address. -/
def State.answer (address : Byte) (kind : Nat) (toggle : Bool) (payload : List Byte) (s : State) : State :=
  s.withTown { s.town with
    answer := if address = 0 then none
      else some { address := s.cfg.townAddress, kind := BitVec.ofNat 8 kind, toggle := toggle, payload := payload } }

/-- The OK answer to a request of a kind: its kind plus 128. -/
def State.answerOk (address : Byte) (r : TownRequest) (payload : List Byte) (s : State) : State :=
  s.answer address (r.kind + 128) false payload

/-- REFUSED (R160). An answer to a FETCH carries the request's toggle and any other 0 (R159). -/
def State.refuse (address : Byte) (toggle : Bool) (refusal : TownRefusal) (s : State) : State :=
  s.answer address 255 toggle (u8 (refusalCode refusal))

/-- A message that gets no answer. -/
def State.noAnswer (s : State) : State := s.withTown { s.town with answer := none }

/-! ## Serving (R161 to R166) -/

/-- The queue a FETCH finds: the record last sent has left when the toggle has been flipped (R161 step 1). -/
def State.fetchQueue (toggle : Bool) (s : State) : EventQueue :=
  if s.town.sent = true ∧ toggle ≠ s.town.toggle then { s.events with records := s.events.records.drop 1 } else s.events

/-- FETCH (R161). -/
def State.serveFetch (address : Byte) (toggle : Bool) (s : State) : State :=
  let taken := s.withEvents (s.fetchQueue toggle)
  match (s.fetchQueue toggle).records with
  | r :: _ => (taken.withTown { s.town with sent := true, toggle := toggle }).answer address 129 toggle (recordBytes r)
  | [] => (taken.withTown { s.town with sent := false }).answer address 160 toggle []

/-- STATUS (R162). -/
def State.serveStatus (address : Byte) (page : Option Byte) (s : State) : State :=
  match s.statusPage (page.getD 0).toNat with
  | some items => s.answerOk address (.status page) items
  | none => s.refuse address false .badIndex

/-- SPILLS (R162). -/
def State.serveSpills (address index : Byte) (s : State) : State :=
  match s.spill.list[index.toNat]? with
  | some r => s.answerOk address (.spills index) (spillBytes s.spill r)
  | none => s.refuse address false .badIndex

/-- ACK (R150, R163). -/
def State.serveAck (address point : Byte) (s : State) : State :=
  if h : point.toNat < 25 then (s.ackPoint 2 ⟨point.toNat, h⟩).answerOk address (.ack point) []
  else if point = 255 then (s.ackAll 2).answerOk address (.ack point) []
  else s.refuse address false .badIndex

/-- TIME (R165): the clock is set, and a Bay Link TIME frame is offered. -/
def State.serveTime (address : Byte) (seconds : Word) (s : State) : State :=
  ((s.setClock s.own 0 seconds).offerFrame .time).answerOk address (.time seconds) []

/-- RESTART (R166): the town restart waits for the end of the answer. -/
def State.serveRestart (address : Byte) (s : State) : State :=
  (s.withTown { s.town with restarting := true }).answerOk address .restart []

/-- COMMAND (R164): refused in LISTENING, served in OPERATING. -/
def State.serveCommandRequest (address mask : Byte) (code : CommandCode) (argument : Byte) (s : State) : State :=
  if s.operating then (s.serveCommand mask code argument).answerOk address (.command mask code argument) []
  else s.refuse address false .notPermitted

/-- A request that has passed every check is served by the rule for its kind (R160, last row). -/
def State.serve (address : Byte) (r : TownRequest) (s : State) : State :=
  match r with
  | .fetch toggle => s.serveFetch address toggle
  | .status page => s.serveStatus address page
  | .house => s.answerOk address .house s.table.houseBytes
  | .spills index => s.serveSpills address index
  | .ack point => s.serveAck address point
  | .command mask code argument => s.serveCommandRequest address mask code argument
  | .time seconds => s.serveTime address seconds
  | .restart => s.serveRestart address

/-! ## The checks (R160) -/

/-- The port takes messages: it runs, and no answer to a RESTART is going out (R159, R166). -/
def State.hearsTown (s : State) : Bool := s.started && !s.town.restarting

/-- Rows 2 and 3 of R160: the own address, or a broadcast TIME. -/
def State.addressed (address : Byte) (kind : Nat) (s : State) : Bool :=
  address == s.cfg.townAddress || (address == 0 && kind == 7)

/-- A valid request restarts the silence timer, and TOWN_SILENT falls (R167). The request is served after that, so a FETCH finds the ALARM_CHANGE
of the fall in the queue: the model's order (note 43). -/
def State.markValid (s : State) : State :=
  (s.withTown { s.town with silence := .start }).deliver .townSilent false

/-- The kinds served in CONFIG_FAULT (R160): FETCH, STATUS, SPILLS, and RESTART. -/
def faultKind (kind : Nat) : Bool := kind == 1 || kind == 2 || kind == 4 || kind == 8

/-- The kinds that need remote operation (R160): COMMAND, TIME, RESTART. -/
def remoteKind (kind : Nat) : Bool := kind == 6 || kind == 7 || kind == 8

/-- The two rows of R160 that the start state and remote operation decide. -/
def State.barred (kind : Nat) (s : State) : Option TownRefusal :=
  if s.start.phase = .configFault ∧ faultKind kind = false then some .configFault
  else if s.cfg.remote = false ∧ remoteKind kind = true then some .notPermitted
  else none

/-- A valid request of a known kind, `none` standing for a payload that fails the row before the last (R160). -/
def State.serveValid (address : Byte) (kind : Nat) (toggle : Bool) (r : Option TownRequest) (s : State) : State :=
  match s.barred kind, r with
  | some refusal, _ => s.refuse address toggle refusal
  | none, some request => s.serve address request
  | none, none => s.refuse address toggle .badRequest

/-- A request of a known kind and contents reaches the port. -/
def State.request (address : Byte) (r : TownRequest) (s : State) : State :=
  if s.hearsTown then
    if s.addressed address r.kind then s.markValid.serveValid address r.kind r.toggle (some r) else s.noAnswer
  else s

/-- A payload by its kind, at a length allowed for it and its codes in range (section 10.4). -/
def takeRequest (kind : Nat) (toggle : Bool) (payload : List Byte) : Option TownRequest :=
  match kind, payload with
  | 1, [] => some (.fetch toggle)
  | 2, [] => some (.status none)
  | 2, [page] => some (.status (some page))
  | 3, [] => some .house
  | 4, [index] => some (.spills index)
  | 5, [point] => some (.ack point)
  | 6, [mask, c, argument] => (commandOf c.toNat).map (fun code => TownRequest.command mask code argument)
  | 7, [b0, b1, b2, b3] => some (.time (wordOf b0 b1 b2 b3))
  | 8, [] => some .restart
  | _, _ => none

/-- The rows of R160 below the address, on a valid request's bytes. -/
def State.judgeRequest (address : Byte) (kind n : Nat) (toggle : Bool) (size : Nat) (payload : List Byte) (s : State) : State :=
  let echoed := kind == 1 && toggle
  if 200 < n then s.refuse address echoed .tooLong
  else if n ≠ size - 6 then s.refuse address echoed .badRequest
  else if kind < 1 ∨ 8 < kind then s.refuse address echoed .badRequest
  else s.serveValid address kind echoed (takeRequest kind toggle payload)

/-- A message heard, checked by the rows of R160 in their order. -/
def State.hearMessage (bytes : List Byte) (framingError : Bool) (s : State) : State :=
  if bytes.length < 6 ∨ framingError = true ∨ crc bytes ≠ 0 then s.noAnswer
  else
    match bytes with
    | address :: kind :: flags :: n :: rest =>
      if s.addressed address kind.toNat then
        s.markValid.judgeRequest address kind.toNat n.toNat (flags.getLsbD 0) bytes.length (rest.take n.toNat)
      else s.noAnswer
    | _ => s.noAnswer

/-- UNSERVED_TOWN_MESSAGE (R159, R160): the characters are taken as what they are (note 22). One whose ending silence falls while an answer
goes out is dropped. -/
def execUnservedTownMessage (bytes : List Byte) (framingError overlapping : Bool) (s : State) : Host.Outcome State Fault Refusal :=
  .next (if s.hearsTown = true ∧ overlapping = false then s.hearMessage bytes framingError else s)

/-- FETCH (R161). -/
def execFetch (address : Byte) (toggle : Bool) (s : State) : Host.Outcome State Fault Refusal :=
  .next (s.request address (.fetch toggle))

/-- STATUS (R162). -/
def execStatus (address : Byte) (page : Option Byte) (s : State) : Host.Outcome State Fault Refusal :=
  .next (s.request address (.status page))

/-- HOUSE (R162). -/
def execHouse (address : Byte) (s : State) : Host.Outcome State Fault Refusal :=
  .next (s.request address .house)

/-- SPILLS (R162). -/
def execSpills (address index : Byte) (s : State) : Host.Outcome State Fault Refusal :=
  .next (s.request address (.spills index))

/-- ACK (R163). -/
def execAck (address point : Byte) (s : State) : Host.Outcome State Fault Refusal :=
  .next (s.request address (.ack point))

/-- TIME (R165). -/
def execTime (address : Byte) (seconds : Word) (s : State) : Host.Outcome State Fault Refusal :=
  .next (s.request address (.time seconds))

/-- RESTART (R166). -/
def execRestart (address : Byte) (s : State) : Host.Outcome State Fault Refusal :=
  .next (s.request address .restart)

/-- TOWN_SILENCE_EXPIRY (R167). -/
def execTownSilenceExpiry (s : State) : Host.Outcome State Fault Refusal :=
  .next (if s.town.silence.due s.cfg.silenceLimit = true ∧ s.cfg.townTimeout ≠ 0 then
    (s.withTown { s.town with silence := .reached }).deliver .townSilent true
  else s)

/-! ## Commands (R60, R61, R132, R164) -/

/-- A command by its way to the station: a COMMAND request, or a good Bay Link COMMAND frame. -/
def State.takeCommand (src : CommandSource) (code : CommandCode) (s : State) : State :=
  match src with
  | .town address mask argument => s.request address (.command mask code argument)
  | .bayLink sender mask argument => s.receive sender (.command mask code argument)

/-- RESET_TRIP (R60). -/
def execResetTrip (src : CommandSource) (s : State) : Host.Outcome State Fault Refusal :=
  .next (s.takeCommand src .resetTrip)

/-- INHIBIT (R61). -/
def execInhibit (src : CommandSource) (s : State) : Host.Outcome State Fault Refusal :=
  .next (s.takeCommand src .inhibit)

/-- RELEASE (R61). -/
def execRelease (src : CommandSource) (s : State) : Host.Outcome State Fault Refusal :=
  .next (s.takeCommand src .release)

/-- RAKE_NOW (R132). -/
def execRakeNow (src : CommandSource) (s : State) : Host.Outcome State Fault Refusal :=
  .next (s.takeCommand src .rakeNow)

/-- RESET_RAKE (R132). -/
def execResetRake (src : CommandSource) (s : State) : Host.Outcome State Fault Refusal :=
  .next (s.takeCommand src .resetRake)

end Sys2Proof.Machine
end

