-- ==== Sys2Proof/Machine/Dispatch.lean ====
section
/-! DEFINITION. Every command and its meaning, one arm each, in the order of spec/opcode_table.json. -/

namespace Sys2Proof.Machine

/-- The effect of a command on everything but the queue of waiting commands. -/
def exec (i : Instr) (s : State) : Host.Outcome State Fault Refusal :=
  match i with
  | .fullStart => Sys2Proof.Machine.execFullStart s
  | .loadingEnd st0 st1 st2 imageReads hoursReads => Sys2Proof.Machine.execLoadingEnd st0 st1 st2 imageReads hoursReads s
  | .listeningEnd => Sys2Proof.Machine.execListeningEnd s
  | .townRestart => Sys2Proof.Machine.execTownRestart s
  | .secondsClockTick => Sys2Proof.Machine.execSecondsClockTick s
  | .spillConfirm => Sys2Proof.Machine.execSpillConfirm s
  | .spillClose => Sys2Proof.Machine.execSpillClose s
  | .runHoursRise => Sys2Proof.Machine.execRunHoursRise s
  | .hoursWriteComplete acknowledged => Sys2Proof.Machine.execHoursWriteComplete acknowledged s
  | .sampleEvent ch conversion => Sys2Proof.Machine.execSampleEvent ch conversion s
  | .settlingEnd ch => Sys2Proof.Machine.execSettlingEnd ch s
  | .checkEnd ch => Sys2Proof.Machine.execCheckEnd ch s
  | .checkTimerExpiry ch => Sys2Proof.Machine.execCheckTimerExpiry ch s
  | .faultHoldExpiry ch => Sys2Proof.Machine.execFaultHoldExpiry ch s
  | .disagreeTimerExpiry => Sys2Proof.Machine.execDisagreeTimerExpiry s
  | .balanceEvent => Sys2Proof.Machine.execBalanceEvent s
  | .invalidHoldExpiry => Sys2Proof.Machine.execInvalidHoldExpiry s
  | .inputLevelChange pin level => Sys2Proof.Machine.execInputLevelChange pin level s
  | .floatDebounceExpiry f => Sys2Proof.Machine.execFloatDebounceExpiry f s
  | .runFbFilterExpiry => Sys2Proof.Machine.execRunFbFilterExpiry s
  | .faultContactDebounceExpiry => Sys2Proof.Machine.execFaultContactDebounceExpiry s
  | .selectorContactDebounceExpiry c => Sys2Proof.Machine.execSelectorContactDebounceExpiry c s
  | .selectorOffHoldExpiry => Sys2Proof.Machine.execSelectorOffHoldExpiry s
  | .lockoutEnd => Sys2Proof.Machine.execLockoutEnd s
  | .feedbackTimerExpiry => Sys2Proof.Machine.execFeedbackTimerExpiry s
  | .settleTimerExpiry => Sys2Proof.Machine.execSettleTimerExpiry s
  | .lossTimerExpiry => Sys2Proof.Machine.execLossTimerExpiry s
  | .minimumRunReached => Sys2Proof.Machine.execMinimumRunReached s
  | .stopSpacingExpiry => Sys2Proof.Machine.execStopSpacingExpiry s
  | .strayRunExpiry => Sys2Proof.Machine.execStrayRunExpiry s
  | .staggerTimerExpiry => Sys2Proof.Machine.execStaggerTimerExpiry s
  | .resetTrip src => Sys2Proof.Machine.execResetTrip src s
  | .inhibit src => Sys2Proof.Machine.execInhibit src s
  | .release src => Sys2Proof.Machine.execRelease src s
  | .rakeNow src => Sys2Proof.Machine.execRakeNow src s
  | .resetRake src => Sys2Proof.Machine.execResetRake src s
  | .transmitSlot slot => Sys2Proof.Machine.execTransmitSlot slot s
  | .frameSent => Sys2Proof.Machine.execFrameSent s
  | .echoFailure => Sys2Proof.Machine.execEchoFailure s
  | .txFailureTimerExpiry => Sys2Proof.Machine.execTxFailureTimerExpiry s
  | .reportTimerExpiry => Sys2Proof.Machine.execReportTimerExpiry s
  | .badFrame bytes framingError => Sys2Proof.Machine.execBadFrame bytes framingError s
  | .ownNumberFrame => Sys2Proof.Machine.execOwnNumberFrame s
  | .duplicateTimerExpiry => Sys2Proof.Machine.execDuplicateTimerExpiry s
  | .report sender r => Sys2Proof.Machine.execReport sender r s
  | .startClaim sender number hours => Sys2Proof.Machine.execStartClaim sender number hours s
  | .startDone sender number outcome => Sys2Proof.Machine.execStartDone sender number outcome s
  | .timeFrame sender seconds => Sys2Proof.Machine.execTimeFrame sender seconds s
  | .entryBecomesStale peer => Sys2Proof.Machine.execEntryBecomesStale peer s
  | .entryBecomesLost peer => Sys2Proof.Machine.execEntryBecomesLost peer s
  | .lostReleaseExpiry peer => Sys2Proof.Machine.execLostReleaseExpiry peer s
  | .peerSilenceExpiry => Sys2Proof.Machine.execPeerSilenceExpiry s
  | .generatorDebounceExpiry => Sys2Proof.Machine.execGeneratorDebounceExpiry s
  | .patienceRunOut => Sys2Proof.Machine.execPatienceRunOut s
  | .claimHoldExpiry => Sys2Proof.Machine.execClaimHoldExpiry s
  | .windowTimerExpiry => Sys2Proof.Machine.execWindowTimerExpiry s
  | .camFilterExpiry => Sys2Proof.Machine.execCamFilterExpiry s
  | .overloadFilterExpiry => Sys2Proof.Machine.execOverloadFilterExpiry s
  | .camCheckExpiry => Sys2Proof.Machine.execCamCheckExpiry s
  | .reverseTimerExpiry => Sys2Proof.Machine.execReverseTimerExpiry s
  | .pauseTimerExpiry => Sys2Proof.Machine.execPauseTimerExpiry s
  | .cycleTimeout => Sys2Proof.Machine.execCycleTimeout s
  | .restTimerExpiry => Sys2Proof.Machine.execRestTimerExpiry s
  | .intervalTimerExpiry => Sys2Proof.Machine.execIntervalTimerExpiry s
  | .panelAcknowledge => Sys2Proof.Machine.execPanelAcknowledge s
  | .unservedTownMessage bytes framingError overlapping => Sys2Proof.Machine.execUnservedTownMessage bytes framingError overlapping s
  | .fetch address toggle => Sys2Proof.Machine.execFetch address toggle s
  | .status address page => Sys2Proof.Machine.execStatus address page s
  | .house address => Sys2Proof.Machine.execHouse address s
  | .spills address index => Sys2Proof.Machine.execSpills address index s
  | .ack address point => Sys2Proof.Machine.execAck address point s
  | .time address seconds => Sys2Proof.Machine.execTime address seconds s
  | .restart address => Sys2Proof.Machine.execRestart address s
  | .townSilenceExpiry => Sys2Proof.Machine.execTownSilenceExpiry s
  | .firstIdleGap => Sys2Proof.Machine.execFirstIdleGap s
  | .acknowledgeInputReleased => Sys2Proof.Machine.execAcknowledgeInputReleased s

end Sys2Proof.Machine
end

