-- ==== Sys2Proof/Machine/Idle.lean ====
section
/-! DEFINITION. The passing of time (note 2): the idle step lets one millisecond pass, in which every running timer rises, and queues the
expiries that fall due. -/

namespace Sys2Proof.Machine

/-- A running timer a millisecond later, held at its limit until its expiry is taken. -/
def Timer.advance (limit : Nat) : Timer → Timer
  | .running ms => .running (min limit (ms + 1))
  | .renewed => .running (min limit 1)
  | t => t

/-- A timer that does not run for the moment, a millisecond later: its reading stays, and the instant of its restart is over. -/
def Timer.holdStill : Timer → Timer
  | .renewed => .running 0
  | t => t

/-- A filter a millisecond later. -/
def Filter.advance (limit : Nat) (f : Filter) : Filter := { f with timer := f.timer.advance limit }

/-- The interval timer runs while C is above 0 and the rake is not in RAKE_OFF (R126). -/
def State.intervalRuns (s : State) : Bool := 0 < s.table.drawing && s.screen.rake != .rakeOff

/-! ## A millisecond of each block -/

/-- A channel's timers. -/
def Channel.advance (g : ChannelSettings) (c : Channel) : Channel :=
  { c with hold := c.hold.advance g.holdTime, check := c.check.advance g.checkTime }

/-- The balance unit's timers. -/
def Balance.advance (g : Settings) (b : Balance) : Balance :=
  { b with
    invalidHold := b.invalidHold.advance g.invalidTime
    disagree := b.disagree.advance disagreeTime
    timer := b.timer.advance g.balanceTime }

/-- The floats' timers. -/
def Floats.advance (g : Settings) (f : Floats) : Floats :=
  { highHigh := f.highHigh.advance g.floatTime, lowLow := f.lowLow.advance g.floatTime }

/-- The sequencer's timers. -/
def Pump.advance (g : Settings) (figure stagger : Nat) (p : Pump) : Pump :=
  { p with
    lockout := p.lockout.advance figure
    feedback := p.feedback.advance g.feedbackLimit
    settle := p.settle.advance g.settleTime
    run := p.run.advance g.runTime
    loss := p.loss.advance lossTime
    stray := p.stray.advance g.feedbackLimit
    spacing := p.spacing.advance g.spacingTime
    stagger := p.stagger.advance stagger
    runFb := p.runFb.advance fastFilter
    faultContact := p.faultContact.advance slowFilter
    contactHand := p.contactHand.advance slowFilter
    contactAuto := p.contactAuto.advance slowFilter
    offHold := p.offHold.advance slowFilter }

/-- The port's timers. -/
def Link.advance (g : Settings) (l : Link) : Link :=
  { l with
    duplicate := l.duplicate.advance duplicateTime, failure := l.failure.advance failureTime, report := l.report.advance g.reportInterval }

/-- The peer table's timers. -/
def PeerTable.advance (g : Settings) (t : PeerTable) : PeerTable :=
  { t with
    entries := t.entries.map fun e =>
      { e with age := e.age.advance (e.ageLimit g.reportInterval), release := e.release.advance g.releaseTime }
    silence := t.silence.advance g.lossLimit
    generator := t.generator.advance slowFilter }

/-- The window timer. -/
def WindowView.advance (limit : Nat) : WindowView → WindowView
  | .held holder number best timer => .held holder number best (timer.advance limit)
  | v => v

/-- The start window's timers. -/
def Window.advance (g : Settings) (w : Window) : Window :=
  { w with
    view := w.view.advance g.viewTime
    hold := w.hold.advance g.claimHold
    patience := w.patience.advance g.patienceTime }

/-- The screen unit's timers. -/
def Screen.advance (g : Settings) (intervalRuns : Bool) (u : Screen) : Screen :=
  { u with
    cycle := u.cycle.advance g.cycleTime
    camCheck := u.camCheck.advance camCheckTime
    reverse := u.reverse.advance g.reverseLimit
    pause := u.pause.advance pauseTime
    rest := u.rest.advance g.restTime
    interval := if intervalRuns then u.interval.advance g.intervalTime else u.interval.holdStill
    cam := u.cam.advance fastFilter
    overload := u.overload.advance fastFilter }

/-- The phase of the second a millisecond later (R169). -/
def Clock.advance (c : Clock) : Clock := { c with subMs := if 999 ≤ c.subMs then 0 else c.subMs + 1 }

/-- A millisecond of the whole part. -/
def State.millisecond (s : State) : State :=
  (((((((((((((s.withClock s.clock.advance).withStart { s.start with listening := s.start.listening.advance s.cfg.listeningPeriod }).withChanW
    (s.chanW.advance s.cfg.channelW)).withChanX (s.chanX.advance s.cfg.channelX)).withBalance (s.balance.advance s.cfg)).withFloats
    (s.floats.advance s.cfg)).withPump (s.pump.advance s.cfg s.lockoutFigure s.staggerTime)).withLink
    (s.link.advance s.cfg)).withTable (s.table.advance s.cfg)).withWindow (s.window.advance s.cfg)).withScreen
    (s.screen.advance s.cfg s.intervalRuns)).withAlarms { s.alarms with ack := s.alarms.ack.advance fastFilter }).withTown
    { s.town with silence := s.town.silence.advance s.cfg.silenceLimit })

/-! ## Expiries that fall due -/

/-- The due expiries of a channel. -/
def Channel.dueCommands (ch : ChannelId) (g : ChannelSettings) (c : Channel) : List (Bool × Instr) :=
  [(c.check.due g.checkTime, .checkTimerExpiry ch), (c.hold.due g.holdTime, .faultHoldExpiry ch)]

/-- The due expiries of a peer's entry. -/
def PeerEntry.dueCommands (g : Settings) (p : Station) (e : PeerEntry) : List (Bool × Instr) :=
  [(e.state == .fresh && e.age.due (e.ageLimit g.reportInterval), .entryBecomesStale p),
   (e.state == .stale && e.age.due (e.ageLimit g.reportInterval), .entryBecomesLost p),
   (e.release.due g.releaseTime, .lostReleaseExpiry p)]

/-- The due expiries of the sequencer; the selector's OFF hold stands before its contacts, so that a gap of 500 ms passes through OFF (R44). -/
def Pump.dueCommands (g : Settings) (figure stagger : Nat) (p : Pump) : List (Bool × Instr) :=
  [(p.runFb.timer.due fastFilter, .runFbFilterExpiry), (p.faultContact.timer.due slowFilter, .faultContactDebounceExpiry),
   (p.offHold.due slowFilter, .selectorOffHoldExpiry), (p.contactHand.timer.due slowFilter, .selectorContactDebounceExpiry .hand),
   (p.contactAuto.timer.due slowFilter, .selectorContactDebounceExpiry .auto),
   (p.lockout.due figure, .lockoutEnd), (p.feedback.due g.feedbackLimit, .feedbackTimerExpiry),
   (p.settle.due g.settleTime, .settleTimerExpiry), (p.loss.due lossTime, .lossTimerExpiry),
   (p.run.due g.runTime, .minimumRunReached), (p.spacing.due g.spacingTime, .stopSpacingExpiry),
   (p.stray.due g.feedbackLimit, .strayRunExpiry), (p.stagger.due stagger, .staggerTimerExpiry)]

/-- The due expiries of the balance unit and the floats. -/
def State.dueBalance (s : State) : List (Bool × Instr) :=
  [(s.balance.disagree.due disagreeTime, .disagreeTimerExpiry), (s.balance.timer.due s.cfg.balanceTime, .balanceEvent),
   (s.balance.invalidHold.due s.cfg.invalidTime, .invalidHoldExpiry),
   (s.floats.highHigh.timer.due s.cfg.floatTime, .floatDebounceExpiry .highHigh),
   (s.floats.lowLow.timer.due s.cfg.floatTime, .floatDebounceExpiry .lowLow)]

/-- The due expiries of the port. -/
def Link.dueCommands (g : Settings) (l : Link) : List (Bool × Instr) :=
  [(l.failure.due failureTime, .txFailureTimerExpiry), (l.report.due g.reportInterval, .reportTimerExpiry),
   (l.duplicate.due duplicateTime, .duplicateTimerExpiry)]

/-- The due expiry of the window timer. -/
def WindowView.isDue (limit : Nat) : WindowView → Bool
  | .held _ _ _ timer => timer.due limit
  | _ => false

/-- The due expiries of the start window. -/
def Window.dueCommands (g : Settings) (w : Window) : List (Bool × Instr) :=
  [(w.patience.due g.patienceTime, .patienceRunOut), (w.hold.due g.claimHold, .claimHoldExpiry),
   (w.view.isDue g.viewTime, .windowTimerExpiry)]

/-- The due expiries of the screen unit. -/
def Screen.dueCommands (g : Settings) (intervalRuns : Bool) (u : Screen) : List (Bool × Instr) :=
  [(u.cam.timer.due fastFilter, .camFilterExpiry), (u.overload.timer.due fastFilter, .overloadFilterExpiry),
   (u.camCheck.due camCheckTime, .camCheckExpiry), (u.reverse.due g.reverseLimit, .reverseTimerExpiry), (u.pause.due pauseTime, .pauseTimerExpiry),
   (u.cycle.due g.cycleTime, .cycleTimeout), (u.rest.due g.restTime, .restTimerExpiry),
   (intervalRuns && u.interval.due g.intervalTime, .intervalTimerExpiry)]

/-- The due expiries of the start-up unit and of the seconds clock. -/
def State.dueStart (ticks : Bool) (s : State) : List (Bool × Instr) :=
  [(ticks, .secondsClockTick), (s.start.listening.due s.cfg.listeningPeriod, .listeningEnd)]

/-- The due expiries of the peer table. -/
def State.duePeers (s : State) : List (Bool × Instr) :=
  (List.finRange 8).flatMap (fun p => (s.table.entry p).dueCommands s.cfg p)
    ++ [(s.table.silence.due s.cfg.lossLimit, .peerSilenceExpiry),
        (s.table.generator.timer.due slowFilter, .generatorDebounceExpiry)]

/-- The due expiries of the panel and the Town Line, and the first idle gap of a line on which nothing is heard. -/
def State.dueLines (s : State) : List (Bool × Instr) :=
  [(s.alarms.ack.timer.due fastFilter, if s.pins.dack then .panelAcknowledge else .acknowledgeInputReleased),
   (s.cfg.townTimeout != 0 && s.town.silence.due s.cfg.silenceLimit, .townSilenceExpiry),
   (s.started && !s.link.listening, .firstIdleGap)]

/-- The expiries that have fallen due, the seconds clock first (note 2). -/
def State.dueCommands (ticks : Bool) (s : State) : List Instr :=
  (s.dueStart ticks ++ s.chanW.dueCommands .w s.cfg.channelW ++ s.chanX.dueCommands .x s.cfg.channelX ++ s.dueBalance
    ++ s.pump.dueCommands s.cfg s.lockoutFigure s.staggerTime ++ s.link.dueCommands s.cfg ++ s.duePeers
    ++ s.window.dueCommands s.cfg ++ s.screen.dueCommands s.cfg s.intervalRuns ++ s.dueLines).filterMap fun c =>
      if c.1 then some c.2 else none

/-- The idle step (note 2). -/
def State.idle (s : State) : State :=
  s.millisecond.withPending (s.millisecond.dueCommands (decide (999 ≤ s.clock.subMs)))

end Sys2Proof.Machine
end

