-- ==== Sys2Proof/Safety.lean ====
section
/-! DEFINITION. What counts as a safe run: the promises the manual makes about the part in every state it can be in, each as a property of
one state. -/

namespace Sys2Proof

/-- The station a command's COMMAND_APPLIED names (R164). -/
def CommandSource.origin (own : Station) : CommandSource → Station
  | .town _ _ _ => own
  | .bayLink sender _ _ => sender

/-- The route of a command: 0 for a COMMAND request, 1 for a Bay Link frame (R164). -/
def CommandSource.route : CommandSource → Nat
  | .town _ _ _ => 0
  | .bayLink _ _ _ => 1

end Sys2Proof

namespace Sys2Proof.Machine

/-- R46, first half: the contactor output is closed exactly in STARTING and RUNNING. -/
abbrev State.ContactorFollows (s : State) : Prop :=
  s.pump.contactor = (s.pump.state == .starting || s.pump.state == .running)

/-- Section 7.4: QFW is closed exactly in FORWARD and QRV exactly in CLEARING, so never both. -/
abbrev State.RakeOutputsFollow (s : State) : Prop :=
  s.screen.forwardOut = (s.screen.rake == .forward) ∧ s.screen.reverseOut = (s.screen.rake == .clearing)

/-- R151, R152: the relays and the summary are those of the points. -/
abbrev State.RelaysFollow (s : State) : Prop :=
  s.alarms.horn = lampAny s.lampMask s.alarms.points PointState.unseen ∧
  s.alarms.beacon = lampAny s.lampMask s.alarms.points PointState.raw ∧
  ∀ g : Fin 8, s.alarms.summary.getLsbD g.val = groupBit s.alarms.points g.val

/-- The records carry consecutive numbers and the counter the one after the last (R156). -/
def numberedTo (counter : Half) : List EventRecord → Bool
  | [] => true
  | [r] => r.sequence + 1 == counter
  | r :: q :: rest => r.sequence + 1 == q.sequence && numberedTo counter (q :: rest)

/-- R156: at most 64 records, consecutively numbered, the counter one past the last. -/
abbrev State.QueueNumbered (s : State) : Prop :=
  s.events.records.length ≤ 64 ∧ numberedTo s.events.counter s.events.records = true

/-- Section 6.1: the view is OWN exactly while the claim phase is not NONE. -/
abbrev State.ViewOwnsClaim (s : State) : Prop :=
  s.window.view = .own ↔ s.window.claim ≠ .none

/-- R75: the transmit queue holds at most one entry of a kind, the kinds in class order. -/
abbrev State.QueueInClassOrder (s : State) : Prop :=
  (s.link.queue.map (fun e => e.body.cls)).Pairwise (· < ·)

/-- Section 5.1: the entry of the own station number is EMPTY; during LOADING every entry is (R85). -/
abbrev State.OwnEntryEmpty (s : State) : Prop :=
  (s.table.entry s.own).state = .empty ∧ (s.start.phase = .loading → ∀ p : Station, (s.table.entry p).state = .empty)

/-- R37, R38: E is the least of D, R, Slim and A, and R the limit of the house supply, while the balance unit runs. -/
abbrev State.DemandLimited (s : State) : Prop :=
  s.working = true →
    s.balance.effective = min (min s.balance.demand s.balance.limit) (min s.table.screenLimit s.table.available) ∧
    s.balance.limit = s.cfg.runningLimit s.table.supply

/-- R92 to R96: C, A, the house supply and Slim are those of the entries and the own inputs, while the peer table runs. -/
abbrev State.CountsCurrent (s : State) : Prop :=
  s.working = true →
    s.table.drawing = s.drawingCount ∧ s.table.available = s.availableCount ∧ s.table.supply = s.houseSupply ∧
    s.table.screenLimit = s.slim

/-- The working record and the state of the spill monitor belong together (section 8.1, R137 to R140). -/
def SpillMonitor.recordFits (m : SpillMonitor) : Bool :=
  match m.state, m.working with
  | .none, none => true
  | .confirming, some r => !r.isOpen
  | .spilling, some r => r.isOpen && r.number == m.number
  | .ending, some r => r.isOpen && r.number == m.number
  | _, _ => false

/-- R143: at most 16 records in ascending spill number, none above the monitor's, and only the newest open. -/
abbrev SpillMonitor.ListKept (m : SpillMonitor) : Prop :=
  m.list.length ≤ 16 ∧ (m.list.map SpillRecord.number).Pairwise (· < ·) ∧ (∀ r ∈ m.list, r.number ≤ m.number) ∧
  (∀ r ∈ m.closed, r.isOpen = false) ∧ m.recordFits = true

/-- R141: a number is the whole square root of another. -/
def IsWholeRoot (n r : Nat) : Prop := r * r ≤ n ∧ n < (r + 1) * (r + 1)

/-- The bytes of the averaging window: empty or exactly eight levels (section 1.1). -/
abbrev Channel.WindowWhole (c : Channel) : Prop := c.samples = [] ∨ c.samples.length = 8

/-- Nothing of a station but the seconds clock's setting, the pins, the kept spill list and the waiting commands moves in LOADING (R168). -/
abbrev State.LoadingAtReset (s : State) : Prop :=
  s.start.phase = .loading →
    s.pump = Pump.reset ∧ s.balance = Balance.reset ∧ s.floats = { highHigh := .reset, lowLow := .reset } ∧ s.screen = Screen.reset ∧
    s.window = Window.reset ∧ s.link = Link.reset ∧ s.table = PeerTable.reset ∧ s.alarms = Alarms.reset ∧ s.events = EventQueue.reset ∧
    s.town = Town.reset ∧ s.chanW = Channel.reset ∧ s.chanX = Channel.reset

/-- R35: D is the first row that applies, while the balance unit runs. -/
abbrev State.DemandCurrent (s : State) : Prop := s.working = true → s.balance.demand = s.demandRow

/-- R46, whole: the contactor follows the state, and is open while the low-low float is in force. -/
abbrev State.ContactorSafe (s : State) : Prop :=
  s.ContactorFollows ∧ (s.lowLowInForce = true → s.pump.contactor = false)

/-- R45: before OPERATING and in CONFIG_FAULT the sequencer is in STARTUP or UNCONFIGURED. -/
abbrev State.PumpQuiet (s : State) : Prop := s.operating = false → s.pump.state = .startup ∨ s.pump.state = .unconfigured

/-- What every step keeps together, so that the contactor is safe (R35, R38, R45, R46, R92 to R96, R168). -/
abbrev State.Kept (s : State) : Prop :=
  s.LoadingAtReset ∧ s.PumpQuiet ∧ s.DemandCurrent ∧ s.DemandLimited ∧ s.CountsCurrent ∧ s.ContactorSafe

/-- What no operation of the pump sequencer touches: eleven blocks, the entries and the own items of the peer table, and everything of the
balance unit but R and E. -/
structure State.Moves (s t : State) : Prop where
  start : t.start = s.start
  clock : t.clock = s.clock
  pins : t.pins = s.pins
  chanW : t.chanW = s.chanW
  chanX : t.chanX = s.chanX
  floats : t.floats = s.floats
  screen : t.screen = s.screen
  spill : t.spill = s.spill
  town : t.town = s.town
  pending : t.pending = s.pending
  table : t.table = { s.table with
    drawing := t.table.drawing, available := t.table.available, supply := t.table.supply, screenLimit := t.table.screenLimit }
  balance : t.balance = { s.balance with limit := t.balance.limit, effective := t.balance.effective }

/-- A request kind the port serves now: it hears the line, the address is the own one and not the broadcast, and no row of R160 above the
serving refuses the kind. -/
abbrev State.Serves (s : State) (address : Byte) (kind : Nat) : Prop :=
  s.hearsTown = true ∧ address = s.cfg.townAddress ∧ address ≠ 0 ∧ s.barred kind = none

/-- A command sent this way reaches its owner at this station: OPERATING, remote operation enabled, the own bit of the mask set, and either a
COMMAND request the port serves or a frame of another station the port takes in (R164). -/
abbrev State.Reaches (s : State) (src : CommandSource) : Prop :=
  match src with
  | .town address mask _ => s.operating = true ∧ s.Serves address 6 ∧ s.masked mask = true
  | .bayLink sender mask _ => s.operating = true ∧ s.cfg.remote = true ∧ s.canReceive = true ∧ sender ≠ s.own ∧ s.masked mask = true

/-- A good frame of this kind is taken in from this sender: the port takes frames, the sender is another station, and the blocks it is handed to
run (R81). -/
abbrev State.TakesFrom (s : State) (sender : Station) : Prop :=
  s.canReceive = true ∧ s.working = true ∧ sender ≠ s.own

/-- Every alarm point but those named is as before, and so is the acknowledge input. -/
abbrev State.PointsBut (s t : State) (ps : List AlarmPoint) : Prop :=
  (∀ i : Fin 25, i ∉ ps.map pointIndex → t.alarms.points[i] = s.alarms.points[i]) ∧ t.alarms.ack = s.alarms.ack

/-- One raw condition has been delivered: its point holds it, and every other point is as before. -/
abbrev State.Delivers (s t : State) (p : AlarmPoint) (raw : Bool) : Prop :=
  t.rawOf p = raw ∧ s.PointsBut t [p]

/-- Only the alarm block and the event queue differ. -/
abbrev State.AlarmsOnly (s t : State) : Prop := t = (s.withAlarms t.alarms).withEvents t.events

/-- Where the class mask lets the kind through and the queue has room for the `n` records a command can add, one of the records added is this
one, with the present time (R154 to R157). -/
abbrev State.Records (s t : State) (n : Nat) (kind : EventKind) (source : Station) (subject : Nat) (values : List Word) : Prop :=
  s.takesClass (eventClass kind) = true → s.events.overflow = 0 → s.events.records.length + n ≤ 64 →
    ∃ r ∈ t.events.records.drop s.events.records.length,
      r.kind = kind ∧ r.source = source ∧ r.subject = BitVec.ofNat 8 subject ∧ r.values = values ∧ r.time = t.clock.seconds ∧
      r.sync = t.clock.sync

/-- A REPORT is queued, the report timer restarts from 0, and the port is otherwise as before (R76, R78). -/
abbrev State.QueuesReport (s t : State) : Prop := t.link = { s.link.offer .report with report := .running 0 }

/-- The pump at rest in a state: the contactor open, and every timer that belongs to a pump state stopped (R46, R47). -/
def Pump.halted (st : PumpState) (p : Pump) : Pump :=
  { p with
    state := st, contactor := false, lockout := .stopped, feedback := .stopped, settle := .stopped, run := .stopped, loss := .stopped,
    stray := .stopped, stagger := .stopped }

/-- The pump in STARTING (R52, R53): the contactor closed, the start counted, the contactor-closed time from 0, and the feedback timer or, with
RUN_FB present, the settle timer from 0. -/
def Pump.launched (p : Pump) : Pump :=
  { p.halted .starting with
    contactor := true
    startCount := min 65535 (p.startCount + 1)
    closedSeconds := 0
    feedback := if p.runFb.active then .stopped else .running 0
    settle := if p.runFb.active then .running 0 else .stopped }

/-- The stray-run timer of a state the watch applies in, at entry (R57). -/
def Pump.strayAtEntry (p : Pump) : Timer := if p.runFb.active then .running 0 else .stopped

/-- The START CLAIM of a claim in PENDING is on the line, so that a closing waits for the end of the attempt (R77, R117). -/
abbrev State.closingWaits (s : State) : Prop := s.window.claim = .pending ∧ s.link.sendingClass = some 1

/-- The pump is in CLAIMING, or in a STARTING entered through a claim: leaving that state closes the claim (R65, R117). -/
abbrev State.holdsClaim (s : State) : Prop := s.pump.state = .claiming ∨ (s.pump.state = .starting ∧ s.window.viaClaim = true)

/-- The window with its claim ended (R117). -/
def Window.released (w : Window) : Window := { w with view := .free, claim := .none, hold := .stopped }

/-- The window once the pump has left the state it was in (R65, R105, R117): the claim it held there closed, or as it was while that closing
waits, and the patience timer stopped. -/
def State.windowLeft (s : State) : Window :=
  { (if s.holdsClaim ∧ s.window.claim ≠ .none ∧ ¬ s.closingWaits then s.window.released else s.window) with patience := .stopped }

/-- The port once the pump has left the state it was in (R65, R77, R78, R117): a START DONE with the outcome offered for a claim in HOLDING or
GRANTED, and for one in PENDING the closing that waits for the attempt, or the START CLAIM withdrawn; then a REPORT. -/
def State.linkLeft (outcome : ClaimOutcome) (s : State) : Link :=
  let closed :=
    if s.holdsClaim then
      match s.window.claim with
      | .none => s.link
      | .pending =>
        if s.link.sendingClass = some 1 then { s.link with closing := some (s.window.number, outcome) }
        else if s.link.heldClaim.isSome then { s.link with heldClaim := none }
        else { s.link with queue := s.link.queue.filter fun e => e.body.cls != 1 }
      | _ => s.link.offer (.startDone s.window.number outcome)
    else s.link
  { closed.offer .report with report := .running 0 }

/-- The rake in a fresh cycle (R127). The interval timer restarts from 0, the expiry of that very instant apart (R126, R133). -/
def Screen.cycling (cause : RakeCause) (interval : Nat) (u : Screen) : Screen :=
  { u with
    rake := .forward, forwardOut := true, reverseOut := false, cycleCause := cause, pendingFlag := false, overloads := 0, camArmed := false,
    cycle := .running 0, camCheck := .running 0, interval := if interval = 0 then .stopped else u.interval.restart (interval * 60000) }

/-- The rake stopped in a state, its outputs open and its four cycle timers stopped (R128, R130, R131). -/
def Screen.stoppedIn (r : RakeState) (u : Screen) : Screen :=
  { u with
    rake := r, forwardOut := false, reverseOut := false, cycle := .stopped, camCheck := .stopped, reverse := .stopped, pause := .stopped }

/-- The Town Line port once a request has been served with this answer (R159, R167). -/
def State.answered (address kind : Byte) (toggle : Bool) (payload : List Byte) (s : State) : Town :=
  { s.town with
    silence := .running 0
    answer := some { address := address, kind := kind, toggle := toggle, payload := payload } }

/-- How the two lines show that a command has come: the OK answer of a COMMAND request, or the sender of the frame as last sender. -/
abbrev State.HeardCommand (s t : State) (src : CommandSource) : Prop :=
  match src with
  | .town _ _ _ =>
    t.town = s.answered s.cfg.townAddress 134 false [] ∧ t.rawOf .townSilent = false ∧ t.link.lastSender = s.link.lastSender
  | .bayLink sender _ _ => t.town = s.town ∧ t.rawOf .townSilent = s.rawOf .townSilent ∧ t.link.lastSender = sender

/-- The port once a command has come and been handed on, from the port its owner leaves (R69, R76, R164): a COMMAND request with a bit of the
mask other than the own set has offered the COMMAND frame with the same three bytes, and the sender of a frame is the last sender. -/
def State.relayed (src : CommandSource) (code : CommandCode) (l : Link) (s : State) : Link :=
  match src with
  | .town _ mask argument => if ∃ g : Station, g ≠ s.own ∧ mask.getLsbD g.val = true then l.offer (.command mask code argument) else l
  | .bayLink sender _ _ => { l with lastSender := sender }

/-- The row of R4's table a corrected current falls in, with the current used for the level and the sample quality; no row of a valid sample
holds a current below 3,000 or above 22,000. -/
abbrev InClass (current used : Int) (quality : SampleQuality) : Prop :=
  (3000 ≤ current ∧ current ≤ 3799 ∧ used = 4000 ∧ quality = .lowSat) ∨
  (3800 ≤ current ∧ current ≤ 3999 ∧ used = 4000 ∧ quality = .good) ∨
  (4000 ≤ current ∧ current ≤ 20000 ∧ used = current ∧ quality = .good) ∨
  (20001 ≤ current ∧ current ≤ 20500 ∧ used = 20000 ∧ quality = .good) ∨
  (20501 ≤ current ∧ current ≤ 22000 ∧ used = 20000 ∧ quality = .highSat)

/-- The reference mean lies outside the limits of an offset correction (R17). -/
abbrev MeanOutside (mean : Int) : Prop := mean < -200 ∨ 200 < mean

/-- The record with one more tick of a valid head accounted to it (R142). -/
def SpillRecord.ticked (km : Nat) (h : Int) (r : SpillRecord) : SpillRecord :=
  { r with
    elapsed := min 4294967295 (r.elapsed + 1), volume := min 4294967295 (r.volume + weirFlow km h), peak := max r.peak h }

/-- The record with one more tick of an INVALID head accounted to it (R142). -/
def SpillRecord.gapped (r : SpillRecord) : SpillRecord :=
  { r with elapsed := min 4294967295 (r.elapsed + 1), gap := min 65535 (r.gap + 1), gapFlag := true }

/-- A second of the clock without its monitor tick, while the run hours do not rise (R62, R169). -/
def State.counted (s : State) : State :=
  { s with
    clock := { s.clock with seconds := s.clock.seconds + 1 }
    pump := { s.pump with
      closedSeconds := if s.pump.contactor then min 4294967295 (s.pump.closedSeconds + 1) else s.pump.closedSeconds
      runSeconds :=
        if s.started = true ∧ s.pump.runFb.active = true then min 235929599 (s.pump.runSeconds + 1) else s.pump.runSeconds } }

/-- The timer whose expiry the command is stands at its limit; true of every command that is no expiry (note 1). -/
def State.atLimit (c : Instr) (s : State) : Bool :=
  match c with
  | .listeningEnd => s.start.listening.due s.cfg.listeningPeriod
  | .checkTimerExpiry ch => (s.chan ch).check.due (s.cfg.channel ch).checkTime
  | .faultHoldExpiry ch => (s.chan ch).hold.due (s.cfg.channel ch).holdTime
  | .disagreeTimerExpiry => s.balance.disagree.due disagreeTime
  | .balanceEvent => s.balance.timer.due s.cfg.balanceTime
  | .invalidHoldExpiry => s.balance.invalidHold.due s.cfg.invalidTime
  | .floatDebounceExpiry f => (s.floats.filter f).timer.due s.cfg.floatTime
  | .runFbFilterExpiry => s.pump.runFb.timer.due fastFilter
  | .faultContactDebounceExpiry => s.pump.faultContact.timer.due slowFilter
  | .selectorContactDebounceExpiry c => (s.pump.contact c).timer.due slowFilter
  | .selectorOffHoldExpiry => s.pump.offHold.due slowFilter
  | .lockoutEnd => s.pump.lockout.due s.lockoutFigure
  | .feedbackTimerExpiry => s.pump.feedback.due s.cfg.feedbackLimit
  | .settleTimerExpiry => s.pump.settle.due s.cfg.settleTime
  | .lossTimerExpiry => s.pump.loss.due lossTime
  | .minimumRunReached => s.pump.run.due s.cfg.runTime
  | .stopSpacingExpiry => s.pump.spacing.due s.cfg.spacingTime
  | .strayRunExpiry => s.pump.stray.due s.cfg.feedbackLimit
  | .staggerTimerExpiry => s.pump.stagger.due s.staggerTime
  | .txFailureTimerExpiry => s.link.failure.due failureTime
  | .reportTimerExpiry => s.link.report.due s.cfg.reportInterval
  | .duplicateTimerExpiry => s.link.duplicate.due duplicateTime
  | .entryBecomesStale peer => (s.table.entry peer).age.due ((s.table.entry peer).ageLimit s.cfg.reportInterval)
  | .entryBecomesLost peer => (s.table.entry peer).age.due ((s.table.entry peer).ageLimit s.cfg.reportInterval)
  | .lostReleaseExpiry peer => (s.table.entry peer).release.due s.cfg.releaseTime
  | .peerSilenceExpiry => s.table.silence.due s.cfg.lossLimit
  | .generatorDebounceExpiry => s.table.generator.timer.due slowFilter
  | .patienceRunOut => s.window.patience.due s.cfg.patienceTime
  | .claimHoldExpiry => s.window.hold.due s.cfg.claimHold
  | .windowTimerExpiry => s.window.view.isDue s.cfg.viewTime
  | .camFilterExpiry => s.screen.cam.timer.due fastFilter
  | .overloadFilterExpiry => s.screen.overload.timer.due fastFilter
  | .camCheckExpiry => s.screen.camCheck.due camCheckTime
  | .reverseTimerExpiry => s.screen.reverse.due s.cfg.reverseLimit
  | .pauseTimerExpiry => s.screen.pause.due pauseTime
  | .cycleTimeout => s.screen.cycle.due s.cfg.cycleTime
  | .restTimerExpiry => s.screen.rest.due s.cfg.restTime
  | .intervalTimerExpiry => s.screen.interval.canExpire s.cfg.intervalTime
  | .panelAcknowledge => s.alarms.ack.timer.due fastFilter
  | .acknowledgeInputReleased => s.alarms.ack.timer.due fastFilter
  | .townSilenceExpiry => s.town.silence.due s.cfg.silenceLimit
  | _ => true

/-- The filter of an input. -/
def State.filterOf (s : State) : Pin → Filter
  | .dhh => s.floats.highHigh | .dll => s.floats.lowLow | .drun => s.pump.runFb | .dflt => s.pump.faultContact
  | .dsh => s.pump.contactHand | .dsa => s.pump.contactAuto | .dgen => s.table.generator | .dcam => s.screen.cam
  | .dovl => s.screen.overload | .dack => s.alarms.ack

/-- The state with every filter taken out, to compare two states but for their filters. -/
def State.withoutFilters (s : State) : State :=
  (((((s.withFloats { highHigh := .reset, lowLow := .reset }).withPump
    { s.pump with runFb := .reset, faultContact := .reset, contactHand := .reset, contactAuto := .reset }).withTable
    { s.table with generator := .reset }).withScreen { s.screen with cam := .reset, overload := .reset }).withAlarms
    { s.alarms with ack := .reset })

end Sys2Proof.Machine
end

