-- ==== Sys2Proof/Certificates/Slice0/Obligations.lean ====
section
/-! DEFINITION. The statements for the provers: what each command does and what it leaves alone, the rules of the manual that hold of the whole
part, and what every step keeps. -/

open Sys2Proof Sys2Proof.Machine

/-- A step runs the command at the front of the queue. The commands arrive one at a time and each is one step
(95_what_each_step_holds.md). -/
def Obligations.QueueRunsFront : Prop :=
  ∀ (c : Instr) (rest : List Instr) (s : State), step (s.withPending (c :: rest)) = exec c (s.withPending rest)

/-- On an empty queue a millisecond passes (the model's choice). What a step does on an empty queue is the model's choice
(notes/assumptions/2.md); the figures are those of R49 and R169. -/
def Obligations.IdleLetsAMillisecondPass : Prop :=
  ∀ (s : State) (ms : Nat),
    s.pending = [] →
    s.pump.lockout = .running ms →
    ms < s.lockoutFigure →
    ∃ t, step s = .next t ∧
      t.clock = { s.clock with subMs := if 999 ≤ s.clock.subMs then 0 else s.clock.subMs + 1 } ∧
      (999 ≤ s.clock.subMs ↔ Instr.secondsClockTick ∈ t.pending) ∧
      t.pump.lockout = .running (ms + 1) ∧
      (ms + 1 = s.lockoutFigure ↔ Instr.lockoutEnd ∈ t.pending) ∧
      t.pump.state = s.pump.state ∧
      t.pump.contactor = s.pump.contactor ∧
      t.pump.latch = s.pump.latch ∧
      t.pump.runSeconds = s.pump.runSeconds ∧
      t.balance.demand = s.balance.demand ∧
      t.balance.effective = s.balance.effective ∧
      t.link.queue = s.link.queue ∧
      t.link.lastSender = s.link.lastSender ∧
      t.screen.rake = s.screen.rake ∧
      t.screen.forwardOut = s.screen.forwardOut ∧
      t.screen.reverseOut = s.screen.reverseOut ∧
      t.alarms.points = s.alarms.points ∧
      t.alarms.horn = s.alarms.horn ∧
      t.alarms.beacon = s.alarms.beacon ∧
      t.events = s.events ∧
      t.spill = s.spill ∧
      t.pins = s.pins ∧
      t.town.answer = s.town.answer ∧
      t.start.settings = s.start.settings

/-- Every command answers a next state and keeps what no command may touch. The manual gives every row an effect; the levels at the pins
and the settings read at LOADING move by these commands alone (R168, R170, R171). The last clause is the model's choice. The model's own
choices it rests on: notes/assumptions/1.md, notes/assumptions/4.md, notes/assumptions/6.md, notes/assumptions/32.md. -/
def Obligations.EveryCommandCompletes : Prop :=
  ∀ (c : Instr) (s : State), ∃ t, exec c s = .next t ∧ t.pending = s.pending ∧
    ((∀ pin level, c ≠ .inputLevelChange pin level) → t.pins = s.pins) ∧
    (c ≠ .fullStart → c ≠ .townRestart → (∀ st0 st1 st2 image hours, c ≠ .loadingEnd st0 st1 st2 image hours) →
      t.start.station = s.start.station ∧ t.start.settings = s.start.settings) ∧
    (s.atLimit c = false → t = s)

/-- FULL_START resets everything, TOWN_RESTART keeps the clock and the closed spills. R135, R168. The discard counter after a restart in
CONFIRMING is 1 (notes/assumptions/16.md); that TOWN_RESTART follows a served RESTART is notes/assumptions/29.md. The model's own choices
it rests on: notes/assumptions/5.md, notes/assumptions/6.md, notes/assumptions/16.md, notes/assumptions/29.md. -/
def Obligations.StartsReset : Prop :=
  ∀ (s : State) (r : SpillRecord),
    (∃ t, exec (.fullStart) s = .next t ∧
       t = { State.reset with pins := s.pins, pending := s.pending }) ∧
    (s.town.restarting = true →
     s.spill.state = .none →
     s.spill.working = none →
     ∃ t, exec (.townRestart) s = .next t ∧
       t = { State.reset with
           clock := s.clock, pins := s.pins, pending := s.pending,
           spill := { SpillMonitor.reset with number := s.spill.number, closed := s.spill.closed } }) ∧
    (s.town.restarting = true →
     s.spill.state = .confirming →
     ∃ t, exec (.townRestart) s = .next t ∧
       t = { State.reset with
           clock := s.clock, pins := s.pins, pending := s.pending,
           spill := { SpillMonitor.reset with number := s.spill.number, closed := s.spill.closed, discards := 1 } }) ∧
    (s.town.restarting = true →
     s.spill.state = .spilling →
     s.spill.working = some r →
     ∃ t, exec (.townRestart) s = .next t ∧
       t = { State.reset with
           clock := s.clock, pins := s.pins, pending := s.pending,
           spill :=
             { SpillMonitor.reset with
               number := s.spill.number,
               closed :=
                 s.spill.closed ++ [{ r with stop := some s.stamp, duration := some r.elapsed, cut := true, isOpen := false }] } }) ∧
    (s.town.restarting = true →
     s.spill.state = .ending →
     s.spill.working = some r →
     ∃ t, exec (.townRestart) s = .next t ∧
       t = { State.reset with
           clock := s.clock, pins := s.pins, pending := s.pending,
           spill :=
             { SpillMonitor.reset with
               number := s.spill.number, closed := s.spill.closed ++ [{ r with cut := true, isOpen := false }] } })

/-- LOADING_END with an image that passes its checks starts LISTENING. ENTER_LISTENING: R3, R20, R36, R44, R45, R78, R85, R94, R121, R148
to R153, R170 to R172, R174. The model's own choices it rests on: notes/assumptions/5.md, notes/assumptions/7.md, notes/assumptions/8.md,
notes/assumptions/26.md, notes/assumptions/37.md. -/
def Obligations.LoadingEndStartsListening : Prop :=
  ∀ (s : State) (st0 : Bool) (st1 : Bool) (st2 : Bool) (images : List (Option (List Byte))) (words : List (Option (List Byte)))
    (g : Settings),
    s.start.phase = .loading →
    s.LoadingAtReset →
    judgeImage (strapStation st0 st1 st2) images = .accepted g →
    ∃ t, exec (.loadingEnd st0 st1 st2 images words) s = .next t ∧
      (strapStation st0 st1 st2).val = st0.toNat + 2 * st1.toNat + 4 * st2.toNat ∧
      t.start = { phase := .listening, station := strapStation st0 st1 st2, settings := g, listening := .running 0 } ∧
      t.pump = { Pump.reset with
          runSeconds := (judgeHours words).getD 0 * 3600, configWrite := (judgeHours words).isNone, runFb := .begin s.pins.drun,
          faultContact := .begin s.pins.dflt, contactHand := .begin s.pins.dsh, contactAuto := .begin s.pins.dsa } ∧
      t.chanW = { Channel.reset with phase := .settling, discard := 2 } ∧
      (t.chanX = if g.role = .none then Channel.reset else { Channel.reset with phase := .settling, discard := 2 }) ∧
      t.balance = { Balance.reset with timer := .running 0, invalidHold := .running 0, limit := g.utilityLimit } ∧
      t.floats = { highHigh := .begin s.pins.dhh, lowLow := .begin s.pins.dll } ∧
      t.table =
        { PeerTable.reset with generator := .begin s.pins.dgen, screenLimit := if g.role = .screen then min 8 g.unknownLimit else 8 } ∧
      (t.screen =
         if g.role = .screen then
           { Screen.reset with limit := g.unknownLimit, cam := .begin s.pins.dcam, overload := .begin s.pins.dovl }
         else Screen.reset) ∧
      t.link = { Link.reset with queue := [{ body := .report, attempts := 0, sequence := none }], report := .running 0 } ∧
      t.town = { Town.reset with silence := .running 0 } ∧
      t.window = Window.reset ∧
      t.alarms.ack = .begin s.pins.dack ∧
      (t.alarms.points[pointIndex .configWrite] =
         if (judgeHours words).isNone then { raw := true, ann := .alert } else { raw := false, ann := .normal }) ∧
      t.RelaysFollow ∧
      (t.events =
         if (judgeHours words).isNone = true ∧ g.classMask.getLsbD 0 = true then
           {
             records :=
               [{
                  sequence := 0, time := s.clock.seconds, sync := s.clock.sync, kind := .alarmChange,
                  source := strapStation st0 st1 st2, subject := 24, values := [1, 0] }],
             counter := 1, overflow := 0 }
         else EventQueue.reset) ∧
      (∀ i : Fin 25, i ≠ pointIndex .configWrite → t.alarms.points[i] = Alarms.reset.points[i]) ∧
      t.clock = s.clock ∧
      t.pins = s.pins ∧
      t.spill = s.spill ∧
      t.pending = s.pending

/-- LOADING_END with an image that fails enters CONFIG_FAULT and says why. ENTER_CONFIG_FAULT: R156, R170, R171, R173. The model's own
choices it rests on: notes/assumptions/7.md, notes/assumptions/27.md, notes/assumptions/30.md, notes/assumptions/37.md. -/
def Obligations.LoadingEndFaults : Prop :=
  ∀ (s : State) (st0 : Bool) (st1 : Bool) (st2 : Bool) (images : List (Option (List Byte))) (words : List (Option (List Byte)))
    (cause : Nat) (offset : Nat),
    s.start.phase = .loading →
    s.LoadingAtReset →
    judgeImage (strapStation st0 st1 st2) images = .failed cause offset →
    ∃ t, exec (.loadingEnd st0 st1 st2 images words) s = .next t ∧
      t.start =
        {
          phase := .configFault, station := strapStation st0 st1 st2, settings := .configFault (strapStation st0 st1 st2),
          listening := .stopped } ∧
      t.pump = { Pump.reset with
          state := .unconfigured, runSeconds := (judgeHours words).getD 0 * 3600, configWrite := (judgeHours words).isNone,
          runFb := .begin s.pins.drun, faultContact := .begin s.pins.dflt, contactHand := .begin s.pins.dsh,
          contactAuto := .begin s.pins.dsa } ∧
      t.chanW = Channel.reset ∧
      t.chanX = Channel.reset ∧
      t.balance = Balance.reset ∧
      t.floats = { highHigh := .reset, lowLow := .reset } ∧
      t.window = Window.reset ∧
      t.screen = Screen.reset ∧
      t.table = { PeerTable.reset with generator := .begin s.pins.dgen } ∧
      t.link = { Link.reset with queue := [{ body := .report, attempts := 0, sequence := none }], report := .running 0 } ∧
      t.town = { Town.reset with silence := .running 0 } ∧
      t.events.records.head? =
        some
          {
            sequence := 0, time := s.clock.seconds, sync := s.clock.sync, kind := .configFault, source := strapStation st0 st1 st2,
            subject := BitVec.ofNat 8 cause, values := [BitVec.ofNat 32 offset] } ∧
      t.rawOf .configWrite = (judgeHours words).isNone ∧
      (∀ i : Fin 25, i ≠ pointIndex .configWrite → t.alarms.points[i] = Alarms.reset.points[i]) ∧
      ((∀ r ∈ images.take 3, r = none) → cause = 5 ∧ offset = 65535) ∧
      (∀ image rest, images = some image :: rest → image.length = 200 → crc image ≠ 0 → cause = 1 ∧ offset = 65535) ∧
      (∀ image rest,
         images = some image :: rest → image.length = 200 → crc image = 0 → image.head? ≠ some 1 → cause = 2 ∧ offset = 65535) ∧
      t.clock = s.clock ∧
      t.pins = s.pins ∧
      t.spill = s.spill ∧
      t.pending = s.pending

/-- LISTENING_END opens operation. ENTER_OPERATING: R24, R40, R45, R46, R49, R59, R97, R121, R126, R127, R174. The model's own choices it
rests on: notes/assumptions/1.md, notes/assumptions/44.md, notes/assumptions/45.md. -/
def Obligations.ListeningEndOpens : Prop :=
  ∀ (s : State),
    s.start.phase = .listening →
    s.start.listening.due (max (3 * s.cfg.reportInterval) 2000) = true →
    ∃ t, exec (.listeningEnd) s = .next t ∧
      t.pump =
        (match s.pump.position, s.pump.faultContact.active with
         | .off, _ => s.pump.halted .off
         | .hand, _ => s.pump.halted .hand
         | .auto, false => { s.pump.halted .lockout with lockout := .running 0, stray := s.pump.strayAtEntry }
         | .auto, true => { s.pump.halted .tripped with latch := some .pumpFault }) ∧
      t.rawOf .houseLevelLost = s.balance.level.isNone ∧
      t.rawOf .overflowRisk = t.overflowRisk ∧
      s.PointsBut t [.houseLevelLost, .overflowRisk] ∧
      t.start = { s.start with phase := .operating, listening := .stopped } ∧
      s.QueuesReport t ∧
      t.window = { s.window with patience := .stopped } ∧
      t.table = { s.table with
          silence := .running 0, drawing := t.table.drawing, available := t.table.available, supply := t.table.supply,
          screenLimit := t.table.screenLimit } ∧
      t.balance = { s.balance with limit := t.balance.limit, effective := t.balance.effective } ∧
      (s.cfg.role ≠ .screen → t.screen = s.screen) ∧
      (s.cfg.role = .screen →
       s.screen.pendingFlag = false →
       t.screen = { s.screen with
           rake := .rakeIdle, forwardOut := false, reverseOut := false,
           interval := if s.cfg.rakeInterval = 0 then .stopped else .running 0 }) ∧
      (s.cfg.role = .screen →
       s.screen.pendingFlag = true →
       s.screen.rest.isRunning = false →
       s.screen.overload.active = false →
       t.screen = s.screen.cycling s.screen.pendingCause s.cfg.rakeInterval) ∧
      t.clock = s.clock ∧
      t.pins = s.pins ∧
      t.chanW = s.chanW ∧
      t.chanX = s.chanX ∧
      t.floats = s.floats ∧
      t.spill = s.spill ∧
      t.town = s.town ∧
      t.pending = s.pending

/-- A second of the clock counts the run, moves the spill states and accounts the spill. R62, R136 to R139, R142, R145, R169. The stamps
are the clock this tick makes, and the duration counts this tick too (notes/assumptions/15.md); where the spill state changes, a pump in
LOCKOUT may leave it by the figure that then applies (R49). The model's own choices it rests on: notes/assumptions/8.md,
notes/assumptions/12.md, notes/assumptions/14.md, notes/assumptions/15.md, notes/assumptions/17.md, notes/assumptions/39.md. -/
def Obligations.SecondPasses : Prop :=
  ∀ (s : State) (r : SpillRecord) (level : Int) (h : Int),
    (s.weirRuns = false →
     s.hoursRise = false →
     ∃ t, exec (.secondsClockTick) s = .next t ∧
       t = { s with
           clock := { s.clock with seconds := s.clock.seconds + 1 },
           pump :=
             { s.pump with
               closedSeconds := if s.pump.contactor then min 4294967295 (s.pump.closedSeconds + 1) else s.pump.closedSeconds,
               runSeconds :=
                 if s.started = true ∧ s.pump.runFb.active = true then min 235929599 (s.pump.runSeconds + 1) else s.pump.runSeconds } }) ∧
    (s.weirRuns = true →
     s.spill.state = .none →
     s.spill.working = none →
     s.chanX.usable = some level →
     h = level - s.cfg.crestLevel →
     s.cfg.startMargin ≤ h →
     ∃ t, exec (.secondsClockTick) s = .next t ∧
       t.spill = { s.spill with
           head := some h, state := .confirming, confirmCount := 0,
           working :=
             some
               {
                 number := 0, start := { seconds := s.clock.seconds + 1, sync := s.clock.sync }, stop := none, elapsed := 0,
                 duration := none, volume := weirFlow s.cfg.weirFactor h, peak := h, gap := 0, gapFlag := false, cut := false,
                 isOpen := false },
           lastFlow := some (weirFlow s.cfg.weirFactor h), lastClamped := weirClamped s.cfg.weirFactor h } ∧
       t.rawOf .spilling = false ∧
       s.PointsBut t [.spilling, .overflowRisk] ∧
       (s.counted.withSpill t.spill).Moves t ∧
       (s.hoursRise = false → s.pump.state ≠ .lockout → (s.counted.withSpill t.spill).AlarmsOnly t)) ∧
    (s.weirRuns = true →
     s.spill.state = .none →
     s.spill.working = none →
     s.chanX.usable = some level →
     h = level - s.cfg.crestLevel →
     h < s.cfg.startMargin →
     ∃ t, exec (.secondsClockTick) s = .next t ∧
       t.spill = { s.spill with head := some h } ∧
       (s.hoursRise = false → (s.counted.withSpill t.spill).AlarmsOnly t) ∧
       s.PointsBut t [.spilling, .overflowRisk] ∧
       t.rawOf .spilling = false ∧
       (s.counted.withSpill t.spill).Moves t) ∧
    (s.weirRuns = true →
     s.spill.state = .none →
     s.spill.working = none →
     s.chanX.usable = none →
     ∃ t, exec (.secondsClockTick) s = .next t ∧
       t.spill = { s.spill with head := none } ∧
       (s.hoursRise = false → (s.counted.withSpill t.spill).AlarmsOnly t) ∧
       s.PointsBut t [.spilling, .overflowRisk] ∧
       t.rawOf .spilling = false ∧
       (s.counted.withSpill t.spill).Moves t) ∧
    (s.weirRuns = true →
     s.spill.state = .confirming →
     s.spill.working = some r →
     s.chanX.usable = some level →
     h = level - s.cfg.crestLevel →
     s.cfg.startMargin ≤ h →
     s.spill.confirmCount + 1 < s.cfg.confirmTime →
     ∃ t, exec (.secondsClockTick) s = .next t ∧
       t.spill = { s.spill with
           head := some h, confirmCount := s.spill.confirmCount + 1, working := some (r.ticked s.cfg.weirFactor h),
           lastFlow := some (weirFlow s.cfg.weirFactor h), lastClamped := weirClamped s.cfg.weirFactor h } ∧
       (s.hoursRise = false → (s.counted.withSpill t.spill).AlarmsOnly t) ∧
       s.PointsBut t [.spilling, .overflowRisk] ∧
       t.rawOf .spilling = false ∧
       (s.counted.withSpill t.spill).Moves t) ∧
    (s.weirRuns = true →
     s.spill.state = .confirming →
     s.spill.working = some r →
     s.chanX.usable = some level →
     h = level - s.cfg.crestLevel →
     h < s.cfg.startMargin →
     ∃ t, exec (.secondsClockTick) s = .next t ∧
       t.spill = { s.spill with head := some h, state := .none, working := none, discards := min 65535 (s.spill.discards + 1) } ∧
       t.rawOf .spilling = false ∧
       s.PointsBut t [.spilling, .overflowRisk] ∧
       (s.counted.withSpill t.spill).Moves t ∧
       (s.hoursRise = false → s.pump.state ≠ .lockout → (s.counted.withSpill t.spill).AlarmsOnly t)) ∧
    (s.weirRuns = true →
     s.spill.state = .confirming →
     s.spill.working = some r →
     s.chanX.usable = none →
     ∃ t, exec (.secondsClockTick) s = .next t ∧
       t.spill = { s.spill with head := none, working := some r.gapped } ∧
       (s.hoursRise = false → (s.counted.withSpill t.spill).AlarmsOnly t) ∧
       s.PointsBut t [.spilling, .overflowRisk] ∧
       t.rawOf .spilling = false ∧
       (s.counted.withSpill t.spill).Moves t) ∧
    (s.weirRuns = true →
     s.spill.state = .spilling →
     s.spill.working = some r →
     s.chanX.usable = some level →
     h = level - s.cfg.crestLevel →
     s.cfg.endMargin ≤ h →
     ∃ t, exec (.secondsClockTick) s = .next t ∧
       t.spill = { s.spill with
           head := some h, working := some (r.ticked s.cfg.weirFactor h), lastFlow := some (weirFlow s.cfg.weirFactor h),
           lastClamped := weirClamped s.cfg.weirFactor h } ∧
       (s.hoursRise = false → (s.counted.withSpill t.spill).AlarmsOnly t) ∧
       s.PointsBut t [.spilling, .overflowRisk] ∧
       t.rawOf .spilling = true ∧
       (s.counted.withSpill t.spill).Moves t) ∧
    (s.weirRuns = true →
     s.spill.state = .spilling →
     s.spill.working = some r →
     s.chanX.usable = some level →
     h = level - s.cfg.crestLevel →
     h < s.cfg.endMargin →
     0 < s.cfg.endTime →
     ∃ t, exec (.secondsClockTick) s = .next t ∧
       t.spill = { s.spill with
           head := some h, state := .ending, endCount := 0,
           working :=
             some
               { (r.ticked s.cfg.weirFactor h) with
                 stop := some { seconds := s.clock.seconds + 1, sync := s.clock.sync },
                 duration := some (min 4294967295 (r.elapsed + 1)) },
           lastFlow := some (weirFlow s.cfg.weirFactor h), lastClamped := weirClamped s.cfg.weirFactor h } ∧
       t.rawOf .spilling = true ∧
       s.PointsBut t [.spilling, .overflowRisk] ∧
       (s.counted.withSpill t.spill).Moves t ∧
       (s.hoursRise = false → s.pump.state ≠ .lockout → (s.counted.withSpill t.spill).AlarmsOnly t)) ∧
    (s.weirRuns = true →
     s.spill.state = .spilling →
     s.spill.working = some r →
     s.chanX.usable = none →
     ∃ t, exec (.secondsClockTick) s = .next t ∧
       t.spill = { s.spill with head := none, working := some r.gapped } ∧
       (s.hoursRise = false → (s.counted.withSpill t.spill).AlarmsOnly t) ∧
       s.PointsBut t [.spilling, .overflowRisk] ∧
       t.rawOf .spilling = true ∧
       (s.counted.withSpill t.spill).Moves t) ∧
    (s.weirRuns = true →
     s.spill.state = .ending →
     s.spill.working = some r →
     s.chanX.usable = some level →
     h = level - s.cfg.crestLevel →
     h < s.cfg.endMargin →
     s.spill.endCount + 1 < s.cfg.endTime →
     ∃ t, exec (.secondsClockTick) s = .next t ∧
       t.spill = { s.spill with
           head := some h, endCount := s.spill.endCount + 1, working := some (r.ticked s.cfg.weirFactor h),
           lastFlow := some (weirFlow s.cfg.weirFactor h), lastClamped := weirClamped s.cfg.weirFactor h } ∧
       (s.hoursRise = false → (s.counted.withSpill t.spill).AlarmsOnly t) ∧
       s.PointsBut t [.spilling, .overflowRisk] ∧
       t.rawOf .spilling = true ∧
       (s.counted.withSpill t.spill).Moves t) ∧
    (s.weirRuns = true →
     s.spill.state = .ending →
     s.spill.working = some r →
     s.chanX.usable = some level →
     h = level - s.cfg.crestLevel →
     s.cfg.endMargin ≤ h →
     ∃ t, exec (.secondsClockTick) s = .next t ∧
       t.spill = { s.spill with
           head := some h, state := .spilling, endCount := 0,
           working := some { (r.ticked s.cfg.weirFactor h) with stop := none, duration := none },
           lastFlow := some (weirFlow s.cfg.weirFactor h), lastClamped := weirClamped s.cfg.weirFactor h } ∧
       t.rawOf .spilling = true ∧
       s.PointsBut t [.spilling, .overflowRisk] ∧
       (s.counted.withSpill t.spill).Moves t ∧
       (s.hoursRise = false → s.pump.state ≠ .lockout → (s.counted.withSpill t.spill).AlarmsOnly t)) ∧
    (s.weirRuns = true →
     s.spill.state = .ending →
     s.spill.working = some r →
     s.chanX.usable = none →
     s.spill.endCount < s.cfg.endTime →
     ∃ t, exec (.secondsClockTick) s = .next t ∧
       t.spill = { s.spill with head := none, working := some r.gapped } ∧
       (s.hoursRise = false → (s.counted.withSpill t.spill).AlarmsOnly t) ∧
       s.PointsBut t [.spilling, .overflowRisk] ∧
       t.rawOf .spilling = true ∧
       (s.counted.withSpill t.spill).Moves t)

/-- A rise of the run hours writes the hours word, and the end of the write says how it went. R62, R63, R172. The model's own choices it
rests on: notes/assumptions/3.md, notes/assumptions/7.md, notes/assumptions/8.md, notes/assumptions/14.md. -/
def Obligations.RunHoursAreWritten : Prop :=
  ∀ (s : State) (ok : Bool) (place : Nat) (word : List Byte),
    (s.hoursRise = true →
     ∃ t, exec (.runHoursRise) s = .next t ∧
       t.clock = { s.clock with seconds := s.clock.seconds + 1 } ∧
       t.pump.runSeconds = s.pump.runSeconds + 1 ∧
       t.pump.runHours = s.pump.runHours + 1 ∧
       (s.pump.hoursWrite = .idle →
        t.pump.hoursWrite =
          .writing 256
            (halfBytes (BitVec.ofNat 16 (s.pump.runHours + 1)) ++
               [(crc (halfBytes (BitVec.ofNat 16 (s.pump.runHours + 1)))).setWidth 8]) ∧ t.pump.hoursPending = s.pump.hoursPending) ∧
       (s.pump.hoursWrite ≠ .idle → t.pump.hoursWrite = s.pump.hoursWrite ∧ t.pump.hoursPending = true) ∧
       (s.pump.state ≠ .waiting →
        s.weirRuns = false →
        t = { s with
            clock := { s.clock with seconds := s.clock.seconds + 1 },
            pump :=
              { s.pump with
                closedSeconds := if s.pump.contactor then min 4294967295 (s.pump.closedSeconds + 1) else s.pump.closedSeconds,
                runSeconds := s.pump.runSeconds + 1, hoursWrite := t.pump.hoursWrite, hoursPending := t.pump.hoursPending } })) ∧
    (s.started = true →
     s.pump.hoursWrite = .writing place word →
     ∃ t, exec (.hoursWriteComplete ok) s = .next t ∧
         (  { s with
              pump :=
                { s.pump with
                  configWrite := !ok, hoursPending := false,
                  hoursWrite :=
                    if s.pump.hoursPending then
                      .writing 256
                        (halfBytes (BitVec.ofNat 16 s.pump.runHours) ++ [(crc (halfBytes (BitVec.ofNat 16 s.pump.runHours))).setWidth 8])
                    else .idle } } : State).AlarmsOnly t ∧
       s.Delivers t .configWrite (!ok))

/-- A spill is confirmed with the next number and closed into the list. R136 to R145. The accounting of the closing tick is R142's
(notes/assumptions/15.md for the duration). The model's own choices it rests on: notes/assumptions/3.md, notes/assumptions/8.md,
notes/assumptions/12.md, notes/assumptions/14.md, notes/assumptions/15.md, notes/assumptions/17.md. -/
def Obligations.SpillsOpenAndClose : Prop :=
  ∀ (s : State) (r : SpillRecord) (level : Int) (h : Int),
    (s.weirRuns = true →
     s.spill.state = .confirming →
     s.spill.working = some r →
     s.chanX.usable = some level →
     h = level - s.cfg.crestLevel →
     s.cfg.startMargin ≤ h →
     s.cfg.confirmTime ≤ s.spill.confirmCount + 1 →
     ∃ t, exec (.spillConfirm) s = .next t ∧
       t.spill.state = .spilling ∧
       t.spill.number = (if s.spill.number = 65535 then 1 else s.spill.number + 1) ∧
       t.spill.working =
         some
           { r with
             number := t.spill.number, isOpen := true, elapsed := min 4294967295 (r.elapsed + 1),
             volume := min 4294967295 (r.volume + weirFlow s.cfg.weirFactor h), peak := max r.peak h } ∧
       t.spill.closed =
         (if s.spill.number = 65535 then [] else if 16 ≤ s.spill.closed.length then s.spill.closed.drop 1 else s.spill.closed) ∧
       t.spill = { s.spill with
           head := some h, state := .spilling, confirmCount := s.spill.confirmCount + 1, number := t.spill.number,
           working := t.spill.working, closed := t.spill.closed, lastFlow := some (weirFlow s.cfg.weirFactor h),
           lastClamped := weirClamped s.cfg.weirFactor h } ∧
       t.rawOf .spilling = true ∧
       s.PointsBut t [.spilling, .overflowRisk] ∧
       s.Records t 12 .spillStart s.own 2 [BitVec.ofNat 32 t.spill.number, r.start.seconds] ∧
       (s.counted.withSpill t.spill).Moves t ∧
       (s.hoursRise = false → s.pump.state ≠ .lockout → (s.counted.withSpill t.spill).AlarmsOnly t)) ∧
    (s.weirRuns = true →
     s.spill.state = .ending →
     s.spill.working = some r →
     s.chanX.usable = some level →
     h = level - s.cfg.crestLevel →
     h < s.cfg.endMargin →
     s.cfg.endTime ≤ s.spill.endCount + 1 →
     ∃ t, exec (.spillClose) s = .next t ∧
       t.spill = { s.spill with
           head := some h, state := .none, endCount := s.spill.endCount + 1, working := none,
           closed :=
             s.spill.closed ++
               [{ r with
                  isOpen := false, elapsed := min 4294967295 (r.elapsed + 1),
                  volume := min 4294967295 (r.volume + weirFlow s.cfg.weirFactor h), peak := max r.peak h }],
           lastFlow := some (weirFlow s.cfg.weirFactor h), lastClamped := weirClamped s.cfg.weirFactor h } ∧
       t.rawOf .spilling = false ∧
       s.PointsBut t [.spilling, .overflowRisk] ∧
       s.Records t 12 .spillEnd s.own 0
         [BitVec.ofNat 32 (min 1048575 (r.duration.getD 0) * 4096 + (max r.peak h).toNat / 10),
          BitVec.ofNat 32 (min 4294967295 (r.volume + weirFlow s.cfg.weirFactor h))] ∧
       (s.counted.withSpill t.spill).Moves t ∧
       (s.hoursRise = false → s.pump.state ≠ .lockout → (s.counted.withSpill t.spill).AlarmsOnly t))

/-- A sample event moves its own channel and delivers its two raw conditions. R1, R13, R17, R18, R19. The model's own choices it rests on:
notes/assumptions/13.md. -/
def Obligations.SampleEventRuns : Prop :=
  ∀ (s : State) (ch : ChannelId) (conversion : Int),
    s.working = true →
    (s.chan ch).phase ≠ .stopped →
    ∃ t, exec (.sampleEvent ch conversion) s = .next t ∧
      t.chan ch = ((s.chan ch).sample (s.cfg.channel ch) conversion).offer ∧
      (t.chan ch).offeredLevel = (t.chan ch).level ∧
      (t.chan ch).offeredQuality = (t.chan ch).quality ∧
      (∀ other, other ≠ ch → t.chan other = s.chan other) ∧
      t.rawOf (faultPoint ch) = ((t.chan ch).fault != .clear) ∧
      t.rawOf (checkPoint ch) = (t.chan ch).checkFlag ∧
      (ch = .w → t.screen = s.screen) ∧
      (ch = .x → t.balance.level = s.balance.level ∧ t.balance.band = s.balance.band ∧ t.balance.demand = s.balance.demand) ∧
      (ch = .x → s.cfg.role ≠ .screen → (s.withChan ch (t.chan ch)).AlarmsOnly t ∧ s.PointsBut t [.xFault, .xCheck]) ∧
      s.PointsBut t [faultPoint ch, checkPoint ch, .levelDisagree, .houseLevelLost, .overflowRisk, .screenBlinded] ∧
      t.start = s.start ∧
      t.clock = s.clock ∧
      t.pins = s.pins ∧
      t.floats = s.floats ∧
      t.spill = s.spill ∧
      t.town = s.town ∧
      t.pending = s.pending ∧
      t.table.entries = s.table.entries ∧
      t.table.isolated = s.table.isolated ∧
      t.table.silence = s.table.silence ∧
      t.table.generator = s.table.generator

/-- How a sample event moves a channel: classes of current, window, step rejection, fault and recovery, and the self-check. R3 to R12, R14
to R17. The stopped hold timer with a fault hold time of 0 is the model's choice. The model's own choices it rests on:
notes/assumptions/44.md. -/
def Obligations.SamplesBecomeLevels : Prop :=
  ∀ (g : ChannelSettings) (c : Channel) (conversion level current used sample mean : Int) (quality : SampleQuality),
    (c.phase = .settling → 2 ≤ c.discard → c.sample g conversion = { c with discard := c.discard - 1 }) ∧
    (c.phase = .sampling → c.check.hasReached = false → current = clampInt 0 25000 conversion - c.offset →
      (current < 3000 ∨ 22000 < current) →
      (c.fault = .clear →
        c.sample g conversion =
          if g.faultHold = 0 then { c with fault := .expired } else { c with fault := .holding, hold := .running 0 }) ∧
      (c.fault ≠ .clear → c.sample g conversion = c)) ∧
    (c.phase = .sampling → c.check.hasReached = false → current = clampInt 0 25000 conversion - c.offset →
      InClass current used quality → sample = g.datum + roundHalfUp ((used - 4000) * g.span) 16000 →
      (c.fault = .clear → c.samples = [] →
        c.sample g conversion =
          { c with samples := List.replicate 8 sample, level := some sample, newest := quality, consecutive := 0 }) ∧
      (c.fault = .clear → c.samples.length = 8 → c.level = some level → (g.stepLimit = 0 ∨ |sample - level| ≤ g.stepLimit) →
        c.sample g conversion =
          { c with
            samples := c.samples.drop 1 ++ [sample], level := some (roundHalfUp (c.samples.drop 1 ++ [sample]).sum 8),
            newest := quality, consecutive := 0 }) ∧
      (c.fault = .clear → c.samples.length = 8 → c.level = some level → g.stepLimit ≠ 0 → (g.stepLimit : Int) < |sample - level| →
        c.consecutive < 2 →
        c.sample g conversion = { c with consecutive := c.consecutive + 1, rejects := min 65535 (c.rejects + 1) }) ∧
      (c.fault = .clear → c.samples.length = 8 → c.level = some level → g.stepLimit ≠ 0 → (g.stepLimit : Int) < |sample - level| →
        2 ≤ c.consecutive →
        c.sample g conversion =
          { c with samples := List.replicate 8 sample, level := some sample, newest := quality, consecutive := 0 }) ∧
      (c.fault ≠ .clear →
        c.sample g conversion =
          { c with
            fault := .clear, hold := .stopped, samples := List.replicate 8 sample, level := some sample, newest := quality,
            consecutive := 0 })) ∧
    (c.phase = .sampling → c.check.hasReached = true →
      c.sample g conversion =
        { c with phase := .checking, period := 1, heldInvalid := c.quality == .invalid, check := .stopped } ∧
      (c.sample g conversion).quality = if c.quality = .invalid then .invalid else .held) ∧
    (c.phase = .checking → c.period = 1 → c.sample g conversion = { c with period := 2 }) ∧
    (c.phase = .checking → c.period = 2 →
      c.sample g conversion = { c with period := 3, firstRef := clampInt (-1000) 1000 conversion }) ∧
    (c.phase = .checking → c.period = 3 → mean = truncDiv (c.firstRef + clampInt (-1000) 1000 conversion) 2 →
      c.sample g conversion =
        { c with period := 4, offset := max (-200) (min 200 mean), checkFlag := decide (MeanOutside mean) }) ∧
    (c.phase = .checking → c.period = 4 → c.sample g conversion = { c with period := 5 }) ∧
    (c.phase = .checking → c.period = 5 →
      c.sample g conversion =
        { c with phase := .sampling, period := 1, check := if g.checkInterval = 0 then .stopped else .running 0 })

/-- An own W sample forms the house level and hands demand on. R21 to R25, R30, R31, R35, R36. -/
def Obligations.LevelBecomesDemand : Prop :=
  ∀ (s : State) (conversion : Int),
    s.working = true →
    s.chanW.phase ≠ .stopped →
    ∃ t, exec (.sampleEvent .w conversion) s = .next t ∧
      t.balance.level =
        medianLevel (t.chanW.usable.toList ++ if s.table.isolated then [] else s.table.list.filterMap PeerEntry.candidate) ∧
      (∀ h,
         t.balance.level = some h →
         t.balance.volume = volumeAt s.cfg.volumeTable h ∧ t.balance.band = bandDemand s.cfg.bands h s.balance.band ∧
         t.balance.invalidHold = .stopped ∧ t.balance.held = s.balance.held) ∧
      (t.balance.level = none → t.balance.volume = s.balance.volume ∧ t.balance.band = s.balance.band) ∧
      (t.balance.level = none → s.balance.level.isSome = true → t.balance.held = s.balance.demand ∧ t.balance.invalidHold = .running 0) ∧
      (t.balance.level = none →
       s.balance.level = none →
       t.balance.held = s.balance.held ∧ t.balance.invalidHold = s.balance.invalidHold) ∧
      ((t.chanW.usable = none ∨ t.balance.level = none) → t.balance.disagree = .stopped) ∧
      t.balance.demand = t.demandRow ∧
      t.rawOf .houseLevelLost = (s.operating && t.balance.level.isNone) ∧
      t.balance = { s.balance with
          level := t.balance.level, volume := t.balance.volume, band := t.balance.band, held := t.balance.held,
          invalidHold := t.balance.invalidHold, disagree := t.balance.disagree, demand := t.balance.demand, limit := t.balance.limit,
          effective := t.balance.effective } ∧
      t.CountsCurrent ∧
      t.DemandLimited

/-- An X sample at a screen station forms the differential, the condition and the LEVEL trigger. R122 to R125, R127. The model's own
choices it rests on: notes/assumptions/1.md, notes/assumptions/12.md. -/
def Obligations.DifferentialJudgesTheScreen : Prop :=
  ∀ (s : State) (conversion : Int),
    s.screenRuns = true →
    s.chanX.phase ≠ .stopped →
    ∃ t, exec (.sampleEvent .x conversion) s = .next t ∧
      t.screen.delta =
        (match t.chanX.usable, s.balance.level, s.chanW.usable with
         | some x, some h, _ => some (x - h)
         | some x, none, some w => some (x - w)
         | _, _, _ => none) ∧
      (t.screen.delta = none →
       t.screen.condition = .unknown ∧ t.screen.limit = s.cfg.unknownLimit ∧ t.screen.rake = s.screen.rake ∧
       t.screen.pendingFlag = s.screen.pendingFlag) ∧
      (∀ d,
         t.screen.delta = some d →
         t.screen.condition =
           (if s.cfg.blindLevel ≤ d ∨ (s.screen.condition = .blinded ∧ s.cfg.blindClear ≤ d) then
              .blinded
            else if s.cfg.rakeLevel ≤ d then .loaded else .clear)) ∧
      (t.screen.condition = .blinded → t.screen.limit = s.cfg.blindedLimit) ∧
      ((t.screen.condition = .clear ∨ t.screen.condition = .loaded) → t.screen.limit = 8) ∧
      t.rawOf .screenBlinded = (t.screen.condition == .blinded) ∧
      (∀ d,
         t.screen.delta = some d →
         d < s.cfg.rakeLevel →
         t.screen = { s.screen with delta := some d, condition := t.screen.condition, limit := t.screen.limit }) ∧
      (∀ d,
         t.screen.delta = some d →
         s.cfg.rakeLevel ≤ d →
         s.screen.rake = .rakeIdle →
         s.screen.rest.isRunning = false →
         s.screen.overload.active = false →
         t.screen = { s.screen.cycling .level s.cfg.rakeInterval with
             delta := some d, condition := t.screen.condition, limit := t.screen.limit }) ∧
      (∀ d,
         t.screen.delta = some d →
         s.cfg.rakeLevel ≤ d →
         (s.screen.rake ≠ .rakeIdle ∨ s.screen.rest.isRunning = true) →
         t.screen = { s.screen with
             delta := some d, condition := t.screen.condition, limit := t.screen.limit, pendingFlag := true, pendingCause := .level }) ∧
      t.balance = { s.balance with limit := t.balance.limit, effective := t.balance.effective } ∧
      t.table.screenLimit = t.slim ∧
      t.clock = s.clock ∧
      t.pins = s.pins ∧
      t.chanW = s.chanW ∧
      t.spill = s.spill ∧
      t.floats = s.floats ∧
      t.town = s.town

/-- Settling, the self-check with its six periods, and the fault hold run to their ends. R1, R3, R12, R14 to R17, R19. The model's own
choices it rests on: notes/assumptions/1.md, notes/assumptions/3.md, notes/assumptions/12.md, notes/assumptions/13.md,
notes/assumptions/44.md. -/
def Obligations.ChannelTimesRun : Prop :=
  ∀ (s : State) (ch : ChannelId) (conversion : Int) (mean : Int),
    (s.working = true →
     (s.chan ch).phase = .settling →
     (s.chan ch).discard = 1 →
     ∃ t, exec (.settlingEnd ch) s = .next t ∧
       t.chan ch =
           (  { s.chan ch with
                discard := 0, phase := .sampling,
                check := if (s.cfg.channel ch).checkInterval = 0 then .stopped else .running 0 } : Channel).offer ∧
       (∀ other, other ≠ ch → t.chan other = s.chan other) ∧
       t.rawOf (faultPoint ch) = ((s.chan ch).fault != .clear) ∧
       t.rawOf (checkPoint ch) = (t.chan ch).checkFlag ∧
       s.PointsBut t [faultPoint ch, checkPoint ch, .levelDisagree, .houseLevelLost, .overflowRisk, .screenBlinded] ∧
       t.start = s.start ∧
       t.clock = s.clock ∧
       t.pins = s.pins ∧
       t.floats = s.floats ∧
       t.spill = s.spill ∧
       t.town = s.town ∧
       t.pending = s.pending ∧
       t.table.entries = s.table.entries) ∧
    ((s.chan ch).check.due ((s.cfg.channel ch).checkInterval * 60000) = true →
     ∃ t, exec (.checkTimerExpiry ch) s = .next t ∧
       t = s.withChan ch { s.chan ch with check := .reached }) ∧
    (s.working = true →
     (s.chan ch).phase = .sampling →
     (s.chan ch).check = .reached →
     ∃ t, exec (.sampleEvent ch conversion) s = .next t ∧
       t.chan ch =
           (  { s.chan ch with
                phase := .checking, period := 1, heldInvalid := (s.chan ch).quality == .invalid, check := .stopped } : Channel).offer ∧
       (t.chan ch).offeredQuality = (if (s.chan ch).quality = .invalid then .invalid else .held) ∧
       (∀ other, other ≠ ch → t.chan other = s.chan other) ∧
       t.rawOf (faultPoint ch) = ((s.chan ch).fault != .clear) ∧
       t.rawOf (checkPoint ch) = (t.chan ch).checkFlag ∧
       s.PointsBut t [faultPoint ch, checkPoint ch, .levelDisagree, .houseLevelLost, .overflowRisk, .screenBlinded] ∧
       t.start = s.start ∧
       t.clock = s.clock ∧
       t.pins = s.pins ∧
       t.floats = s.floats ∧
       t.spill = s.spill ∧
       t.town = s.town ∧
       t.pending = s.pending ∧
       t.table.entries = s.table.entries) ∧
    (s.working = true →
     (s.chan ch).phase = .checking →
     ((s.chan ch).period = 1 ∨ (s.chan ch).period = 4) →
     ∃ t, exec (.sampleEvent ch conversion) s = .next t ∧
       t.chan ch = ({ s.chan ch with period := (s.chan ch).period + 1 } : Channel).offer ∧
       (∀ other, other ≠ ch → t.chan other = s.chan other) ∧
       t.rawOf (faultPoint ch) = ((s.chan ch).fault != .clear) ∧
       t.rawOf (checkPoint ch) = (t.chan ch).checkFlag ∧
       s.PointsBut t [faultPoint ch, checkPoint ch, .levelDisagree, .houseLevelLost, .overflowRisk, .screenBlinded] ∧
       t.start = s.start ∧
       t.clock = s.clock ∧
       t.pins = s.pins ∧
       t.floats = s.floats ∧
       t.spill = s.spill ∧
       t.town = s.town ∧
       t.pending = s.pending ∧
       t.table.entries = s.table.entries) ∧
    (s.working = true →
     (s.chan ch).phase = .checking →
     (s.chan ch).period = 2 →
     ∃ t, exec (.sampleEvent ch conversion) s = .next t ∧
       t.chan ch = ({ s.chan ch with period := 3, firstRef := max (-1000) (min 1000 conversion) } : Channel).offer ∧
       (∀ other, other ≠ ch → t.chan other = s.chan other) ∧
       t.rawOf (faultPoint ch) = ((s.chan ch).fault != .clear) ∧
       t.rawOf (checkPoint ch) = (t.chan ch).checkFlag ∧
       s.PointsBut t [faultPoint ch, checkPoint ch, .levelDisagree, .houseLevelLost, .overflowRisk, .screenBlinded] ∧
       t.start = s.start ∧
       t.clock = s.clock ∧
       t.pins = s.pins ∧
       t.floats = s.floats ∧
       t.spill = s.spill ∧
       t.town = s.town ∧
       t.pending = s.pending ∧
       t.table.entries = s.table.entries) ∧
    (s.working = true →
     (s.chan ch).phase = .checking →
     (s.chan ch).period = 3 →
     mean = truncDiv ((s.chan ch).firstRef + max (-1000) (min 1000 conversion)) 2 →
     ∃ t, exec (.sampleEvent ch conversion) s = .next t ∧
       t.chan ch =
         ({ s.chan ch with period := 4, offset := max (-200) (min 200 mean), checkFlag := decide (MeanOutside mean) } : Channel).offer ∧
       t.rawOf (checkPoint ch) = decide (MeanOutside mean) ∧
       (∀ other, other ≠ ch → t.chan other = s.chan other) ∧
       t.rawOf (faultPoint ch) = ((s.chan ch).fault != .clear) ∧
       t.rawOf (checkPoint ch) = (t.chan ch).checkFlag ∧
       s.PointsBut t [faultPoint ch, checkPoint ch, .levelDisagree, .houseLevelLost, .overflowRisk, .screenBlinded] ∧
       t.start = s.start ∧
       t.clock = s.clock ∧
       t.pins = s.pins ∧
       t.floats = s.floats ∧
       t.spill = s.spill ∧
       t.town = s.town ∧
       t.pending = s.pending ∧
       t.table.entries = s.table.entries) ∧
    (s.working = true →
     (s.chan ch).phase = .checking →
     (s.chan ch).period = 5 →
     ∃ t, exec (.checkEnd ch) s = .next t ∧
       t.chan ch =
           (  { s.chan ch with
                phase := .sampling, period := 1,
                check := if (s.cfg.channel ch).checkInterval = 0 then .stopped else .running 0 } : Channel).offer ∧
       (∀ other, other ≠ ch → t.chan other = s.chan other) ∧
       t.rawOf (faultPoint ch) = ((s.chan ch).fault != .clear) ∧
       t.rawOf (checkPoint ch) = (t.chan ch).checkFlag ∧
       s.PointsBut t [faultPoint ch, checkPoint ch, .levelDisagree, .houseLevelLost, .overflowRisk, .screenBlinded] ∧
       t.start = s.start ∧
       t.clock = s.clock ∧
       t.pins = s.pins ∧
       t.floats = s.floats ∧
       t.spill = s.spill ∧
       t.town = s.town ∧
       t.pending = s.pending ∧
       t.table.entries = s.table.entries) ∧
    ((s.chan ch).fault = .holding →
     (s.chan ch).hold.due ((s.cfg.channel ch).faultHold * 1000) = true →
     ∃ t, exec (.faultHoldExpiry ch) s = .next t ∧
       t = s.withChan ch { s.chan ch with fault := .expired, hold := .reached } ∧
       (t.chan ch).quality = .invalid ∧
       (t.chan ch).usable = (s.chan ch).usable)

/-- A balance event estimates the inflow. R26 to R29, R32, R35. The outflow is the rated flow of the own pump while RUN_FB is present and
of each seen peer that is flowing. The model's own choices it rests on: notes/assumptions/1.md. -/
def Obligations.BalanceEventEstimates : Prop :=
  ∀ (s : State) (h : Int) (q : Int),
    (s.working = true →
     s.balance.timer.due (s.cfg.balanceInterval * 1000) = true →
     s.balance.level = some h →
     s.balance.prevValid = true →
     q =
       ((((s.balance.outflowPrev + s.outflow) / 2 : Nat) : Int) + truncDiv
          ((volumeAt s.cfg.volumeTable h : Int) - s.balance.volumePrev) s.cfg.balanceInterval) →
     ∃ t, exec (.balanceEvent) s = .next t ∧
       s.outflow =
         (if s.pump.runFb.active then s.cfg.ratedFlow else 0) +
           (s.table.list.map fun e => match e.seen with | some r => if r.flowing then r.ratedFlow.toNat else 0 | none => 0).sum ∧
       t.balance.inflow = (max 0 (min 65535 q)).toNat ∧
       t.balance.low = decide (q < 0) ∧
       t.balance.high = decide (65535 < q) ∧
       t.balance.age = 0 ∧
       t.balance.firstEstimate = false ∧
       t.balance.smoothed =
         (if s.balance.firstEstimate then
            t.balance.inflow
          else ((s.balance.smoothed : Int) + truncDiv ((t.balance.inflow : Int) - s.balance.smoothed) 4).toNat) ∧
       t.balance.trend =
         (if s.cfg.trendArm ≤ h ∧ 0 < t.balance.smoothed then
            min 8 ((t.balance.smoothed + (s.cfg.referenceFlow - 1)) / s.cfg.referenceFlow)
          else 0) ∧
       t.balance = { s.balance with
           inflow := t.balance.inflow, low := t.balance.low, high := t.balance.high, age := 0, firstEstimate := false,
           smoothed := t.balance.smoothed, trend := t.balance.trend, outflowPrev := s.outflow,
           volumePrev := volumeAt s.cfg.volumeTable h, prevValid := true, timer := .running 0, demand := t.balance.demand,
           limit := t.balance.limit, effective := t.balance.effective } ∧
       t.balance.demand = t.demandRow ∧
       (s.balance.low = false → q < 0 → s.Records t 12 .balanceLow s.own 0 [BitVec.ofInt 32 q, BitVec.ofNat 32 s.outflow]) ∧
       t.start = s.start ∧
       t.clock = s.clock ∧
       t.pins = s.pins ∧
       t.chanW = s.chanW ∧
       t.chanX = s.chanX ∧
       t.floats = s.floats ∧
       t.screen = s.screen ∧
       t.spill = s.spill ∧
       t.town = s.town ∧
       t.pending = s.pending ∧
       t.table.entries = s.table.entries ∧
       t.table.isolated = s.table.isolated ∧
       t.table.silence = s.table.silence) ∧
    (s.working = true →
     s.balance.timer.due (s.cfg.balanceInterval * 1000) = true →
     (s.balance.level = none ∨ s.balance.prevValid = false) →
     ∃ t, exec (.balanceEvent) s = .next t ∧
       t.balance = { s.balance with
           age := min 65535 (s.balance.age + 1), outflowPrev := s.outflow, prevValid := s.balance.level.isSome,
           volumePrev := t.balance.volumePrev, trend := t.balance.trend, timer := .running 0, demand := t.balance.demand,
           limit := t.balance.limit, effective := t.balance.effective } ∧
       (∀ v,
          s.balance.level = some v →
          t.balance.volumePrev = volumeAt s.cfg.volumeTable v ∧ t.balance.trend =
            (if s.cfg.trendArm ≤ v ∧ 0 < s.balance.smoothed then
               min 8 ((s.balance.smoothed + (s.cfg.referenceFlow - 1)) / s.cfg.referenceFlow)
             else 0)) ∧
       (s.balance.level = none → t.balance.volumePrev = s.balance.volumePrev ∧ t.balance.trend = s.balance.trend) ∧
       t.balance.demand = t.demandRow ∧
       t.start = s.start ∧
       t.clock = s.clock ∧
       t.pins = s.pins ∧
       t.chanW = s.chanW ∧
       t.chanX = s.chanX ∧
       t.floats = s.floats ∧
       t.screen = s.screen ∧
       t.spill = s.spill ∧
       t.town = s.town ∧
       t.pending = s.pending ∧
       t.table.entries = s.table.entries ∧
       t.table.isolated = s.table.isolated ∧
       t.table.silence = s.table.silence)

/-- The end of the invalid hold gives the fallback demand, and the generator contact the running limit. R36, R37, R94, R96. The model's
own choices it rests on: notes/assumptions/1.md, notes/assumptions/9.md. -/
def Obligations.HoldAndSupplyReachDemand : Prop :=
  ∀ (s : State),
    (s.working = true →
     s.balance.invalidHold.due (s.cfg.invalidHold * 1000) = true →
     s.balance.level = none →
     s.lowLowInForce = false →
     s.highHighInForce = false →
     ∃ t, exec (.invalidHoldExpiry) s = .next t ∧
       t.balance.demand = s.cfg.fallbackDemand ∧
       ({ s with balance := { s.balance with invalidHold := .reached, demand := s.cfg.fallbackDemand } } : State).Moves t ∧
       t.CountsCurrent ∧
       t.DemandLimited ∧
       s.PointsBut t [.overflowRisk]) ∧
    (s.working = true →
     s.table.generator.timer.due 500 = true →
     ∃ t, exec (.generatorDebounceExpiry) s = .next t ∧
       t.table.generator = { active := s.pins.dgen, timer := .stopped } ∧
       t.rawOf .onGenerator = s.pins.dgen ∧
       (s.pins.dgen = true → t.table.supply = .generator ∧ t.balance.limit = s.cfg.generatorLimit) ∧
       (s.pins.dgen = false →
        s.table.list.all (fun e => !((e.seen.map Report.generator).getD false)) = true →
        t.table.supply = .utility ∧ t.balance.limit = s.cfg.utilityLimit) ∧
       ({ s with table := { s.table with generator := { active := s.pins.dgen, timer := .stopped } } } : State).Moves t ∧
       t.CountsCurrent ∧
       t.DemandLimited ∧
       s.PointsBut t [.onGenerator, .overflowRisk])

/-- Three timers raise or drop one alarm point and do nothing else. R23, R73, R84, R167. The model's own choices it rests on:
notes/assumptions/1.md, notes/assumptions/42.md. -/
def Obligations.AlarmTimersRaiseAndFall : Prop :=
  ∀ (s : State),
    (s.started = true →
     s.balance.disagree.due 30000 = true →
     ∃ t, exec (.disagreeTimerExpiry) s = .next t ∧
       ({ s with balance := { s.balance with disagree := .reached } } : State).AlarmsOnly t ∧
       s.Delivers t .levelDisagree true) ∧
    (s.started = true →
     s.town.silence.due (s.cfg.townTimeout * 1000) = true →
     s.cfg.townTimeout ≠ 0 →
     ∃ t, exec (.townSilenceExpiry) s = .next t ∧
       ({ s with town := { s.town with silence := .reached } } : State).AlarmsOnly t ∧
       s.Delivers t .townSilent true) ∧
    (s.started = true →
     s.town.silence.isRunning = true →
     s.cfg.townTimeout = 0 →
     ∃ t, exec (.townSilenceExpiry) s = .next t ∧
       t = s) ∧
    (s.started = true →
     s.link.failure.due 10000 = true →
     ∃ t, exec (.txFailureTimerExpiry) s = .next t ∧
       ({ s with link := { s.link with failure := .stopped } } : State).AlarmsOnly t ∧
       s.Delivers t .bayTxFail false)

/-- A debounced float shows its point, sets demand, and the low-low float opens the contactor. R33 to R35, R46, R54, R56. The model's own
choices it rests on: notes/assumptions/1.md, notes/assumptions/8.md. -/
def Obligations.FloatsOverrideDemand : Prop :=
  ∀ (s : State) (f : FloatId),
    s.working = true →
    (s.floats.filter f).timer.due (s.cfg.floatDebounce * 500) = true →
    ∃ t, exec (.floatDebounceExpiry f) s = .next t ∧
      t.floats.filter f = { active := s.pins.level (floatPin f), timer := .stopped } ∧
      (∀ other, other ≠ f → t.floats.filter other = s.floats.filter other) ∧
      t.rawOf (floatPoint f) = s.pins.level (floatPin f) ∧
      t.rawOf .floatConflict = (t.floats.highHigh.active && t.floats.lowLow.active) ∧
      (t.floats.lowLow.active = true → t.floats.highHigh.active = false → t.balance.demand = 0 ∧ t.balance.effective = 0) ∧
      (t.floats.highHigh.active = true → t.floats.lowLow.active = false → t.balance.demand = 8) ∧
      t.balance.demand = t.demandRow ∧
      (t.floats.lowLow.active = true →
       t.floats.highHigh.active = false →
       (s.pump.state = .starting ∨ s.pump.state = .running) →
       t.pump.contactor = false ∧ t.pump.state ∈ [.stopping, .lockout, .inhibited, .tripped] ∧
       s.Records t 12 .stopped s.own 1 [BitVec.ofNat 32 s.pump.closedSeconds, BitVec.ofNat 32 s.pump.runHours]) ∧
      t.balance = { s.balance with demand := t.balance.demand, limit := t.balance.limit, effective := t.balance.effective } ∧
      s.PointsBut t [floatPoint f, .floatConflict, .overflowRisk] ∧
      t.CountsCurrent ∧
      t.DemandLimited ∧
      t.start = s.start ∧
      t.clock = s.clock ∧
      t.pins = s.pins ∧
      t.chanW = s.chanW ∧
      t.chanX = s.chanX ∧
      t.screen = s.screen ∧
      t.spill = s.spill ∧
      t.town = s.town ∧
      t.pending = s.pending ∧
      t.table.entries = s.table.entries ∧
      t.table.isolated = s.table.isolated

/-- A raw level at a pin moves that pin's filter timer and nothing else. Conventions, R33, R44, R94, R121, R150. -/
def Obligations.InputsReachTheirFilters : Prop :=
  ∀ (s : State) (pin : Pin) (level : Bool),
    s.working = true →
    (pin = .dcam ∨ pin = .dovl → s.screenRuns = true) →
    ∃ t, exec (.inputLevelChange pin level) s = .next t ∧
      t.pins.level pin = level ∧
      (∀ other, other ≠ pin → t.pins.level other = s.pins.level other) ∧
      t.filterOf pin =
        {
          active := (s.filterOf pin).active,
          timer :=
            if level = (s.filterOf pin).active then
              .stopped
            else if (s.filterOf pin).timer.isRunning then (s.filterOf pin).timer else .running 0 } ∧
      (∀ other, other ≠ pin → t.filterOf other = s.filterOf other) ∧
      t.withoutFilters = s.withoutFilters.withPins t.pins

/-- A change of RUN_FB moves the start, the loss and the stop. R53, R57, R58, R59, R96. The model's own choices it rests on:
notes/assumptions/1.md, notes/assumptions/9.md. -/
def Obligations.RunFeedbackDrivesThePump : Prop :=
  ∀ (s : State),
    (s.working = true →
     s.pump.runFb.timer.due 100 = true →
     s.pump.state = .starting →
     s.pump.feedback.isRunning = true →
     s.pins.drun = true →
     ∃ t, exec (.runFbFilterExpiry) s = .next t ∧
       t.pump = { s.pump with runFb := { active := true, timer := .stopped }, feedback := .stopped, settle := .running 0 } ∧
       s.Moves t ∧
       t.CountsCurrent ∧
       t.DemandLimited) ∧
    (s.working = true →
     s.pump.runFb.timer.due 100 = true →
     s.pump.state = .starting →
     s.pump.settle.isRunning = true →
     s.pins.drun = false →
     ∃ t, exec (.runFbFilterExpiry) s = .next t ∧
       t.pump = { s.pump with runFb := { active := false, timer := .stopped }, loss := .running 0 } ∧
       s.Moves t ∧
       t.CountsCurrent ∧
       t.DemandLimited) ∧
    (s.working = true →
     s.pump.runFb.timer.due 100 = true →
     s.pump.state = .starting →
     s.pump.feedback.isRunning = false →
     s.pins.drun = true →
     ∃ t, exec (.runFbFilterExpiry) s = .next t ∧
       t.pump = { s.pump with runFb := { active := true, timer := .stopped }, loss := .stopped } ∧
       s.Moves t ∧
       t.CountsCurrent ∧
       t.DemandLimited) ∧
    (s.working = true →
     s.pump.runFb.timer.due 100 = true →
     s.pump.state = .running →
     ∃ t, exec (.runFbFilterExpiry) s = .next t ∧
       t.pump.runFb = { active := s.pins.drun, timer := .stopped } ∧
       (t.pump.state = .running → t.pump = { s.pump with runFb := t.pump.runFb, loss := if s.pins.drun then .stopped else .running 0 }) ∧
       (t.pump.state ≠ .running → t.pump.contactor = false) ∧
       s.Moves t ∧
       t.CountsCurrent ∧
       t.DemandLimited) ∧
    (s.working = true →
     s.pump.runFb.timer.due 100 = true →
     s.pump.state = .stopping →
     s.pins.drun = false →
     ∃ t, exec (.runFbFilterExpiry) s = .next t ∧
       (s.pump.faultContact.active = false →
        t.pump = { s.pump.halted (if s.pump.inhibit then .inhibited else .lockout) with
            runFb := { active := false, timer := .stopped }, lockout := if s.pump.inhibit then .stopped else .running 0 }) ∧
       (s.pump.faultContact.active = true →
        t.pump = { s.pump.halted .tripped with runFb := { active := false, timer := .stopped }, latch := some .pumpFault }) ∧
       s.Moves t ∧
       t.CountsCurrent ∧
       t.DemandLimited) ∧
    (s.working = true →
     s.pump.runFb.timer.due 100 = true →
     (s.pump.state = .lockout ∨ s.pump.state = .inhibited ∨ s.pump.state = .claiming) →
     ∃ t, exec (.runFbFilterExpiry) s = .next t ∧
       t.pump =
         { s.pump with runFb := { active := s.pins.drun, timer := .stopped }, stray := if s.pins.drun then .running 0 else .stopped } ∧
       s.Moves t ∧
       t.CountsCurrent ∧
       t.DemandLimited) ∧
    (s.working = true →
     s.pump.runFb.timer.due 100 = true →
     (s.pump.state = .idle ∨ s.pump.state = .waiting) →
     ∃ t, exec (.runFbFilterExpiry) s = .next t ∧
       t.pump.runFb = { active := s.pins.drun, timer := .stopped } ∧
       (t.pump.state = s.pump.state →
        t.pump = { s.pump with runFb := t.pump.runFb, stray := if s.pins.drun then .running 0 else .stopped }) ∧
       t.pump.state ∈ [.idle, .waiting, .claiming, .starting] ∧
       (t.pump.state ≠ .starting → t.pump.stray = if s.pins.drun then .running 0 else .stopped) ∧
       s.Moves t ∧
       t.CountsCurrent ∧
       t.DemandLimited)

/-- The fault contact raises PUMP_FAULT and trips an AUTO pump. R44, R59, R60, R65, R66, R77, R117. The model's own choices it rests on:
notes/assumptions/1.md, notes/assumptions/8.md, notes/assumptions/19.md, notes/assumptions/45.md. -/
def Obligations.FaultContactTrips : Prop :=
  ∀ (s : State),
    (s.started = true →
     s.pump.faultContact.timer.due 500 = true →
     s.pins.dflt = true →
     s.pump.state.isAuto = true →
     s.pump.state ≠ .tripped →
     ∃ t, exec (.faultContactDebounceExpiry) s = .next t ∧
       t.pump = { s.pump.halted .tripped with faultContact := { active := true, timer := .stopped }, latch := some .pumpFault } ∧
       t.window = s.windowLeft ∧
       t.link = s.linkLeft .failed ∧
       t.rawOf .pumpFault = true ∧
       s.PointsBut t [.pumpFault, .overflowRisk] ∧
       s.Moves t ∧
       s.Records t 3 .tripped s.own 10 [BitVec.ofNat 32 (pumpStateCode s.pump.state)]) ∧
    (s.started = true →
     s.pump.faultContact.timer.due 500 = true →
     (s.pins.dflt = false ∨ s.pump.state.isAuto = false ∨ s.pump.state = .tripped) →
     ∃ t, exec (.faultContactDebounceExpiry) s = .next t ∧
       ({ s with pump := { s.pump with faultContact := { active := s.pins.dflt, timer := .stopped } } } : State).AlarmsOnly t ∧
       s.Delivers t .pumpFault s.pins.dflt)

/-- The selector's contacts and its OFF hold move the position and the pump with it. R44, R46 to R49, R60, R65, R66, R77, R117. The
model's own choices it rests on: notes/assumptions/1.md, notes/assumptions/8.md, notes/assumptions/19.md, notes/assumptions/44.md,
notes/assumptions/45.md. -/
def Obligations.SelectorMovesThePump : Prop :=
  ∀ (s : State) (c : Contact) (cause : TripCause) (p : Pump),
    (s.operating = true →
     (s.pump.contact c).timer.due 500 = true →
     p = s.pump.withContact c { active := s.pins.level (contactPin c), timer := .stopped } →
     p.combination = some .hand →
     s.pump.position = .auto →
     ∃ t, exec (.selectorContactDebounceExpiry c) s = .next t ∧
       t.pump = { p.halted .hand with position := .hand, offHold := .stopped } ∧
       t.window = s.windowLeft ∧
       t.link = s.linkLeft .withdrawn ∧
       ((s.pump.state = .starting ∨ s.pump.state = .running) →
        s.Records t 8 .stopped s.own 4 [BitVec.ofNat 32 s.pump.closedSeconds, BitVec.ofNat 32 s.pump.runHours]) ∧
       s.Moves t ∧
       t.rawOf .selectorFault = false ∧
       s.PointsBut t [.selectorFault, .overflowRisk]) ∧
    (s.operating = true →
     (s.pump.contact c).timer.due 500 = true →
     p = s.pump.withContact c { active := s.pins.level (contactPin c), timer := .stopped } →
     p.combination = some .hand →
     (s.pump.position = .off ∨ (s.pump.position = .hand ∧ s.pump.offHold.due 500 = true)) →
     ∃ t, exec (.selectorContactDebounceExpiry c) s = .next t ∧
       t.pump = { p.halted .hand with position := .hand, offHold := .stopped } ∧
       s.Moves t ∧
       t.rawOf .selectorFault = false ∧
       s.PointsBut t [.selectorFault, .overflowRisk]) ∧
    (s.operating = true →
     (s.pump.contact c).timer.due 500 = true →
     p = s.pump.withContact c { active := s.pins.level (contactPin c), timer := .stopped } →
     p.combination = some s.pump.position →
     s.pump.offHold.due 500 = false →
     ∃ t, exec (.selectorContactDebounceExpiry c) s = .next t ∧
       ({ s with pump := { p with offHold := .stopped } } : State).AlarmsOnly t ∧
       s.Delivers t .selectorFault false) ∧
    (s.operating = true →
     (s.pump.contact c).timer.due 500 = true →
     p = s.pump.withContact c { active := s.pins.level (contactPin c), timer := .stopped } →
     p.combination = some .auto →
     (s.pump.position ≠ .auto ∨ s.pump.offHold.due 500 = true) →
     s.pump.latch = none →
     s.pump.faultContact.active = false →
     ∃ t, exec (.selectorContactDebounceExpiry c) s = .next t ∧
       t.pump = { p.halted (if s.pump.inhibit then .inhibited else .lockout) with
           position := .auto, offHold := .stopped, lockout := if s.pump.inhibit then .stopped else .running 0,
           stray := s.pump.strayAtEntry } ∧
       s.Moves t ∧
       t.rawOf .selectorFault = false ∧
       s.PointsBut t [.selectorFault, .overflowRisk]) ∧
    (s.operating = true →
     (s.pump.contact c).timer.due 500 = true →
     p = s.pump.withContact c { active := s.pins.level (contactPin c), timer := .stopped } →
     p.combination = some .auto →
     (s.pump.position ≠ .auto ∨ s.pump.offHold.due 500 = true) →
     s.pump.latch = none →
     s.pump.faultContact.active = true →
     ∃ t, exec (.selectorContactDebounceExpiry c) s = .next t ∧
       t.pump = { p.halted .tripped with position := .auto, offHold := .stopped, latch := some .pumpFault } ∧
       s.Moves t ∧
       t.rawOf .selectorFault = false ∧
       s.PointsBut t [.selectorFault, .overflowRisk]) ∧
    (s.operating = true →
     (s.pump.contact c).timer.due 500 = true →
     p = s.pump.withContact c { active := s.pins.level (contactPin c), timer := .stopped } →
     p.combination = some .auto →
     s.pump.position = .hand →
     s.pump.offHold.due 500 = false →
     s.pump.latch = some cause →
     ∃ t, exec (.selectorContactDebounceExpiry c) s = .next t ∧
       t.pump = { p.halted .tripped with position := .auto, offHold := .stopped } ∧
       s.Moves t ∧
       t.rawOf .selectorFault = false ∧
       s.PointsBut t [.selectorFault, .overflowRisk]) ∧
    (s.operating = true →
     (s.pump.contact c).timer.due 500 = true →
     p = s.pump.withContact c { active := s.pins.level (contactPin c), timer := .stopped } →
     p.combination = some .auto →
     (s.pump.position = .off ∨ s.pump.offHold.due 500 = true) →
     s.pump.latch = some cause →
     s.pump.faultContact.active = false →
     s.pump.runFb.active = false →
     ∃ t, exec (.selectorContactDebounceExpiry c) s = .next t ∧
       t.pump = { p.halted (if s.pump.inhibit then .inhibited else .lockout) with
           position := .auto, offHold := .stopped, latch := none, lockout := if s.pump.inhibit then .stopped else .running 0 } ∧
       s.Moves t ∧
       t.rawOf .selectorFault = false ∧
       s.PointsBut t [.selectorFault, tripPoint cause, .overflowRisk] ∧
       (cause ≠ .pumpFault → t.rawOf (tripPoint cause) = false)) ∧
    (s.operating = true →
     (s.pump.contact c).timer.due 500 = true →
     p = s.pump.withContact c { active := s.pins.level (contactPin c), timer := .stopped } →
     p.combination = some .auto →
     (s.pump.position = .off ∨ s.pump.offHold.due 500 = true) →
     s.pump.latch = some cause →
     (s.pump.faultContact.active = true ∨ s.pump.runFb.active = true) →
     ∃ t, exec (.selectorContactDebounceExpiry c) s = .next t ∧
       t.pump = { p.halted .tripped with position := .auto, offHold := .stopped } ∧
       s.Moves t ∧
       t.rawOf .selectorFault = false ∧
       s.PointsBut t [.selectorFault, .overflowRisk]) ∧
    (s.started = true →
     (s.pump.contact c).timer.due 500 = true →
     p = s.pump.withContact c { active := s.pins.level (contactPin c), timer := .stopped } →
     p.combination = none →
     s.pump.offHold.due 500 = false →
     ∃ t, exec (.selectorContactDebounceExpiry c) s = .next t ∧
       ({ s with pump := { p with offHold := .running 0 } } : State).AlarmsOnly t ∧
       s.Delivers t .selectorFault false) ∧
    (s.operating = true →
     (s.pump.contact c).timer.due 500 = true →
     p = s.pump.withContact c { active := s.pins.level (contactPin c), timer := .stopped } →
     p.combination = none →
     s.pump.offHold.due 500 = true →
     ∃ t, exec (.selectorContactDebounceExpiry c) s = .next t ∧
       (s.pump.position ≠ .off → t.pump = { p.halted .off with position := .off, offHold := .running 0 }) ∧
       (s.pump.position = .off → t.pump = { p with offHold := .running 0 }) ∧
       (s.pump.position = .auto → t.window = s.windowLeft ∧ t.link = s.linkLeft .withdrawn) ∧
       s.Moves t ∧
       t.rawOf .selectorFault = false ∧
       s.PointsBut t [.selectorFault, .overflowRisk]) ∧
    (s.operating = true →
     s.pump.offHold.due 500 = true →
     s.pump.position = .auto →
     ∃ t, exec (.selectorOffHoldExpiry) s = .next t ∧
       t.pump = { s.pump.halted .off with position := .off, offHold := .reached } ∧
       t.window = s.windowLeft ∧
       t.link = s.linkLeft .withdrawn ∧
       s.Moves t ∧
       t.rawOf .selectorFault = (s.pump.contactHand.active && s.pump.contactAuto.active) ∧
       s.PointsBut t [.selectorFault, .overflowRisk] ∧
       ((s.pump.state = .starting ∨ s.pump.state = .running) →
        s.Records t 8 .stopped s.own 4 [BitVec.ofNat 32 s.pump.closedSeconds, BitVec.ofNat 32 s.pump.runHours])) ∧
    (s.operating = true →
     s.pump.offHold.due 500 = true →
     s.pump.position = .hand →
     ∃ t, exec (.selectorOffHoldExpiry) s = .next t ∧
       t.pump = { s.pump.halted .off with position := .off, offHold := .reached } ∧
       s.Moves t ∧
       t.rawOf .selectorFault = (s.pump.contactHand.active && s.pump.contactAuto.active)) ∧
    (s.pump.offHold.due 500 = false →
     ∃ t, exec (.selectorOffHoldExpiry) s = .next t ∧
       t = s)

/-- The cam completes an armed cycle, and an overload reverses or jams the rake. R128 to R130, R134. The model's own choices it rests on:
notes/assumptions/1.md. -/
def Obligations.RakeInputsEndOrReverse : Prop :=
  ∀ (s : State),
    (s.screenRuns = true →
     s.screen.cam.timer.due 100 = true →
     s.pins.dcam = true →
     s.screen.rake = .forward →
     s.screen.camArmed = true →
     ∃ t, exec (.camFilterExpiry) s = .next t ∧
       t =
           (  { s with
                screen :=
                  { s.screen.stoppedIn .rakeIdle with
                    cam := { active := true, timer := .stopped }, rest := .running 0,
                    cycles := min 65535 (s.screen.cycles + 1) } } : State).withEvents t.events ∧
       s.Records t 1 .rakeDone s.own (rakeCauseCode s.screen.cycleCause)
         [BitVec.ofNat 32 (s.screen.cycle.reading (s.cfg.cycleTimeout * 1000) / 1000), BitVec.ofNat 32 s.screen.overloads]) ∧
    (s.screenRuns = true →
     s.screen.cam.timer.due 100 = true →
     (s.pins.dcam = false ∨ s.screen.rake ≠ .forward ∨ s.screen.camArmed = false) →
     ∃ t, exec (.camFilterExpiry) s = .next t ∧
       t = { s with screen := { s.screen with cam := { active := s.pins.dcam, timer := .stopped } } }) ∧
    (s.screenRuns = true →
     s.screen.overload.timer.due 100 = true →
     s.pins.dovl = true →
     s.screen.rake = .forward →
     s.screen.overloads < 2 →
     ∃ t, exec (.overloadFilterExpiry) s = .next t ∧
       t = { s with
           screen :=
             { s.screen with
               overload := { active := true, timer := .stopped }, overloads := s.screen.overloads + 1,
               overloadCount := min 65535 (s.screen.overloadCount + 1), rake := .clearing, forwardOut := false, reverseOut := true,
               reverse := .running 0 } }) ∧
    (s.screenRuns = true →
     s.screen.overload.timer.due 100 = true →
     s.pins.dovl = true →
     ((s.screen.rake = .forward ∧ 2 ≤ s.screen.overloads) ∨ s.screen.rake = .clearing) →
     ∃ t, exec (.overloadFilterExpiry) s = .next t ∧
         (  { s with
              screen :=
                { s.screen.stoppedIn .jammed with
                  overload := { active := true, timer := .stopped }, overloads := s.screen.overloads + 1,
                  overloadCount := min 65535 (s.screen.overloadCount + 1) } } : State).AlarmsOnly t ∧
       s.Delivers t .rakeJammed true ∧
       s.Records t 2 .rakeJammed s.own (rakeStateCode s.screen.rake)
         [BitVec.ofNat 32 (s.screen.overloads + 1), BitVec.ofNat 32 s.screen.cycles]) ∧
    (s.screenRuns = true →
     s.screen.overload.timer.due 100 = true →
     (s.pins.dovl = false ∨ (s.screen.rake ≠ .forward ∧ s.screen.rake ≠ .clearing)) →
     ∃ t, exec (.overloadFilterExpiry) s = .next t ∧
       t = { s with screen := { s.screen with overload := { active := s.pins.dovl, timer := .stopped } } })

/-- A panel acknowledge silences every point, and the released input only ends it. R150, R151, R153. That the horn follows the points is
RelaysFollow, which every step keeps (TheRecordsStayInOrder). The model's own choices it rests on: notes/assumptions/1.md. -/
def Obligations.AcknowledgeAtThePanel : Prop :=
  ∀ (s : State),
    (s.started = true →
     s.alarms.ack.timer.due 100 = true →
     s.pins.dack = true →
     ∃ t, exec (.panelAcknowledge) s = .next t ∧
       s.AlarmsOnly t ∧
       t.alarms.ack = { active := true, timer := .stopped } ∧
       (∀ i : Fin 25,
          t.alarms.points[i] = { raw := s.alarms.points[i].raw, ann := match s.alarms.points[i].ann with
              | .alert => .standing | .returned => .normal | a => a }) ∧
       (s.takesClass 0 = true →
        s.events.overflow = 0 →
        s.events.records.length + 25 ≤ 64 →
        (t.events.records.drop s.events.records.length).map (fun r => (r.kind, r.source, r.subject.toNat, r.values)) =
          ((List.finRange 25).filter (fun i => s.alarms.points[i].ann = .alert ∨ s.alarms.points[i].ann = .returned)).map
            (fun i => (EventKind.alarmChange, s.own, i.val, [if s.alarms.points[i].ann = .alert then 2 else 0, 3]))) ∧
       (s.RelaysFollow → t.alarms.horn = false)) ∧
    (s.alarms.ack.timer.due 100 = true →
     s.pins.dack = false →
     ∃ t, exec (.acknowledgeInputReleased) s = .next t ∧
       t = { s with alarms := { s.alarms with ack := { active := false, timer := .stopped } } })

/-- The end of the lockout leads to IDLE, to WAITING or straight to a claim. R49 to R51, R64, R104 to R106. The model's own choices it
rests on: notes/assumptions/1.md, notes/assumptions/10.md, notes/assumptions/45.md. -/
def Obligations.LockoutEndsInIdleWaitingOrAClaim : Prop :=
  ∀ (s : State),
    (s.Kept →
     s.operating = true →
     s.pump.state = .lockout →
     s.pump.lockout.due s.lockoutFigure = true →
     s.table.isolated = false →
     s.balance.effective ≤ s.table.drawing →
     ∃ t, exec (.lockoutEnd) s = .next t ∧
       t.pump = { s.pump.halted .idle with stray := s.pump.strayAtEntry } ∧
       s.Moves t ∧
       s.QueuesReport t ∧
       t.window = { s.window with patience := .stopped }) ∧
    (s.Kept →
     s.operating = true →
     s.pump.state = .lockout →
     s.pump.lockout.due s.lockoutFigure = true →
     s.table.isolated = false →
     s.table.drawing < s.balance.effective →
     (s.window.view ≠ .free ∨ (s.table.keysOf [.idle, .waiting]).any (fun k => !s.ownKey.better k) = true) →
     ∃ t, exec (.lockoutEnd) s = .next t ∧
       t.pump = { s.pump.halted .waiting with stray := s.pump.strayAtEntry } ∧
       t.window = { s.window with patience := .running 0 } ∧
       s.Moves t) ∧
    (s.Kept →
     s.operating = true →
     s.pump.state = .lockout →
     s.pump.lockout.due s.lockoutFigure = true →
     s.table.isolated = false →
     s.table.drawing < s.balance.effective →
     s.window.view = .free →
     (s.table.keysOf [.idle, .waiting]).all (fun k => s.ownKey.better k) = true →
     ∃ t, exec (.lockoutEnd) s = .next t ∧
       t.pump = { s.pump.halted .claiming with stray := s.pump.strayAtEntry } ∧
       t.window = { s.window with
           view := .own, claim := .pending, number := s.window.number + 1,
           key := some { hours := s.pump.runSeconds / 3600, station := s.own }, hold := .stopped, patience := .stopped } ∧
       s.Moves t) ∧
    (s.Kept →
     s.operating = true →
     s.pump.state = .lockout →
     s.pump.lockout.due s.lockoutFigure = true →
     s.table.isolated = true →
     (s.balance.demand < s.cfg.isolatedPosition ∨ s.balance.effective = 0) →
     ∃ t, exec (.lockoutEnd) s = .next t ∧
       t.pump = { s.pump.halted .idle with stray := s.pump.strayAtEntry } ∧
       s.Moves t) ∧
    (s.Kept →
     s.operating = true →
     s.pump.state = .lockout →
     s.pump.lockout.due s.lockoutFigure = true →
     s.table.isolated = true →
     s.cfg.isolatedPosition ≤ s.balance.demand →
     1 ≤ s.balance.effective →
     s.own ≠ 0 →
     ∃ t, exec (.lockoutEnd) s = .next t ∧
       t.pump = { s.pump.halted .waiting with stray := s.pump.strayAtEntry, stagger := .running 0 } ∧
       s.Moves t) ∧
    (s.Kept →
     s.operating = true →
     s.pump.state = .lockout →
     s.pump.lockout.due s.lockoutFigure = true →
     s.table.isolated = true →
     s.cfg.isolatedPosition ≤ s.balance.demand →
     1 ≤ s.balance.effective →
     s.own = 0 →
     ∃ t, exec (.lockoutEnd) s = .next t ∧
       t.pump = s.pump.launched ∧
       t.window.viaClaim = false ∧
       s.Moves t)

/-- The feedback, loss and stray-run timers trip the pump. R46, R47, R53, R57, R58, R60, R65, R66, R77, R117. The model's own choices it
rests on: notes/assumptions/1.md, notes/assumptions/8.md, notes/assumptions/19.md, notes/assumptions/45.md. -/
def Obligations.TimersTripThePump : Prop :=
  ∀ (s : State) (c : Instr) (cause : TripCause),
    s.started = true →
    (c = .feedbackTimerExpiry ∧ s.pump.feedback.due (s.cfg.feedbackTime * 1000) = true ∧ s.pump.state = .starting ∧ cause = .startFail) ∨
    (c = .feedbackTimerExpiry ∧ s.pump.feedback.due (s.cfg.feedbackTime * 1000) = true ∧ s.pump.state = .stopping ∧
     s.pump.runFb.active = true ∧ cause = .contactorStuck) ∨
    (c = .lossTimerExpiry ∧ s.pump.loss.due 2000 = true ∧ s.pump.state = .starting ∧ cause = .startFail) ∨
    (c = .lossTimerExpiry ∧ s.pump.loss.due 2000 = true ∧ s.pump.state = .running ∧ cause = .runLost) ∨
    (c = .strayRunExpiry ∧ s.pump.stray.due (s.cfg.feedbackTime * 1000) = true ∧ s.pump.state.strayWatched = true ∧
     cause = .contactorStuck) →
    ∃ t, exec c s = .next t ∧
      t.pump = { s.pump.halted .tripped with latch := some cause } ∧
      t.window = s.windowLeft ∧
      t.link = s.linkLeft .failed ∧
      t.rawOf (tripPoint cause) = true ∧
      s.PointsBut t [tripPoint cause, .overflowRisk] ∧
      s.Moves t ∧
      s.Records t 3 .tripped s.own (pointIndex (tripPoint cause)).val [BitVec.ofNat 32 (pumpStateCode s.pump.state)]

/-- A start that has settled runs. R46, R47, R53, R56, R58, R65, R66, R117. The model's own choices it rests on: notes/assumptions/1.md,
notes/assumptions/8.md, notes/assumptions/19.md, notes/assumptions/45.md. -/
def Obligations.SettledStartRuns : Prop :=
  ∀ (s : State),
    s.Kept →
    s.operating = true →
    s.pump.state = .starting →
    s.pump.settle.due (s.cfg.startSettle * 1000) = true →
    s.lowLowInForce = false →
    0 < s.balance.effective →
    ∃ t, exec (.settleTimerExpiry) s = .next t ∧
      t.pump = { s.pump.halted .running with contactor := true, run := .running 0, loss := s.pump.loss } ∧
      t.window = s.windowLeft ∧
      s.Moves t ∧
      s.PointsBut t [.overflowRisk] ∧
      (s.window.viaClaim = true →
       s.window.claim = .granted →
       t.link = { (s.link.offer (.startDone s.window.number .started)).offer .report with report := .running 0 }) ∧
      ((s.window.viaClaim = false ∨ s.window.claim = .none) → s.QueuesReport t) ∧
      s.Records t 2 .started s.own 10 [BitVec.ofNat 32 s.pump.startCount, BitVec.ofNat 32 s.pump.runHours]

/-- The stop rule at the minimum run and at the end of the stop spacing. R55, R56, R64, R66. The model's own choices it rests on:
notes/assumptions/1.md. -/
def Obligations.DutyStopsFollowTheRule : Prop :=
  ∀ (s : State),
    (s.started = true →
     s.pump.run.due (s.cfg.minimumRun * 1000) = true →
     s.pump.state = .running →
     s.table.isolated = false →
     s.balance.effective < s.table.drawing →
     (s.table.keysOf [.running]).all (fun k => k.better s.ownKey) = true →
     s.pump.spacing.isRunning = false →
     ∃ t, exec (.minimumRunReached) s = .next t ∧
       (s.pump.runFb.active = true → t.pump = { s.pump.halted .stopping with feedback := .running 0, spacing := t.pump.spacing }) ∧
       (s.pump.runFb.active = false → t.pump.state ∈ [.lockout, .inhibited, .tripped]) ∧
       t.pump.contactor = false ∧
       t.window = { s.window with patience := .stopped } ∧
       s.Moves t ∧
       s.PointsBut t [.overflowRisk] ∧
       s.Records t 4 .stopped s.own 0 [BitVec.ofNat 32 s.pump.closedSeconds, BitVec.ofNat 32 s.pump.runHours] ∧
       t.pump.spacing = s.pump.spacing) ∧
    (s.started = true →
     s.pump.run.due (s.cfg.minimumRun * 1000) = true →
     s.pump.state = .running →
     s.table.isolated = true →
     s.balance.demand < s.cfg.isolatedPosition →
     ∃ t, exec (.minimumRunReached) s = .next t ∧
       (s.pump.runFb.active = true → t.pump = { s.pump.halted .stopping with feedback := .running 0, spacing := t.pump.spacing }) ∧
       (s.pump.runFb.active = false → t.pump.state ∈ [.lockout, .inhibited, .tripped]) ∧
       t.pump.contactor = false ∧
       t.window = { s.window with patience := .stopped } ∧
       s.Moves t ∧
       s.PointsBut t [.overflowRisk] ∧
       s.Records t 4 .stopped s.own 0 [BitVec.ofNat 32 s.pump.closedSeconds, BitVec.ofNat 32 s.pump.runHours] ∧
       t.pump.spacing = s.pump.spacing) ∧
    (s.pump.run.due (s.cfg.minimumRun * 1000) = true →
     (s.pump.state ≠ .running ∨ (s.table.isolated = false ∧
       (s.table.drawing ≤ s.balance.effective ∨ (s.table.keysOf [.running]).any (fun k => !k.better s.ownKey) = true ∨
        s.pump.spacing.isRunning = true)) ∨ (s.table.isolated = true ∧ s.cfg.isolatedPosition ≤ s.balance.demand)) →
     ∃ t, exec (.minimumRunReached) s = .next t ∧
       t = { s with pump := { s.pump with run := .reached } }) ∧
    (s.started = true →
     s.pump.spacing.due (s.cfg.stopSpacing * 1000) = true →
     s.pump.run = .reached →
     s.pump.state = .running →
     s.table.isolated = false →
     s.balance.effective < s.table.drawing →
     (s.table.keysOf [.running]).all (fun k => k.better s.ownKey) = true →
     ∃ t, exec (.stopSpacingExpiry) s = .next t ∧
       (s.pump.runFb.active = true → t.pump = { s.pump.halted .stopping with feedback := .running 0, spacing := t.pump.spacing }) ∧
       (s.pump.runFb.active = false → t.pump.state ∈ [.lockout, .inhibited, .tripped]) ∧
       t.pump.contactor = false ∧
       t.window = { s.window with patience := .stopped } ∧
       s.Moves t ∧
       s.PointsBut t [.overflowRisk] ∧
       s.Records t 4 .stopped s.own 0 [BitVec.ofNat 32 s.pump.closedSeconds, BitVec.ofNat 32 s.pump.runHours] ∧
       t.pump.spacing = .stopped) ∧
    (s.pump.spacing.due (s.cfg.stopSpacing * 1000) = true →
     (s.pump.state ≠ .running ∨ s.table.isolated = true ∨ s.pump.run ≠ .reached ∨ s.table.drawing ≤ s.balance.effective ∨
      (s.table.keysOf [.running]).any (fun k => !k.better s.ownKey) = true) →
     ∃ t, exec (.stopSpacingExpiry) s = .next t ∧
       t = { s with pump := { s.pump with spacing := .stopped } })

/-- A granted claim and the end of the stagger start the pump. R52, R64, R65, R115, R117. The model's own choices it rests on:
notes/assumptions/1.md, notes/assumptions/41.md, notes/assumptions/45.md. -/
def Obligations.GrantsAndStaggersStart : Prop :=
  ∀ (s : State),
    (s.window.claim = .holding →
     s.window.hold.due s.cfg.claimHold = true →
     s.pump.state = .claiming →
     s.table.drawing < s.balance.effective →
     s.lowLowInForce = false →
     ∃ t, exec (.claimHoldExpiry) s = .next t ∧
       t.pump = s.pump.launched ∧
       t.window = { s.window with claim := .granted, hold := .stopped, viaClaim := true, patience := .stopped } ∧
       s.Moves t ∧
       (s.started = true → s.QueuesReport t) ∧
       s.PointsBut t [.overflowRisk]) ∧
    (s.Kept →
     s.operating = true →
     s.window.claim = .holding →
     s.window.hold.due s.cfg.claimHold = true →
     s.pump.state = .claiming →
     s.table.isolated = false →
     s.balance.effective ≤ s.table.drawing →
     ∃ t, exec (.claimHoldExpiry) s = .next t ∧
       t.pump = { s.pump.halted .idle with stray := s.pump.strayAtEntry } ∧
       t.window = { s.window with view := .free, claim := .none, hold := .stopped, patience := .stopped } ∧
       t.link = { (s.link.offer (.startDone s.window.number .withdrawn)).offer .report with report := .running 0 } ∧
       s.Moves t ∧
       s.PointsBut t [.overflowRisk]) ∧
    (s.pump.stagger.due (s.own.val * 5000) = true →
     s.pump.state = .waiting →
     s.table.isolated = true →
     s.cfg.isolatedPosition ≤ s.balance.demand →
     1 ≤ s.balance.effective →
     ∃ t, exec (.staggerTimerExpiry) s = .next t ∧
       t.pump = s.pump.launched ∧
       t.window = { s.window with viaClaim := false, patience := .stopped } ∧
       s.Moves t ∧
       (s.started = true → s.QueuesReport t) ∧
       s.PointsBut t [.overflowRisk]) ∧
    (s.pump.stagger.due (s.own.val * 5000) = true →
     s.pump.state = .waiting →
     s.table.isolated = true →
     (s.balance.demand < s.cfg.isolatedPosition ∨ s.balance.effective = 0) →
     ∃ t, exec (.staggerTimerExpiry) s = .next t ∧
       t = s)

/-- RESET_TRIP clears the latch of a tripped pump whose trouble has gone. R48, R49, R60, R69, R76, R160, R164. The model's own choices it
rests on: notes/assumptions/20.md, notes/assumptions/22.md, notes/assumptions/45.md. -/
def Obligations.ResetTripClearsTheLatch : Prop :=
  ∀ (s : State) (src : CommandSource) (cause : TripCause) (address : Byte) (mask : Byte) (argument : Byte) (sender : Station),
    (s.Reaches src →
     s.pump.state = .tripped →
     s.pump.latch = some cause →
     s.pump.faultContact.active = false →
     s.pump.runFb.active = false →
     ∃ t, exec (.resetTrip src) s = .next t ∧
       t.pump = { s.pump.halted (if s.pump.inhibit then .inhibited else .lockout) with
           latch := none, lockout := if s.pump.inhibit then .stopped else .running 0 } ∧
       (cause ≠ .pumpFault → t.rawOf (tripPoint cause) = false) ∧
       s.PointsBut t [tripPoint cause, .overflowRisk, .townSilent] ∧
       s.Records t 14 .commandApplied (src.origin s.own) 1 [BitVec.ofNat 32 src.route, BitVec.ofNat 32 0] ∧
       t.link = s.relayed src .resetTrip { s.link.offer .report with report := .running 0 } ∧
       t.window = { s.window with patience := .stopped } ∧
       ({ s with town := t.town } : State).Moves t ∧
       s.HeardCommand t src) ∧
    (s.Reaches src →
     (s.pump.latch = none ∨ s.pump.faultContact.active = true ∨ s.pump.runFb.active = true) →
     ∃ t, exec (.resetTrip src) s = .next t ∧
       t.pump = s.pump ∧
       t.window = s.window ∧
       t.table = s.table ∧
       t.balance = s.balance ∧
       s.PointsBut t [.townSilent] ∧
       s.Records t 14 .commandApplied (src.origin s.own) 1 [BitVec.ofNat 32 src.route, BitVec.ofNat 32 1] ∧
       t.link = s.relayed src .resetTrip s.link ∧
       ({ s with town := t.town } : State).Moves t ∧
       s.HeardCommand t src) ∧
    (s.Serves address 6 →
     s.operating = true →
     mask.getLsbD s.own.val = false →
     ∃ t, exec (.resetTrip (.town address mask argument)) s = .next t ∧
       t.town = s.answered s.cfg.townAddress 134 false [] ∧
       t.link = s.relayed (.town address mask argument) .resetTrip s.link ∧
       ({ s with town := t.town, link := t.link } : State).AlarmsOnly t ∧
       s.Delivers t .townSilent false ∧
       t.events = s.markValid.events) ∧
    (s.Serves address 6 →
     s.operating = false →
     ∃ t, exec (.resetTrip (.town address mask argument)) s = .next t ∧
       t.town = s.answered s.cfg.townAddress 255 false [3] ∧
       t.link = s.link ∧
       ({ s with town := t.town, link := t.link } : State).AlarmsOnly t ∧
       s.Delivers t .townSilent false ∧
       t.events = s.markValid.events) ∧
    (s.hearsTown = true →
     address = s.cfg.townAddress →
     address ≠ 0 →
     (s.start.phase = .configFault ∨ s.cfg.remote = false) →
     ∃ t, exec (.resetTrip (.town address mask argument)) s = .next t ∧
       t.town = s.answered s.cfg.townAddress 255 false [if s.start.phase = .configFault then 4 else 3] ∧
       t.link = s.link ∧
       ({ s with town := t.town, link := t.link } : State).AlarmsOnly t ∧
       s.Delivers t .townSilent false) ∧
    (s.hearsTown = true →
     address ≠ s.cfg.townAddress →
     ∃ t, exec (.resetTrip (.town address mask argument)) s = .next t ∧
       t = { s with town := { s.town with answer := none } }) ∧
    (s.canReceive = true →
     sender ≠ s.own →
     (¬ (mask.getLsbD s.own.val = true ∧ s.cfg.remote = true ∧ s.operating = true)) →
     ∃ t, exec (.resetTrip (.bayLink sender mask argument)) s = .next t ∧
       t = { s with link := { s.link with lastSender := sender } }) ∧
    (s.canReceive = false →
     ∃ t, exec (.resetTrip (.bayLink sender mask argument)) s = .next t ∧
       t = s)

/-- INHIBIT takes the pump out of duty and RELEASE lets it back through the lockout. R57, R59, R61, R65, R69, R76, R117, R160, R164. The
model's own choices it rests on: notes/assumptions/19.md, notes/assumptions/20.md, notes/assumptions/22.md, notes/assumptions/45.md. -/
def Obligations.InhibitAndReleaseHoldThePump : Prop :=
  ∀ (s : State) (src : CommandSource) (address : Byte) (mask : Byte) (argument : Byte) (sender : Station) (code : CommandCode)
    (c : Instr),
    (s.Reaches src →
     s.pump.inhibit = false →
     ∃ t, exec (.inhibit src) s = .next t ∧
       t.pump.inhibit = true ∧
       t.pump.state =
         (match s.pump.state with
          | .lockout | .idle | .waiting | .claiming => if s.pump.faultContact.active then .tripped else .inhibited
          | .starting | .running =>
              if s.pump.runFb.active then .stopping else if s.pump.faultContact.active then .tripped else .inhibited
          | st => st) ∧
       (s.pump.state ≠ t.pump.state → t.pump.contactor = false) ∧
       (s.pump.state = t.pump.state → t.pump = { s.pump with inhibit := true }) ∧
       (s.pump.state ≠ t.pump.state → t.window = s.windowLeft) ∧
       (s.pump.state ≠ t.pump.state → t.link = s.relayed src .inhibit (s.linkLeft .withdrawn)) ∧
       (s.pump.state = t.pump.state → t.link = s.relayed src .inhibit s.link ∧ t.window = s.window) ∧
       ({ s with town := t.town } : State).Moves t ∧
       s.PointsBut t [.overflowRisk, .townSilent] ∧
       s.Records t 14 .commandApplied (src.origin s.own) 4 [BitVec.ofNat 32 src.route, BitVec.ofNat 32 0] ∧
       s.HeardCommand t src) ∧
    (s.Reaches src →
     s.pump.inhibit = true →
     ∃ t, exec (.inhibit src) s = .next t ∧
       t.pump = s.pump ∧
       t.window = s.window ∧
       ({ s with town := t.town } : State).Moves t ∧
       s.PointsBut t [.townSilent] ∧
       s.Records t 14 .commandApplied (src.origin s.own) 4 [BitVec.ofNat 32 src.route, BitVec.ofNat 32 1] ∧
       t.link = s.relayed src .inhibit s.link ∧
       s.HeardCommand t src) ∧
    (s.Reaches src →
     s.pump.inhibit = true →
     s.pump.state = .inhibited →
     ∃ t, exec (.release src) s = .next t ∧
       (s.pump.faultContact.active = false →
        t.pump = { s.pump.halted .lockout with inhibit := false, lockout := .running 0, stray := s.pump.strayAtEntry }) ∧
       (s.pump.faultContact.active = true → t.pump = { s.pump.halted .tripped with inhibit := false, latch := some .pumpFault }) ∧
       t.link = s.relayed src .release { s.link.offer .report with report := .running 0 } ∧
       t.window = { s.window with patience := .stopped } ∧
       ({ s with town := t.town } : State).Moves t ∧
       s.PointsBut t [.overflowRisk, .townSilent] ∧
       s.Records t 14 .commandApplied (src.origin s.own) 5 [BitVec.ofNat 32 src.route, BitVec.ofNat 32 0] ∧
       s.HeardCommand t src) ∧
    (s.Reaches src →
     s.pump.inhibit = true →
     s.pump.state ≠ .inhibited →
     ∃ t, exec (.release src) s = .next t ∧
       t.pump = { s.pump with inhibit := false } ∧
       t.window = s.window ∧
       ({ s with town := t.town } : State).Moves t ∧
       s.PointsBut t [.townSilent] ∧
       s.Records t 14 .commandApplied (src.origin s.own) 5 [BitVec.ofNat 32 src.route, BitVec.ofNat 32 0] ∧
       t.link = s.relayed src .release s.link ∧
       s.HeardCommand t src) ∧
    (s.Reaches src →
     s.pump.inhibit = false →
     ∃ t, exec (.release src) s = .next t ∧
       t.pump = s.pump ∧
       t.window = s.window ∧
       ({ s with town := t.town } : State).Moves t ∧
       s.PointsBut t [.townSilent] ∧
       s.Records t 14 .commandApplied (src.origin s.own) 5 [BitVec.ofNat 32 src.route, BitVec.ofNat 32 1] ∧
       t.link = s.relayed src .release s.link ∧
       s.HeardCommand t src) ∧
    ((c = .inhibit (.town address mask argument) ∧ code = .inhibit ∨ c = .release (.town address mask argument) ∧ code = .release) →
     s.Serves address 6 →
     s.operating = true →
     mask.getLsbD s.own.val = false →
     ∃ t, exec c s = .next t ∧
       t.town = s.answered s.cfg.townAddress 134 false [] ∧
       t.link = s.relayed (.town address mask argument) code s.link ∧
       ({ s with town := t.town, link := t.link } : State).AlarmsOnly t ∧
       s.Delivers t .townSilent false ∧
       t.events = s.markValid.events) ∧
    ((c = .inhibit (.town address mask argument) ∧ code = .inhibit ∨ c = .release (.town address mask argument) ∧ code = .release) →
     s.Serves address 6 →
     s.operating = false →
     ∃ t, exec c s = .next t ∧
       t.town = s.answered s.cfg.townAddress 255 false [3] ∧
       t.link = s.link ∧
       ({ s with town := t.town, link := t.link } : State).AlarmsOnly t ∧
       s.Delivers t .townSilent false ∧
       t.events = s.markValid.events) ∧
    ((c = .inhibit (.town address mask argument) ∧ code = .inhibit ∨ c = .release (.town address mask argument) ∧ code = .release) →
     s.hearsTown = true →
     address = s.cfg.townAddress →
     address ≠ 0 →
     (s.start.phase = .configFault ∨ s.cfg.remote = false) →
     ∃ t, exec c s = .next t ∧
       t.town = s.answered s.cfg.townAddress 255 false [if s.start.phase = .configFault then 4 else 3] ∧
       t.link = s.link ∧
       ({ s with town := t.town, link := t.link } : State).AlarmsOnly t ∧
       s.Delivers t .townSilent false) ∧
    ((c = .inhibit (.town address mask argument) ∧ code = .inhibit ∨ c = .release (.town address mask argument) ∧ code = .release) →
     s.hearsTown = true →
     address ≠ s.cfg.townAddress →
     ∃ t, exec c s = .next t ∧
       t = { s with town := { s.town with answer := none } }) ∧
    ((c = .inhibit (.bayLink sender mask argument) ∧ code = .inhibit ∨ c = .release (.bayLink sender mask argument) ∧ code = .release) →
     s.canReceive = true →
     sender ≠ s.own →
     (¬ (mask.getLsbD s.own.val = true ∧ s.cfg.remote = true ∧ s.operating = true)) →
     ∃ t, exec c s = .next t ∧
       t = { s with link := { s.link with lastSender := sender } }) ∧
    ((c = .inhibit (.bayLink sender mask argument) ∨ c = .release (.bayLink sender mask argument)) →
     s.canReceive = false →
     ∃ t, exec c s = .next t ∧
       t = s)

/-- RAKE_NOW triggers the rake and RESET_RAKE clears its latch. R69, R76, R125, R127, R132, R160, R164. The model's own choices it rests
on: notes/assumptions/1.md, notes/assumptions/20.md, notes/assumptions/22.md. -/
def Obligations.RakeCommandsStartAndReset : Prop :=
  ∀ (s : State) (src : CommandSource) (address : Byte) (mask : Byte) (argument : Byte) (sender : Station) (code : CommandCode)
    (c : Instr),
    (s.Reaches src →
     s.screenRuns = true →
     s.screen.rake = .rakeIdle →
     s.screen.rest.isRunning = false →
     s.screen.overload.active = false →
     ∃ t, exec (.rakeNow src) s = .next t ∧
       t.screen = s.screen.cycling .command s.cfg.rakeInterval ∧
       s.PointsBut t [.townSilent] ∧
       s.Records t 14 .commandApplied (src.origin s.own) 2 [BitVec.ofNat 32 src.route, BitVec.ofNat 32 0] ∧
       t.link = s.relayed src .rakeNow s.link ∧
       t.pump = s.pump ∧
       t.window = s.window ∧
       t.table = s.table ∧
       t.balance = s.balance ∧
       ({ s with town := t.town, screen := t.screen } : State).Moves t ∧
       s.HeardCommand t src) ∧
    (s.Reaches src →
     s.screenRuns = true →
     (s.screen.rake ≠ .rakeIdle ∨ s.screen.rest.isRunning = true) →
     ∃ t, exec (.rakeNow src) s = .next t ∧
       t.screen = { s.screen with pendingFlag := true, pendingCause := .command } ∧
       s.PointsBut t [.townSilent] ∧
       s.Records t 14 .commandApplied (src.origin s.own) 2 [BitVec.ofNat 32 src.route, BitVec.ofNat 32 0] ∧
       t.link = s.relayed src .rakeNow s.link ∧
       t.pump = s.pump ∧
       t.window = s.window ∧
       t.table = s.table ∧
       t.balance = s.balance ∧
       ({ s with town := t.town, screen := t.screen } : State).Moves t ∧
       s.HeardCommand t src) ∧
    (s.Reaches src →
     s.screenRuns = false →
     ∃ t, exec (.rakeNow src) s = .next t ∧
       t.screen = s.screen ∧
       s.PointsBut t [.townSilent] ∧
       s.Records t 14 .commandApplied (src.origin s.own) 2 [BitVec.ofNat 32 src.route, BitVec.ofNat 32 1] ∧
       t.link = s.relayed src .rakeNow s.link ∧
       t.pump = s.pump ∧
       t.window = s.window ∧
       t.table = s.table ∧
       t.balance = s.balance ∧
       ({ s with town := t.town, screen := t.screen } : State).Moves t ∧
       s.HeardCommand t src) ∧
    (s.Reaches src →
     s.screenRuns = true →
     (s.screen.rake = .jammed ∨ s.screen.rake = .fault) →
     s.screen.pendingFlag = false →
     ∃ t, exec (.resetRake src) s = .next t ∧
       t.screen = { s.screen with
           rake := .rakeIdle, forwardOut := false, reverseOut := false, overloads := 0, camArmed := false, rest := .stopped } ∧
       t.rawOf .rakeJammed = false ∧
       t.rawOf .rakeFault = false ∧
       s.PointsBut t [.rakeJammed, .rakeFault, .townSilent] ∧
       s.Records t 14 .commandApplied (src.origin s.own) 3 [BitVec.ofNat 32 src.route, BitVec.ofNat 32 0] ∧
       t.link = s.relayed src .resetRake s.link ∧
       t.pump = s.pump ∧
       t.window = s.window ∧
       t.table = s.table ∧
       t.balance = s.balance ∧
       ({ s with town := t.town, screen := t.screen } : State).Moves t ∧
       s.HeardCommand t src) ∧
    (s.Reaches src →
     s.screenRuns = true →
     (s.screen.rake = .jammed ∨ s.screen.rake = .fault) →
     s.screen.pendingFlag = true →
     s.screen.overload.active = false →
     ∃ t, exec (.resetRake src) s = .next t ∧
       t.screen = { s.screen.cycling s.screen.pendingCause s.cfg.rakeInterval with rest := .stopped } ∧
       t.rawOf .rakeJammed = false ∧
       t.rawOf .rakeFault = false ∧
       s.PointsBut t [.rakeJammed, .rakeFault, .townSilent] ∧
       s.Records t 14 .commandApplied (src.origin s.own) 3 [BitVec.ofNat 32 src.route, BitVec.ofNat 32 0] ∧
       t.link = s.relayed src .resetRake s.link ∧
       t.pump = s.pump ∧
       t.window = s.window ∧
       t.table = s.table ∧
       t.balance = s.balance ∧
       ({ s with town := t.town, screen := t.screen } : State).Moves t ∧
       s.HeardCommand t src) ∧
    (s.Reaches src →
     (s.screenRuns = false ∨ (s.screen.rake ≠ .jammed ∧ s.screen.rake ≠ .fault)) →
     ∃ t, exec (.resetRake src) s = .next t ∧
       t.screen = s.screen ∧
       s.PointsBut t [.townSilent] ∧
       s.Records t 14 .commandApplied (src.origin s.own) 3 [BitVec.ofNat 32 src.route, BitVec.ofNat 32 1] ∧
       t.link = s.relayed src .resetRake s.link ∧
       t.pump = s.pump ∧
       t.window = s.window ∧
       t.table = s.table ∧
       t.balance = s.balance ∧
       ({ s with town := t.town, screen := t.screen } : State).Moves t ∧
       s.HeardCommand t src) ∧
    ((c = .rakeNow (.town address mask argument) ∧ code = .rakeNow ∨ c = .resetRake (.town address mask argument) ∧ code = .resetRake) →
     s.Serves address 6 →
     s.operating = true →
     mask.getLsbD s.own.val = false →
     ∃ t, exec c s = .next t ∧
       t.town = s.answered s.cfg.townAddress 134 false [] ∧
       t.link = s.relayed (.town address mask argument) code s.link ∧
       ({ s with town := t.town, link := t.link } : State).AlarmsOnly t ∧
       s.Delivers t .townSilent false ∧
       t.events = s.markValid.events) ∧
    ((c = .rakeNow (.town address mask argument) ∧ code = .rakeNow ∨ c = .resetRake (.town address mask argument) ∧ code = .resetRake) →
     s.Serves address 6 →
     s.operating = false →
     ∃ t, exec c s = .next t ∧
       t.town = s.answered s.cfg.townAddress 255 false [3] ∧
       t.link = s.link ∧
       ({ s with town := t.town, link := t.link } : State).AlarmsOnly t ∧
       s.Delivers t .townSilent false ∧
       t.events = s.markValid.events) ∧
    ((c = .rakeNow (.town address mask argument) ∧ code = .rakeNow ∨ c = .resetRake (.town address mask argument) ∧ code = .resetRake) →
     s.hearsTown = true →
     address = s.cfg.townAddress →
     address ≠ 0 →
     (s.start.phase = .configFault ∨ s.cfg.remote = false) →
     ∃ t, exec c s = .next t ∧
       t.town = s.answered s.cfg.townAddress 255 false [if s.start.phase = .configFault then 4 else 3] ∧
       t.link = s.link ∧
       ({ s with town := t.town, link := t.link } : State).AlarmsOnly t ∧
       s.Delivers t .townSilent false) ∧
    ((c = .rakeNow (.town address mask argument) ∧ code = .rakeNow ∨ c = .resetRake (.town address mask argument) ∧ code = .resetRake) →
     s.hearsTown = true →
     address ≠ s.cfg.townAddress →
     ∃ t, exec c s = .next t ∧
       t = { s with town := { s.town with answer := none } }) ∧
    ((c = .rakeNow (.bayLink sender mask argument) ∧ code = .rakeNow ∨
      c = .resetRake (.bayLink sender mask argument) ∧ code = .resetRake) →
     s.canReceive = true →
     sender ≠ s.own →
     (¬ (mask.getLsbD s.own.val = true ∧ s.cfg.remote = true ∧ s.operating = true)) →
     ∃ t, exec c s = .next t ∧
       t = { s with link := { s.link with lastSender := sender } }) ∧
    ((c = .rakeNow (.bayLink sender mask argument) ∨ c = .resetRake (.bayLink sender mask argument)) →
     s.canReceive = false →
     ∃ t, exec c s = .next t ∧
       t = s)

/-- The slot of the station's position starts the chosen frame. R1, R70, R75, R78, R79, R124, R145. The model's own choices it rests on:
notes/assumptions/12.md, notes/assumptions/20.md, notes/assumptions/31.md. -/
def Obligations.SlotsStartTheChosenFrame : Prop :=
  ∀ (s : State) (e : TxEntry) (rest : List TxEntry) (slot : Nat) (p : Nat),
    (s.canReceive = true →
     s.link.queue = e :: rest →
     p = (if e.attempts = 0 then (((s.own.val : Int) - s.link.lastSender.val - 1) % 8).toNat + 1 else s.own.val + 9) →
     p ≤ slot →
     (slot - p) % 16 = 0 →
     e.body ≠ .report →
     ∃ t, exec (.transmitSlot slot) s = .next t ∧
       t = { s with link := { s.link with sending := t.link.sending } } ∧
       t.link.sending =
         some
           (match e.body with
            | .startClaim n h => .startClaim n h
            | .startDone n o => .startDone n o
            | .command m k a => .command m k a
            | .time => .time s.clock.seconds
            | .report => .report (s.buildReport 0))) ∧
    (s.canReceive = true →
     s.link.queue = e :: rest →
     p = (if e.attempts = 0 then (((s.own.val : Int) - s.link.lastSender.val - 1) % 8).toNat + 1 else s.own.val + 9) →
     p ≤ slot →
     (slot - p) % 16 = 0 →
     e.body = .report →
     rest = [] →
     ∃ t, exec (.transmitSlot slot) s = .next t ∧
       t = { s with
           link :=
             { s.link with
               queue := [{ e with sequence := some (e.sequence.getD s.link.sequence) }],
               sequence := if e.sequence.isSome then s.link.sequence else s.link.sequence + 1, sending := t.link.sending } } ∧
       t.link.sending =
         some
           (.report
              {
                sequence := e.sequence.getD s.link.sequence, configured := s.start.phase != .configFault, timeSync := s.clock.sync,
                isolated := s.table.isolated, generator := s.table.generator.active, inhibited := s.pump.inhibit,
                flowing := s.pump.runFb.active, pumpState := s.pump.state, quality := s.chanW.offeredQuality,
                level := BitVec.ofInt 16 (s.chanW.offeredLevel.getD 0), runHours := BitVec.ofNat 16 (s.pump.runSeconds / 3600),
                ratedFlow := BitVec.ofNat 16 s.cfg.ratedFlow, summary := s.alarms.summary, demand := BitVec.ofNat 4 s.balance.demand,
                effective := BitVec.ofNat 4 s.balance.effective,
                screen :=
                  if s.cfg.role = .screen ∧ s.start.phase ≠ .configFault then
                    some
                      {
                        condition := s.screen.condition, rake := s.screen.rake,
                        delta := if s.screen.condition = .unknown then 0x8000#16 else signedHalf s.screen.delta,
                        limit := BitVec.ofNat 8 s.screen.limit }
                  else none,
                weir :=
                  if s.cfg.role = .weir ∧ s.start.phase ≠ .configFault then
                    some
                      {
                        state := s.spill.state, head := signedHalf s.spill.head, number := BitVec.ofNat 16 s.spill.number,
                        volume :=
                          BitVec.ofNat 24
                            (match s.spill.list.find? (fun r => s.spill.number != 0 && r.number == s.spill.number) with
                             | some r => r.volume / 1000
                             | none => 0) }
                  else none })) ∧
    (s.canReceive = true →
     s.link.queue = e :: rest →
     p = (if e.attempts = 0 then (((s.own.val : Int) - s.link.lastSender.val - 1) % 8).toNat + 1 else s.own.val + 9) →
     (slot < p ∨ (slot - p) % 16 ≠ 0) →
     ∃ t, exec (.transmitSlot slot) s = .next t ∧
       t = s)

/-- A frame that has gone out leaves the queue and makes its sender the last one. R74, R76, R77, R105, R114, R117. The model's own choices
it rests on: notes/assumptions/19.md, notes/assumptions/31.md, notes/assumptions/45.md. -/
def Obligations.SentFramesLeaveTheQueue : Prop :=
  ∀ (s : State) (body : FrameBody) (b : TxBody) (n : Byte) (h : Half) (o : ClaimOutcome),
    (s.link.sending = some body →
     s.link.heldOffer = none →
     (body.cls ≠ 1 ∧ body.cls ≠ 2) →
     ∃ t, exec (.frameSent) s = .next t ∧
       t = { s with
           link :=
             { s.link with queue := s.link.queue.filter (fun x => x.body.cls != body.cls), sending := none, lastSender := s.own } }) ∧
    (s.link.sending = some body →
     s.link.heldOffer = some b →
     (body.cls ≠ 1 ∧ body.cls ≠ 2) →
     ∃ t, exec (.frameSent) s = .next t ∧
       t = { s with
           link :=
               (  { s.link with
                    queue := s.link.queue.filter (fun x => x.body.cls != body.cls), sending := none, lastSender := s.own,
                    heldOffer := none } : Link).offer b }) ∧
    (s.link.sending = some body →
     s.link.heldOffer = none →
     body.cls = 1 →
     s.link.closing = none →
     s.window.claim = .pending →
     ∃ t, exec (.frameSent) s = .next t ∧
       t = { s with
           link :=
             { s.link with queue := s.link.queue.filter (fun x => x.body.cls != body.cls), sending := none, lastSender := s.own },
           window := { s.window with claim := .holding, hold := .running 0 } }) ∧
    (s.link.sending = some body →
     s.link.heldOffer = none →
     body.cls = 1 →
     s.link.closing = none →
     s.window.claim ≠ .pending →
     ∃ t, exec (.frameSent) s = .next t ∧
       t = { s with
           link :=
             { s.link with queue := s.link.queue.filter (fun x => x.body.cls != body.cls), sending := none, lastSender := s.own } }) ∧
    (s.link.sending = some body →
     s.link.heldOffer = none →
     body.cls = 1 →
     s.link.closing = some (n, o) →
     ∃ t, exec (.frameSent) s = .next t ∧
       t.link.queue.any (fun x => x.body = .startDone n o) = true ∧
       t.link.sending = none ∧
       t.link.lastSender = s.own ∧
       t.link.closing = none ∧
       (t.window = s.window.released ∧ t.pump = s.pump ∨
        s.pump.state = .waiting ∧ t.window.view = .own ∧ t.window.claim = .pending ∧ t.window.number = s.window.number + 1 ∧
        t.pump.state = .claiming) ∧
       (s.pump.state ≠ .waiting →
        t = { s with
            window := s.window.released,
            link :=
                (  { s.link with
                     queue := s.link.queue.filter (fun x => x.body.cls != body.cls), sending := none, lastSender := s.own,
                     closing := none } : Link).offer (.startDone n o) }) ∧
       s.Moves t ∧
       s.PointsBut t [.overflowRisk]) ∧
    (s.link.sending = some body →
     s.link.heldOffer = none →
     body.cls = 2 →
     s.link.heldClaim = none →
     ∃ t, exec (.frameSent) s = .next t ∧
       t = { s with
           link :=
             { s.link with queue := s.link.queue.filter (fun x => x.body.cls != body.cls), sending := none, lastSender := s.own } }) ∧
    (s.link.sending = some body →
     s.link.heldOffer = none →
     body.cls = 2 →
     s.link.heldClaim = some (n, h) →
     ∃ t, exec (.frameSent) s = .next t ∧
       t = { s with link := { s.link with queue := t.link.queue, sending := none, lastSender := s.own, heldClaim := none } } ∧
       (t.link.queue.head?.map TxEntry.body) = some (.startClaim n h) ∧
       (t.link.queue.filter fun x => x.body.cls != 1) = (s.link.queue.filter fun x => x.body.cls != 1 && x.body.cls != 2))

/-- An echo failure counts, and the fourth drops the frame but for START DONE. R72, R73, R76, R77, R84, R105, R114, R117. The model's own
choices it rests on: notes/assumptions/18.md, notes/assumptions/19.md, notes/assumptions/31.md, notes/assumptions/45.md. -/
def Obligations.EchoFailuresCountToFour : Prop :=
  ∀ (s : State) (body : FrameBody) (e : TxEntry) (b : TxBody) (w : Byte × ClaimOutcome),
    (s.started = true →
     s.QueueInClassOrder →
     s.link.sending = some body →
     s.link.heldOffer = none →
     e ∈ s.link.queue →
     e.body.cls = body.cls →
     s.link.closing = none →
     e.attempts < 3 →
     ∃ t, exec (.echoFailure) s = .next t ∧
       t = { s with
           link :=
             { s.link with
               sending := none, txErrors := min 65535 (s.link.txErrors + 1),
               queue := s.link.queue.map (fun x => if x.body.cls = body.cls then { x with attempts := x.attempts + 1 } else x) } }) ∧
    (s.started = true →
     s.QueueInClassOrder →
     s.link.sending = some body →
     s.link.heldOffer = none →
     e ∈ s.link.queue →
     e.body.cls = body.cls →
     s.link.closing = none →
     3 ≤ e.attempts →
     (body.cls ≠ 1 ∧ body.cls ≠ 2) →
     ∃ t, exec (.echoFailure) s = .next t ∧
         (  { s with
              link :=
                { s.link with
                  sending := none, txErrors := min 65535 (s.link.txErrors + 1), failure := .running 0,
                  queue := s.link.queue.filter (fun x => x.body.cls != body.cls) } } : State).AlarmsOnly t ∧
       s.Delivers t .bayTxFail true) ∧
    (s.started = true →
     s.QueueInClassOrder →
     s.link.sending = some body →
     s.link.heldOffer = none →
     e ∈ s.link.queue →
     e.body.cls = body.cls →
     s.link.closing = none →
     3 ≤ e.attempts →
     body.cls = 2 →
     ∃ t, exec (.echoFailure) s = .next t ∧
         (  { s with
              link :=
                { s.link with
                  sending := none, txErrors := min 65535 (s.link.txErrors + 1), failure := .running 0,
                  queue := s.link.queue.map (fun x => if x.body.cls = 2 then { x with attempts := 0 } else x) } } : State).AlarmsOnly t ∧
       s.Delivers t .bayTxFail true) ∧
    (s.started = true →
     s.QueueInClassOrder →
     s.link.sending = some body →
     s.link.heldOffer = none →
     e ∈ s.link.queue →
     e.body.cls = body.cls →
     s.link.closing = none →
     3 ≤ e.attempts →
     body.cls = 1 →
     s.window.claim ≠ .pending →
     ∃ t, exec (.echoFailure) s = .next t ∧
         (  { s with
              link :=
                { s.link with
                  sending := none, txErrors := min 65535 (s.link.txErrors + 1), failure := .running 0,
                  queue := s.link.queue.filter (fun x => x.body.cls != 1) } } : State).AlarmsOnly t ∧
       s.Delivers t .bayTxFail true) ∧
    (s.started = true →
     s.QueueInClassOrder →
     s.link.sending = some body →
     s.link.heldOffer = none →
     e ∈ s.link.queue →
     e.body.cls = body.cls →
     s.link.closing = none →
     3 ≤ e.attempts →
     body.cls = 1 →
     s.window.claim = .pending →
     s.pump.state ≠ .claiming →
     ∃ t, exec (.echoFailure) s = .next t ∧
         (  { s with
              window := s.window.released,
              link :=
                { s.link with
                  sending := none, txErrors := min 65535 (s.link.txErrors + 1), failure := .running 0,
                  queue := s.link.queue.filter (fun x => x.body.cls != 1) } } : State).AlarmsOnly t ∧
       s.Delivers t .bayTxFail true) ∧
    (s.started = true →
     s.QueueInClassOrder →
     s.link.sending = some body →
     s.link.heldOffer = none →
     e ∈ s.link.queue →
     e.body.cls = body.cls →
     s.link.closing = none →
     3 ≤ e.attempts →
     body.cls = 1 →
     s.window.claim = .pending →
     s.pump.state = .claiming →
     ∃ t, exec (.echoFailure) s = .next t ∧
       t.rawOf .bayTxFail = true ∧
       s.PointsBut t [.bayTxFail, .overflowRisk] ∧
       t.link.failure = .running 0 ∧
       s.Moves t ∧
       (t.window.claim = .none ∧ t.window.view = .free ∧ t.pump.state ∈ [.waiting, .idle, .starting] ∨
        t.window.claim = .pending ∧ t.window.view = .own ∧ t.pump.state = .claiming ∧ t.window.number = s.window.number + 1) ∧
       (t.window.claim = .none → t.link.queue.all (fun x => x.body.cls != 1) = true) ∧
       (t.link.queue.filter fun x => x.body.cls == 2) = (s.link.queue.filter fun x => x.body.cls == 2) ∧
       t.link.closing = none ∧
       t.link.heldOffer = none ∧
       t.link.sending = none ∧
       t.link.txErrors = min 65535 (s.link.txErrors + 1)) ∧
    (s.started = true →
     s.QueueInClassOrder →
     s.link.sending = some body →
     s.link.heldOffer = none →
     e ∈ s.link.queue →
     e.body.cls = body.cls →
     s.link.closing = some w →
     body.cls = 1 →
     ∃ t, exec (.echoFailure) s = .next t ∧
       (e.attempts < 3 → t.rawOf .bayTxFail = s.rawOf .bayTxFail ∧ t.link.failure = s.link.failure) ∧
       (3 ≤ e.attempts → t.rawOf .bayTxFail = true ∧ t.link.failure = .running 0) ∧
       s.PointsBut t [.bayTxFail, .overflowRisk] ∧
       s.Moves t ∧
       (t.window = s.window.released ∧ t.pump = s.pump ∨
        s.pump.state = .waiting ∧ t.window.view = .own ∧ t.window.claim = .pending ∧ t.window.number = s.window.number + 1 ∧
        t.pump.state = .claiming) ∧
       (t.window.claim = .none → t.link.queue.all (fun x => x.body.cls != 1) = true) ∧
       (t.link.queue.filter fun x => x.body.cls == 2) = (s.link.queue.filter fun x => x.body.cls == 2) ∧
       t.link.closing = none ∧
       t.link.heldOffer = none ∧
       t.link.sending = none ∧
       t.link.txErrors = min 65535 (s.link.txErrors + 1)) ∧
    (s.started = true →
     s.QueueInClassOrder →
     s.link.sending = some body →
     s.link.heldOffer = none →
     e ∈ s.link.queue →
     e.body.cls = body.cls →
     s.link.closing = some w →
     body.cls ≠ 1 →
     ∃ t, exec (.echoFailure) s = .next t ∧
       ∃ u,
         exec .echoFailure { s with link := { s.link with closing := none } } = .next u ∧
         t = { u with link := { u.link with closing := some w } }) ∧
    (s.link.sending = some body →
     s.link.heldOffer = some b →
     ∃ t, exec (.echoFailure) s = .next t ∧
       ∃ u, exec .echoFailure { s with link := { s.link with heldOffer := none } } = .next u ∧ t = { u with link := u.link.offer b })

/-- The report timer, the first idle gap and the duplicate timer. R68, R78, R82, R84, R85, R98. The model's own choices it rests on:
notes/assumptions/1.md, notes/assumptions/8.md, notes/assumptions/45.md. -/
def Obligations.LinkTimersRun : Prop :=
  ∀ (s : State),
    (s.started = true →
     s.link.report.due s.cfg.reportInterval = true →
     ∃ t, exec (.reportTimerExpiry) s = .next t ∧
       t = { s with link := { s.link.offer .report with report := .running 0 } }) ∧
    (s.started = true →
     ∃ t, exec (.firstIdleGap) s = .next t ∧
       t = { s with link := { s.link with listening := true } }) ∧
    (s.started = true →
     s.link.duplicate.due 30000 = true →
     s.start.phase ≠ .configFault →
     s.cfg.houseSize ≠ 1 →
     ∃ t, exec (.duplicateTimerExpiry) s = .next t ∧
       ({ s with link := { s.link with duplicate := .stopped } } : State).AlarmsOnly t ∧
       s.Delivers t .duplicateId false) ∧
    (s.started = true →
     s.link.duplicate.due 30000 = true →
     (s.start.phase = .configFault ∨ s.cfg.houseSize = 1) →
     s.table.isolated = true →
     ∃ t, exec (.duplicateTimerExpiry) s = .next t ∧
       t.link.duplicate = .stopped ∧
       t.rawOf .duplicateId = false ∧
       t.rawOf .isolated = false ∧
       t.table.isolated = false ∧
       t.table.cause = .none ∧
       s.PointsBut t [.duplicateId, .isolated, .overflowRisk] ∧
       ({ s with table := { s.table with isolated := false, cause := .none } } : State).Moves t ∧
       (s.pump.state = .running → t.pump.contactor = true → t.pump.state = .running))

/-- A frame that fails a check is only counted, and one with the own number isolates. R69, R80, R82, R93, R97, R99. The reading of frames
longer than 32 characters is notes/assumptions/21.md. The model's own choices it rests on: notes/assumptions/20.md,
notes/assumptions/21.md, notes/assumptions/22.md. -/
def Obligations.DiscardedAndOwnFrames : Prop :=
  ∀ (s : State) (bytes : List Byte) (framing : Bool),
    (s.canReceive = true →
     (framing = true ∨ bytes.length < 5 ∨ 30 < bytes.length ∨ crc bytes ≠ 0) →
     ∃ t, exec (.badFrame bytes framing) s = .next t ∧
       t = { s with link := { s.link with rxErrors := min 65535 (s.link.rxErrors + 1), lastSender := t.link.lastSender } } ∧
       ((bytes.length < 5 ∨ 32 < bytes.length ∨ crc bytes ≠ 0) → t.link.lastSender = s.link.lastSender) ∧
       (5 ≤ bytes.length →
        bytes.length ≤ 32 →
        crc bytes = 0 →
        (∀ p : Station, bytes[1]? = some (BitVec.ofNat 8 p.val) → t.link.lastSender = p) ∧
        ((∀ p : Station, bytes[1]? ≠ some (BitVec.ofNat 8 p.val)) → t.link.lastSender = s.link.lastSender))) ∧
    (s.canReceive = true →
     s.link.duplicate.isRunning = true →
     ∃ t, exec (.ownNumberFrame) s = .next t ∧
       t = { s with link := { s.link with lastSender := s.own, duplicate := .running 0 } }) ∧
    (s.canReceive = true →
     s.link.duplicate.isRunning = false →
     ∃ t, exec (.ownNumberFrame) s = .next t ∧
       t.link.lastSender = s.own ∧
       t.link.duplicate = .running 0 ∧
       t.rawOf .duplicateId = true ∧
       t.table.isolated = true ∧
       t.table.cause = .duplicate ∧
       (s.table.isolated = false → t.rawOf .isolated = true) ∧
       (s.working = true → s.table.isolated = false → t.CountsCurrent ∧ t.table.available = 1) ∧
       (s.table.isolated = false → s.pump.state = .claiming → s.window.claim ≠ .none → t.window.claim = .none) ∧
       s.PointsBut t [.duplicateId, .isolated, .overflowRisk] ∧
       ({ s with table := { s.table with isolated := true, cause := .duplicate } } : State).Moves t)

/-- A good REPORT from a peer is stored and the house values follow. R49, R69, R81, R86 to R90, R96 to R98, R100, R101, R110. The last
clause is stated where no own claim can intervene. The model's own choices it rests on: notes/assumptions/8.md, notes/assumptions/9.md,
notes/assumptions/20.md, notes/assumptions/39.md. -/
def Obligations.ReportsFillTheTable : Prop :=
  ∀ (s : State) (sender : Station) (r : Report),
    s.TakesFrom sender →
    ∃ t, exec (.report sender r) s = .next t ∧
      t.link.lastSender = sender ∧
      (t.table.entry sender = {
           state := .fresh, last := some r, age := .running 0, release := .stopped,
           missed :=
             (match (s.table.entry sender).state, (s.table.entry sender).last with
              | .fresh, some old | .stale, some old =>
                  if (r.pumpState = .startup ∨ r.pumpState = .unconfigured) ∧
                     ((old.pumpState ≠ .startup ∧ old.pumpState ≠ .unconfigured) ∨ (r.sequence = 0 ∧ old.sequence ≠ 0)) then
                    (s.table.entry sender).missed
                  else min 65535 ((s.table.entry sender).missed + ((r.sequence - old.sequence).toNat - 1))
              | _, _ => (s.table.entry sender).missed),
           lastHeard := some { seconds := s.clock.seconds, sync := s.clock.sync }, lostAt := none }) ∧
      (∀ p, p ≠ sender → t.table.entry p = s.table.entry p) ∧
      t.table.silence = (if s.start.phase = .operating then .running 0 else s.table.silence) ∧
      t.table.generator = s.table.generator ∧
      t.pump.spacing =
        (if ((s.table.entry sender).last.map Report.pumpState) = some .running ∧ r.pumpState = .stopping then
           .running 0
         else s.pump.spacing) ∧
      (s.cfg.houseReporter = s.own.val →
       ((s.table.entry sender).state = .empty →
        s.Records t 16 .peerJoined sender (pumpStateCode r.pumpState) [0, r.summary.setWidth 32]) ∧
       ((s.table.entry sender).state = .lost →
        s.Records t 16 .peerJoined sender (pumpStateCode r.pumpState) [1, r.summary.setWidth 32])) ∧
      (∀ old,
         (s.table.entry sender).last = some old →
         s.cfg.houseReporter = s.own.val →
         ((s.table.entry sender).state = .fresh ∨ (s.table.entry sender).state = .stale) →
         (((r.pumpState = .startup ∨ r.pumpState = .unconfigured) ∧
           ((old.pumpState ≠ .startup ∧ old.pumpState ≠ .unconfigured) ∨ (r.sequence = 0 ∧ old.sequence ≠ 0))) →
          s.Records t 16 .peerJoined sender (pumpStateCode r.pumpState) [2, r.summary.setWidth 32]) ∧ (¬
            ((r.pumpState = .startup ∨ r.pumpState = .unconfigured) ∧
             ((old.pumpState ≠ .startup ∧ old.pumpState ≠ .unconfigured) ∨ (r.sequence = 0 ∧ old.sequence ≠ 0))) →
          old.summary ≠ r.summary →
          s.Records t 16 .peerAlarm sender (pumpStateCode r.pumpState) [old.summary.setWidth 32, r.summary.setWidth 32]) ∧ (∀ was,
            old.weir = some was →
            ∀ now,
              r.weir = some now →
              ¬
                ((r.pumpState = .startup ∨ r.pumpState = .unconfigured) ∧
                 ((old.pumpState ≠ .startup ∧ old.pumpState ≠ .unconfigured) ∨ (r.sequence = 0 ∧ old.sequence ≠ 0))) →
              (was.state = .spilling ∨ was.state = .ending) →
              now.state = .none →
              now.number = was.number →
              s.Records t 16 .peerSpillEnd sender 0 [now.number.setWidth 32, now.volume.setWidth 32])) ∧
      (s.pump.state = .lockout → (t.pump.state = .lockout ↔ s.pump.lockout.reading t.lockoutFigure < t.lockoutFigure)) ∧
      (s.link.duplicate.isRunning = true → t.table.isolated = s.table.isolated ∧ t.table.cause = s.table.cause) ∧
      (s.link.duplicate.isRunning = false →
       t.table.isolated = false ∧ (s.table.isolated = true → t.table.cause = .none ∧ t.rawOf .isolated = false)) ∧
      s.PointsBut t [.isolated, .overflowRisk] ∧
      t.CountsCurrent ∧
      t.DemandLimited ∧
      t.balance = { s.balance with limit := t.balance.limit, effective := t.balance.effective } ∧
      (s.pump.state ∈ [.unconfigured, .startup, .off, .hand, .tripped, .inhibited] →
       s.window.view = .free →
       t.window.view =
         if r.pumpState = .starting then .held sender none { hours := r.runHours.toNat, station := sender } (.running 0) else .free) ∧
      (∀ n best timer,
         s.window.view = .held sender n best timer →
         s.pump.state ∈ [.unconfigured, .startup, .off, .hand, .tripped, .inhibited] →
         t.window.view = if r.pumpState = .claiming ∨ r.pumpState = .starting then s.window.view else .free) ∧
      t.start = s.start ∧
      t.clock = s.clock ∧
      t.pins = s.pins ∧
      t.chanW = s.chanW ∧
      t.chanX = s.chanX ∧
      t.floats = s.floats ∧
      t.screen = s.screen ∧
      t.spill = s.spill ∧
      t.town = s.town ∧
      t.pending = s.pending

/-- START CLAIM and START DONE of a peer move the window view. R69, R107 to R109, R113, R116. The model's own choices it rests on:
notes/assumptions/10.md, notes/assumptions/20.md. -/
def Obligations.PeersClaimAndRelease : Prop :=
  ∀ (s : State) (sender : Station) (number : Byte) (hours : Half) (o : ClaimOutcome) (holder : Station) (known : Option Byte)
    (best : DutyKey) (timer : Timer),
    (s.TakesFrom sender →
     s.window.view = .free →
     ∃ t, exec (.startClaim sender number hours) s = .next t ∧
       t = { s with
           link := { s.link with lastSender := sender },
           window := { s.window with view := .held sender (some number) { hours := hours.toNat, station := sender } (.running 0) } }) ∧
    (s.TakesFrom sender →
     s.window.view = .held holder known best timer →
     (sender = holder ∨ (hours.toNat < (best).hours ∨ (hours.toNat = (best).hours ∧ sender.val < (best).station.val))) →
     ∃ t, exec (.startClaim sender number hours) s = .next t ∧
       t = { s with
           link := { s.link with lastSender := sender },
           window := { s.window with view := .held sender (some number) { hours := hours.toNat, station := sender } (.running 0) } }) ∧
    (s.TakesFrom sender →
     s.window.view = .held holder known best timer →
     sender ≠ holder →
     (¬ (hours.toNat < (best).hours ∨ (hours.toNat = (best).hours ∧ sender.val < (best).station.val))) →
     ∃ t, exec (.startClaim sender number hours) s = .next t ∧
       t = { s with link := { s.link with lastSender := sender } }) ∧
    (s.TakesFrom sender →
     s.window.view = .own →
     (s.window.claim = .pending ∨ s.window.claim = .holding) →
     (hours.toNat < ((s.window.key.getD s.ownKey)).hours ∨
      (hours.toNat = ((s.window.key.getD s.ownKey)).hours ∧ sender.val < ((s.window.key.getD s.ownKey)).station.val)) →
     ∃ t, exec (.startClaim sender number hours) s = .next t ∧
       t.link.lastSender = sender ∧
       t.window.view = .held sender (some number) { hours := hours.toNat, station := sender } (.running 0) ∧
       t.window.claim = .none ∧
       t.window.hold = .stopped ∧
       (s.pump.state = .claiming → t.pump.state ∈ [.waiting, .idle, .starting]) ∧
       (s.pump.state ≠ .claiming → t.pump = s.pump) ∧
       s.PointsBut t [.overflowRisk] ∧
       s.Moves t) ∧
    (s.TakesFrom sender →
     s.window.view = .own →
     ((s.window.claim ≠ .pending ∧ s.window.claim ≠ .holding) ∨ ¬
        (hours.toNat < ((s.window.key.getD s.ownKey)).hours ∨
         (hours.toNat = ((s.window.key.getD s.ownKey)).hours ∧ sender.val < ((s.window.key.getD s.ownKey)).station.val))) →
     ∃ t, exec (.startClaim sender number hours) s = .next t ∧
       t = { s with link := { s.link with lastSender := sender } }) ∧
    (s.TakesFrom sender →
     s.window.view = .held holder known best timer →
     sender = holder →
     (known = none ∨ known = some number) →
     ∃ t, exec (.startDone sender number o) s = .next t ∧
       t.link.lastSender = sender ∧
       (t.window.view = .free ∨ (t.window.view = .own ∧ t.pump.state = .claiming ∧ s.pump.state = .waiting)) ∧
       (s.pump.state ≠ .waiting →
        t = { s with link := { s.link with lastSender := sender }, window := { s.window with view := .free } }) ∧
       s.Moves t) ∧
    (s.TakesFrom sender →
     s.window.view = .held holder known best timer →
     (sender ≠ holder ∨ (known ≠ none ∧ known ≠ some number)) →
     ∃ t, exec (.startDone sender number o) s = .next t ∧
       t = { s with link := { s.link with lastSender := sender } }) ∧
    (s.TakesFrom sender →
     (s.window.view = .free ∨ s.window.view = .own) →
     ∃ t, exec (.startDone sender number o) s = .next t ∧
       t = { s with link := { s.link with lastSender := sender } })

/-- TIME and TIME_FRAME set the clock. R69, R81, R159, R165, R167. The model's own choices it rests on: notes/assumptions/20.md,
notes/assumptions/38.md, notes/assumptions/43.md. -/
def Obligations.TheClockIsSet : Prop :=
  ∀ (s : State) (address : Byte) (sender : Station) (seconds : Word),
    (s.Serves address 7 →
     ∃ t, exec (.time address seconds) s = .next t ∧
       t.clock = { s.clock with seconds := seconds, sync := true } ∧
       t.link = s.link.offer .time ∧
       t.town = s.answered s.cfg.townAddress 135 false [] ∧
       (({ s with town := t.town, clock := t.clock, link := t.link } : State).AlarmsOnly t) ∧
       t.rawOf .townSilent = false ∧
       s.PointsBut t [.townSilent] ∧
       s.Records t 2 .timeSet s.own 0 [s.clock.seconds, seconds]) ∧
    (s.hearsTown = true →
     address = 0 →
     s.cfg.townAddress ≠ 0 →
     s.barred 7 = none →
     ∃ t, exec (.time address seconds) s = .next t ∧
       t.clock = { s.clock with seconds := seconds, sync := true } ∧
       t.link = s.link.offer .time ∧
       t.town = { s.town with silence := .running 0, answer := none } ∧
       (({ s with town := t.town, clock := t.clock, link := t.link } : State).AlarmsOnly t) ∧
       t.rawOf .townSilent = false ∧
       s.PointsBut t [.townSilent] ∧
       s.Records t 2 .timeSet s.own 0 [s.clock.seconds, seconds]) ∧
    (s.canReceive = true →
     sender ≠ s.own →
     ∃ t, exec (.timeFrame sender seconds) s = .next t ∧
       t =
           (  { s with
                clock := { s.clock with seconds := seconds, sync := true }, link := { s.link with lastSender := sender } }
              : State).withEvents t.events ∧
       s.Records t 1 .timeSet sender 1 [s.clock.seconds, seconds])

/-- An entry becomes STALE, LOST and released, and the counts follow. R49, R86, R87, R91 to R96, R100, R111. The model's own choices it
rests on: notes/assumptions/1.md, notes/assumptions/9.md, notes/assumptions/39.md. -/
def Obligations.EntriesAge : Prop :=
  ∀ (s : State) (peer : Station) (r : Report) (heard : Stamp),
    (s.working = true →
     (s.table.entry peer).state = .fresh →
     (s.table.entry peer).age.due (3 * s.cfg.reportInterval) = true →
     ∃ t, exec (.entryBecomesStale peer) s = .next t ∧
       ({ s with table := s.table.withEntry peer { s.table.entry peer with state := .stale } } : State).Moves t ∧
       t.CountsCurrent ∧
       t.DemandLimited ∧
       s.PointsBut t [.overflowRisk]) ∧
    (s.working = true →
     (s.table.entry peer).state = .stale →
     (s.table.entry peer).age.due (10 * s.cfg.reportInterval) = true →
     (s.table.entry peer).last = some r →
     (s.table.entry peer).lastHeard = some heard →
     ∃ t, exec (.entryBecomesLost peer) s = .next t ∧
         (  { s with
              table :=
                s.table.withEntry peer
                  { s.table.entry peer with
                    state := .lost, age := .stopped, release := .running 0,
                    lostAt := some { seconds := s.clock.seconds, sync := s.clock.sync } } } : State).Moves t ∧
       t.CountsCurrent ∧
       t.DemandLimited ∧
       s.PointsBut t [.overflowRisk] ∧
       (s.pump.state = .lockout → (t.pump.state = .lockout ↔ s.pump.lockout.reading t.lockoutFigure < t.lockoutFigure)) ∧
       (∀ n best timer, s.window.view = .held peer n best timer → t.window.view = .free ∨ t.window.view = .own) ∧
       (s.cfg.houseReporter = s.own.val →
        s.Records t 12 .peerLost peer (pumpStateCode r.pumpState)
          [heard.seconds, BitVec.ofNat 32 (if r.pumpState = .starting ∨ r.flowing = true then 1 else 0)])) ∧
    (s.working = true →
     (s.table.entry peer).state = .lost →
     (s.table.entry peer).release.due (s.cfg.lostRelease * 1000) = true →
     ∃ t, exec (.lostReleaseExpiry peer) s = .next t ∧
       ({ s with table := s.table.withEntry peer { s.table.entry peer with release := .reached } } : State).Moves t ∧
       (t.table.entry peer).drawing = false ∧
       t.CountsCurrent ∧
       t.DemandLimited ∧
       s.PointsBut t [.overflowRisk])

/-- Peer silence puts a house of two or more in isolated mode. R64, R65, R77, R93, R97, R99, R117. The model's own choices it rests on:
notes/assumptions/1.md, notes/assumptions/19.md, notes/assumptions/25.md, notes/assumptions/44.md. -/
def Obligations.SilenceIsolates : Prop :=
  ∀ (s : State),
    (s.working = true →
     s.table.silence.due (10 * s.cfg.reportInterval) = true →
     2 ≤ s.cfg.houseSize →
     ∃ t, exec (.peerSilenceExpiry) s = .next t ∧
       ({ s with table := { s.table with silence := .reached, isolated := true, cause := .silence } } : State).Moves t ∧
       (s.table.isolated = false → t.rawOf .isolated = true ∧ t.table.available = 1 ∧ t.CountsCurrent ∧ t.DemandLimited) ∧
       (s.table.isolated = true → t = { s with table := { s.table with silence := .reached, cause := .silence } }) ∧
       (s.table.isolated = false → s.pump.state = .claiming → s.window.claim ≠ .none → t.pump.state ≠ .claiming) ∧
       (s.table.isolated = false → s.pump.state = .claiming → s.window.claim ≠ .none → ¬ s.closingWaits → t.window.claim = .none) ∧
       (s.table.isolated = false →
        s.pump.state = .claiming →
        s.closingWaits →
        t.window.claim = .pending ∧ t.window.view = s.window.view ∧ t.link.closing = some (s.window.number, .withdrawn)) ∧
       s.PointsBut t [.isolated, .overflowRisk]) ∧
    (s.table.silence.due (10 * s.cfg.reportInterval) = true →
     s.cfg.houseSize < 2 →
     ∃ t, exec (.peerSilenceExpiry) s = .next t ∧
       t = { s with table := { s.table with silence := .reached } })

/-- Patience opens a claim, and the window timer frees a silent holder's window. R105, R106, R112. The model's own choices it rests on:
notes/assumptions/1.md, notes/assumptions/45.md. -/
def Obligations.PatienceAndTimeoutClaim : Prop :=
  ∀ (s : State) (holder : Station) (known : Option Byte) (best : DutyKey) (timer : Timer),
    (s.window.patience.due (s.cfg.patience * 1000) = true →
     s.pump.state = .waiting →
     s.operating = true →
     s.table.isolated = false →
     s.window.view = .free →
     ∃ t, exec (.patienceRunOut) s = .next t ∧
       t.pump = { s.pump.halted .claiming with stray := s.pump.strayAtEntry } ∧
       t.window = { s.window with
           view := .own, claim := .pending, number := s.window.number + 1,
           key := some { hours := s.pump.runSeconds / 3600, station := s.own }, hold := .stopped, patience := .stopped } ∧
       t.link = { (s.link.offer (.startClaim (s.window.number + 1) (BitVec.ofNat 16 (s.pump.runSeconds / 3600)))).offer .report with
           report := .running 0 } ∧
       s.PointsBut t [.overflowRisk] ∧
       s.Moves t) ∧
    (s.window.patience.due (s.cfg.patience * 1000) = true →
     (s.pump.state ≠ .waiting ∨ s.operating = false ∨ s.table.isolated = true ∨ s.window.view ≠ .free) →
     ∃ t, exec (.patienceRunOut) s = .next t ∧
       t = { s with window := { s.window with patience := .reached } }) ∧
    (s.started = true →
     s.window.view = .held holder known best timer →
     timer.due (s.cfg.windowLimit * 1000) = true →
     ∃ t, exec (.windowTimerExpiry) s = .next t ∧
       (t.window.view = .free ∨ (t.window.view = .own ∧ t.pump.state = .claiming ∧ s.pump.state = .waiting)) ∧
       (s.pump.state ≠ .waiting → t = ({ s with window := { s.window with view := .free } } : State).withEvents t.events) ∧
       s.Moves t ∧
       s.PointsBut t [.overflowRisk] ∧
       s.Records t 3 .windowTimeout holder
         (match (s.table.entry holder).state, (s.table.entry holder).last with
          | .empty, _ => 255
          | _, some r => pumpStateCode r.pumpState
          | _, none => 255) [BitVec.ofNat 32 (match known with | some n => n.toNat | none => 256), BitVec.ofNat 32 s.cfg.windowLimit])

/-- The six timers of the rake. R126 to R129, R131, R134. The cam check due in PAUSE is made at its end, before the overload input is read
(notes/assumptions/28.md). The model's own choices it rests on: notes/assumptions/1.md. -/
def Obligations.RakeTimersDriveTheCycle : Prop :=
  ∀ (s : State),
    (s.started = true →
     s.screen.camCheck.due 2000 = true →
     s.screen.rake = .forward →
     s.screen.cam.active = true →
     ∃ t, exec (.camCheckExpiry) s = .next t ∧
       ({ s with screen := s.screen.stoppedIn .fault } : State).AlarmsOnly t ∧
       s.Delivers t .rakeFault true ∧
       s.Records t 2 .rakeFault s.own 0
         [BitVec.ofNat 32 (rakeStateCode s.screen.rake), BitVec.ofNat 32 (s.screen.cycle.reading (s.cfg.cycleTimeout * 1000) / 1000)]) ∧
    (s.screen.camCheck.due 2000 = true →
     s.screen.rake = .forward →
     s.screen.cam.active = false →
     ∃ t, exec (.camCheckExpiry) s = .next t ∧
       t = { s with screen := { s.screen with camArmed := true, camCheck := .stopped } }) ∧
    (s.screen.camCheck.due 2000 = true →
     s.screen.rake ≠ .forward →
     ∃ t, exec (.camCheckExpiry) s = .next t ∧
       t = { s with screen := { s.screen with camCheck := .reached } }) ∧
    (s.screen.reverse.due (s.cfg.reverseTime * 1000) = true →
     s.screen.rake = .clearing →
     ∃ t, exec (.reverseTimerExpiry) s = .next t ∧
       t = { s with
           screen :=
             { s.screen with rake := .pause, forwardOut := false, reverseOut := false, reverse := .stopped, pause := .running 0 } }) ∧
    (s.screen.pause.due 5000 = true →
     s.screen.rake = .pause →
     s.screen.camCheck ≠ .reached →
     s.screen.overload.active = false →
     ∃ t, exec (.pauseTimerExpiry) s = .next t ∧
       t = { s with screen := { s.screen with rake := .forward, forwardOut := true, reverseOut := false, pause := .stopped } }) ∧
    (s.screen.pause.due 5000 = true →
     s.screen.rake = .pause →
     s.screen.camCheck ≠ .reached →
     s.screen.overload.active = true →
     s.screen.overloads < 2 →
     ∃ t, exec (.pauseTimerExpiry) s = .next t ∧
       t = { s with
           screen :=
             { s.screen with
               rake := .clearing, forwardOut := false, reverseOut := true, pause := .stopped, overloads := s.screen.overloads + 1,
               overloadCount := min 65535 (s.screen.overloadCount + 1), reverse := .running 0 } }) ∧
    (s.screen.pause.due 5000 = true →
     s.screen.rake = .pause →
     s.screen.camCheck = .reached →
     s.screen.cam.active = false →
     s.screen.overload.active = false →
     ∃ t, exec (.pauseTimerExpiry) s = .next t ∧
       t = { s with
           screen :=
             { s.screen with
               rake := .forward, forwardOut := true, reverseOut := false, pause := .stopped, camArmed := true, camCheck := .stopped } }) ∧
    (s.started = true →
     s.screen.cycle.due (s.cfg.cycleTimeout * 1000) = true →
     (s.screen.rake = .forward ∨ s.screen.rake = .clearing ∨ s.screen.rake = .pause) →
     ∃ t, exec (.cycleTimeout) s = .next t ∧
       ({ s with screen := s.screen.stoppedIn .fault } : State).AlarmsOnly t ∧
       s.Delivers t .rakeFault true ∧
       s.Records t 2 .rakeFault s.own 1 [BitVec.ofNat 32 (rakeStateCode s.screen.rake), BitVec.ofNat 32 s.cfg.cycleTimeout]) ∧
    (s.screen.rest.due (s.cfg.rest * 1000) = true →
     (s.screen.rake ≠ .rakeIdle ∨ s.screen.pendingFlag = false) →
     ∃ t, exec (.restTimerExpiry) s = .next t ∧
       t = { s with screen := { s.screen with rest := .stopped } }) ∧
    (s.screen.rest.due (s.cfg.rest * 1000) = true →
     s.screen.rake = .rakeIdle →
     s.screen.pendingFlag = true →
     s.screen.overload.active = false →
     ∃ t, exec (.restTimerExpiry) s = .next t ∧
       t = { s with screen := { s.screen.cycling s.screen.pendingCause s.cfg.rakeInterval with rest := .stopped } }) ∧
    (s.screen.interval.canExpire (s.cfg.rakeInterval * 60000) = true →
     0 < s.table.drawing →
     s.screen.rake = .rakeIdle →
     s.screen.rest.isRunning = false →
     s.screen.overload.active = false →
     ∃ t, exec (.intervalTimerExpiry) s = .next t ∧
       t = { s with
           screen :=
             { s.screen.cycling .interval s.cfg.rakeInterval with
               interval := if s.cfg.rakeInterval = 0 then .stopped else .running 0 } }) ∧
    (s.screen.interval.canExpire (s.cfg.rakeInterval * 60000) = true →
     0 < s.table.drawing →
     s.screen.rake ≠ .rakeOff →
     (s.screen.rake ≠ .rakeIdle ∨ s.screen.rest.isRunning = true) →
     ∃ t, exec (.intervalTimerExpiry) s = .next t ∧
       t = { s with screen := { s.screen with interval := .running 0, pendingFlag := true, pendingCause := .interval } })

/-- FETCH confirms the record last sent and sends the head. R161, with R159 and R167 for the answer and the silence timer. The model's own
choices it rests on: notes/assumptions/43.md. -/
def Obligations.FetchEmptiesTheQueue : Prop :=
  ∀ (s : State) (address : Byte) (toggle : Bool) (records : List EventRecord),
    s.Serves address 1 →
    (records = if s.town.sent = true ∧ toggle ≠ s.town.toggle then s.markValid.events.records.drop 1 else s.markValid.events.records) →
    ∃ t, exec (.fetch address toggle) s = .next t ∧
      t.events = { s.markValid.events with records := records } ∧
      (∀ r rest,
         records = r :: rest →
         t.town = { s.answered s.cfg.townAddress 129 toggle (recordBytes r) with sent := true, toggle := toggle }) ∧
      (records = [] → t.town = { s.answered s.cfg.townAddress 160 toggle [] with sent := false }) ∧
      (s.rawOf .townSilent = false → s.markValid.events = s.events) ∧
      (({ s with town := t.town } : State).AlarmsOnly t) ∧
      t.rawOf .townSilent = false ∧
      s.PointsBut t [.townSilent]

/-- STATUS, HOUSE, SPILLS and RESTART are answered and change nothing but the port. R159, R160, R162, R166, R167. The model's own choices
it rests on: notes/assumptions/23.md, notes/assumptions/24.md, notes/assumptions/29.md, notes/assumptions/38.md, notes/assumptions/43.md.
-/
def Obligations.TownReadsAreAnswered : Prop :=
  ∀ (s : State) (address : Byte) (page : Option Byte) (index : Byte) (items : List Byte) (r : SpillRecord),
    (s.Serves address 2 →
     s.markValid.statusPage (page.getD 0).toNat = some items →
     ∃ t, exec (.status address page) s = .next t ∧
       t.town = s.answered s.cfg.townAddress 130 false items ∧
       (({ s with town := t.town } : State).AlarmsOnly t) ∧
       t.rawOf .townSilent = false ∧
       s.PointsBut t [.townSilent] ∧
       (page.getD 0).toNat ≤ 3) ∧
    (s.Serves address 2 →
     3 < (page.getD 0).toNat →
     ∃ t, exec (.status address page) s = .next t ∧
       t.town = s.answered s.cfg.townAddress 255 false [5] ∧
       (({ s with town := t.town } : State).AlarmsOnly t) ∧
       t.rawOf .townSilent = false) ∧
    (s.Serves address 3 →
     ∃ t, exec (.house address) s = .next t ∧
       t.town = s.answered s.cfg.townAddress 131 false ((List.finRange 8).flatMap fun p => (s.table.entry p).houseBytes) ∧
       (({ s with town := t.town } : State).AlarmsOnly t) ∧
       t.rawOf .townSilent = false ∧
       s.PointsBut t [.townSilent]) ∧
    (s.Serves address 4 →
     s.spill.list[index.toNat]? = some r →
     ∃ t, exec (.spills address index) s = .next t ∧
       t.town = s.answered s.cfg.townAddress 132 false (spillBytes s.spill r) ∧
       (({ s with town := t.town } : State).AlarmsOnly t) ∧
       t.rawOf .townSilent = false ∧
       s.PointsBut t [.townSilent]) ∧
    (s.Serves address 4 →
     s.spill.list.length ≤ index.toNat →
     ∃ t, exec (.spills address index) s = .next t ∧
       t.town = s.answered s.cfg.townAddress 255 false [5] ∧
       (({ s with town := t.town } : State).AlarmsOnly t) ∧
       t.rawOf .townSilent = false) ∧
    (s.Serves address 8 →
     ∃ t, exec (.restart address) s = .next t ∧
       t.town = { s.answered s.cfg.townAddress 136 false [] with restarting := true } ∧
       (({ s with town := t.town } : State).AlarmsOnly t) ∧
       t.rawOf .townSilent = false ∧
       s.PointsBut t [.townSilent])

/-- ACK silences one point or all. R150, R153, R160, R163, R167. The model's own choices it rests on: notes/assumptions/38.md,
notes/assumptions/43.md. -/
def Obligations.TownAcknowledges : Prop :=
  ∀ (s : State) (address : Byte) (point : Byte),
    (s.Serves address 5 →
     (point.toNat < 25 ∨ point = 255) →
     ∃ t, exec (.ack address point) s = .next t ∧
       (∀ i : Fin 25,
          t.alarms.points[i] =
            if point = 255 ∨ i.val = point.toNat then
              { raw := s.markValid.alarms.points[i].raw, ann := match s.markValid.alarms.points[i].ann with
                | .alert => .standing | .returned => .normal | a => a }
            else s.markValid.alarms.points[i]) ∧
       t.town = s.answered s.cfg.townAddress 133 false [] ∧
       (({ s with town := t.town } : State).AlarmsOnly t) ∧
       (∀ i : Fin 25, i.val = point.toNat → s.markValid.alarms.points[i].ann = .alert → s.Records t 2 .alarmChange s.own i.val [2, 2]) ∧
       (∀ i : Fin 25,
          i.val = point.toNat → s.markValid.alarms.points[i].ann = .returned → s.Records t 2 .alarmChange s.own i.val [0, 2]) ∧
       (∀ i : Fin 25,
          i.val = point.toNat →
          s.markValid.alarms.points[i].ann ≠ .alert →
          s.markValid.alarms.points[i].ann ≠ .returned →
          t.events = s.markValid.events) ∧
       (point = 255 →
        s.takesClass 0 = true →
        s.markValid.events.overflow = 0 →
        s.markValid.events.records.length + 25 ≤ 64 →
        (t.events.records.drop s.markValid.events.records.length).map (fun r => (r.kind, r.source, r.subject.toNat, r.values)) =
            ((List.finRange 25).filter
               (fun i => s.markValid.alarms.points[i].ann = .alert ∨ s.markValid.alarms.points[i].ann = .returned)).map
            (fun i => (EventKind.alarmChange, s.own, i.val, [if s.markValid.alarms.points[i].ann = .alert then 2 else 0, 2])))) ∧
    (s.Serves address 5 →
     25 ≤ point.toNat →
     point ≠ 255 →
     ∃ t, exec (.ack address point) s = .next t ∧
       t.town = s.answered s.cfg.townAddress 255 false [5] ∧
       (({ s with town := t.town } : State).AlarmsOnly t) ∧
       s.PointsBut t [.townSilent] ∧
       t.rawOf .townSilent = false)

/-- A message is checked row by row and refused with its code. R159, R160, R167, and R173 for remote operation in CONFIG_FAULT. The
model's own choices it rests on: notes/assumptions/22.md, notes/assumptions/23.md, notes/assumptions/38.md. -/
def Obligations.MessagesAreChecked : Prop :=
  ∀ (s : State) (bytes : List Byte) (framing : Bool) (address : Byte) (kind : Byte) (flags : Byte) (n : Byte) (rest : List Byte),
    (s.hearsTown = true →
     (bytes.length < 6 ∨ framing = true ∨ crc bytes ≠ 0) →
     ∃ t, exec (.unservedTownMessage bytes framing false) s = .next t ∧
       t = { s with town := { s.town with answer := none } }) ∧
    (∃ t, exec (.unservedTownMessage bytes framing true) s = .next t ∧
       t = s) ∧
    (s.hearsTown = true →
     6 ≤ bytes.length →
     crc bytes = 0 →
     bytes = address :: kind :: flags :: n :: rest →
     address ≠ s.cfg.townAddress →
     (address ≠ 0 ∨ kind ≠ 7) →
     ∃ t, exec (.unservedTownMessage bytes false false) s = .next t ∧
       t = { s with town := { s.town with answer := none } }) ∧
    (s.hearsTown = true →
     6 ≤ bytes.length →
     crc bytes = 0 →
     bytes = address :: kind :: flags :: n :: rest →
     address = s.cfg.townAddress →
     address ≠ 0 →
     200 < n.toNat →
     ∃ t, exec (.unservedTownMessage bytes false false) s = .next t ∧
       t.town = s.answered s.cfg.townAddress 255 (kind == 1 && flags.getLsbD 0) [1] ∧
       (t.townLine = withCheck [s.cfg.townAddress, 255, if kind = 1 ∧ flags.getLsbD 0 = true then 1 else 0, 1, 1]) ∧
       (({ s with town := t.town } : State).AlarmsOnly t) ∧
       s.PointsBut t [.townSilent] ∧
       t.rawOf .townSilent = false) ∧
    (s.hearsTown = true →
     6 ≤ bytes.length →
     crc bytes = 0 →
     bytes = address :: kind :: flags :: n :: rest →
     address = s.cfg.townAddress →
     address ≠ 0 →
     n.toNat ≤ 200 →
     (n.toNat + 6 ≠ bytes.length ∨ kind = 0 ∨ 8 < kind.toNat) →
     ∃ t, exec (.unservedTownMessage bytes false false) s = .next t ∧
       t.town = s.answered s.cfg.townAddress 255 (kind == 1 && flags.getLsbD 0) [2] ∧
       (t.townLine = withCheck [s.cfg.townAddress, 255, if kind = 1 ∧ flags.getLsbD 0 = true then 1 else 0, 1, 2]) ∧
       (({ s with town := t.town } : State).AlarmsOnly t) ∧
       s.PointsBut t [.townSilent] ∧
       t.rawOf .townSilent = false) ∧
    (s.hearsTown = true →
     6 ≤ bytes.length →
     crc bytes = 0 →
     bytes = address :: kind :: flags :: n :: rest →
     address = s.cfg.townAddress →
     address ≠ 0 →
     n.toNat + 6 = bytes.length →
     n.toNat ≤ 200 →
     s.start.phase = .configFault →
     (kind = 3 ∨ kind = 5 ∨ kind = 6 ∨ kind = 7) →
     ∃ t, exec (.unservedTownMessage bytes false false) s = .next t ∧
       t.town = s.answered s.cfg.townAddress 255 (kind == 1 && flags.getLsbD 0) [4] ∧
       (t.townLine = withCheck [s.cfg.townAddress, 255, if kind = 1 ∧ flags.getLsbD 0 = true then 1 else 0, 1, 4]) ∧
       (({ s with town := t.town } : State).AlarmsOnly t) ∧
       s.PointsBut t [.townSilent] ∧
       t.rawOf .townSilent = false) ∧
    (s.hearsTown = true →
     6 ≤ bytes.length →
     crc bytes = 0 →
     bytes = address :: kind :: flags :: n :: rest →
     address = s.cfg.townAddress →
     address ≠ 0 →
     n.toNat + 6 = bytes.length →
     n.toNat ≤ 200 →
     s.start.phase ≠ .configFault →
     s.cfg.remote = false →
     (kind = 6 ∨ kind = 7 ∨ kind = 8) →
     ∃ t, exec (.unservedTownMessage bytes false false) s = .next t ∧
       t.town = s.answered s.cfg.townAddress 255 (kind == 1 && flags.getLsbD 0) [3] ∧
       (t.townLine = withCheck [s.cfg.townAddress, 255, if kind = 1 ∧ flags.getLsbD 0 = true then 1 else 0, 1, 3]) ∧
       (({ s with town := t.town } : State).AlarmsOnly t) ∧
       s.PointsBut t [.townSilent] ∧
       t.rawOf .townSilent = false) ∧
    (s.hearsTown = true →
     6 ≤ bytes.length →
     crc bytes = 0 →
     bytes = address :: kind :: flags :: n :: rest →
     address = s.cfg.townAddress →
     address ≠ 0 →
     n.toNat + 6 = bytes.length →
     n.toNat ≤ 200 →
     s.start.phase = .configFault →
     s.start.settings = .configFault s.own →
     kind = 8 →
     ∃ t, exec (.unservedTownMessage bytes false false) s = .next t ∧
       t.town = s.answered s.cfg.townAddress 255 (kind == 1 && flags.getLsbD 0) [3] ∧
       (t.townLine = withCheck [s.cfg.townAddress, 255, if kind = 1 ∧ flags.getLsbD 0 = true then 1 else 0, 1, 3]) ∧
       (({ s with town := t.town } : State).AlarmsOnly t) ∧
       s.PointsBut t [.townSilent] ∧
       t.rawOf .townSilent = false) ∧
    (s.hearsTown = true →
     6 ≤ bytes.length →
     crc bytes = 0 →
     bytes = address :: kind :: flags :: n :: rest →
     address = s.cfg.townAddress →
     address ≠ 0 →
     n.toNat + 6 = bytes.length →
     n.toNat ≤ 200 →
     s.barred kind.toNat = none →
     (((kind = 1 ∨ kind = 3 ∨ kind = 8) ∧ n ≠ 0) ∨ (kind = 2 ∧ 1 < n.toNat) ∨ ((kind = 4 ∨ kind = 5) ∧ n ≠ 1) ∨
      (kind = 6 ∧ (n ≠ 3 ∨ rest.getD 1 0 = 0 ∨ 5 < (rest.getD 1 0).toNat)) ∨ (kind = 7 ∧ n ≠ 4)) →
     ∃ t, exec (.unservedTownMessage bytes false false) s = .next t ∧
       t.town = s.answered s.cfg.townAddress 255 (kind == 1 && flags.getLsbD 0) [2] ∧
       (t.townLine = withCheck [s.cfg.townAddress, 255, if kind = 1 ∧ flags.getLsbD 0 = true then 1 else 0, 1, 2]) ∧
       (({ s with town := t.town } : State).AlarmsOnly t) ∧
       s.PointsBut t [.townSilent] ∧
       t.rawOf .townSilent = false) ∧
    (s.hearsTown = true →
     6 ≤ bytes.length →
     crc bytes = 0 →
     bytes = address :: kind :: flags :: n :: rest →
     address = 0 →
     kind = 7 →
     (200 < n.toNat ∨ n.toNat + 6 ≠ bytes.length ∨ s.start.phase = .configFault ∨ s.cfg.remote = false ∨ n ≠ 4) →
     ∃ t, exec (.unservedTownMessage bytes false false) s = .next t ∧
       t.town = { s.town with silence := .running 0, answer := none } ∧
       (({ s with town := t.town } : State).AlarmsOnly t) ∧
       s.PointsBut t [.townSilent] ∧
       t.rawOf .townSilent = false)

/-- A delivered raw change moves its point by the table of R149. R149. -/
def Obligations.AnnunciatorFollowsRawChanges : Prop :=
  ∀ (s : State) (p : AlarmPoint) (raw : Bool), s.started = true →
    (s.rawOf p = raw → s.deliver p raw = s) ∧
    (s.rawOf p ≠ raw → s.Delivers (s.deliver p raw) p raw ∧
      (raw = true → s.alarms.points[pointIndex p].ann = .normal → (s.deliver p raw).alarms.points[pointIndex p].ann = .alert) ∧
      (raw = true → s.alarms.points[pointIndex p].ann = .returned → (s.deliver p raw).alarms.points[pointIndex p].ann = .alert) ∧
      (raw = false → s.alarms.points[pointIndex p].ann = .alert → (s.deliver p raw).alarms.points[pointIndex p].ann = .returned) ∧
      (raw = false → s.alarms.points[pointIndex p].ann = .standing → (s.deliver p raw).alarms.points[pointIndex p].ann = .normal))

/-- An event that passes the mask is handled by the room left and the overflow count. R157, with R156 for the numbers. -/
def Obligations.OverflowKeepsTheLastPlace : Prop :=
  ∀ (own : Station) (r : EventRecord) (q : EventQueue),
    let lost : Nat → Half → EventRecord := fun count number =>
      { sequence := number, time := r.time, sync := r.sync, kind := .queueOverflow, source := own, subject := 0,
        values := [BitVec.ofNat 32 count] }
    (64 ≤ q.records.length → q.takeIn own r = { q with overflow := min 65535 (q.overflow + 1) }) ∧
    (q.records.length ≤ 63 → q.overflow = 0 →
      q.takeIn own r = { q with records := q.records ++ [{ r with sequence := q.counter }], counter := q.counter + 1 }) ∧
    (q.records.length = 63 → 0 < q.overflow →
      q.takeIn own r =
        { records := q.records ++ [lost (min 65535 (q.overflow + 1)) q.counter], counter := q.counter + 1, overflow := 0 }) ∧
    (q.records.length ≤ 62 → 0 < q.overflow →
      q.takeIn own r =
        { records := q.records ++ [lost q.overflow q.counter, { r with sequence := q.counter + 1 }], counter := q.counter + 1 + 1,
          overflow := 0 })

/-- The weir flow is R141's, with the greatest whole root. R141. -/
def Obligations.WeirFlowByTheWholeRoot : Prop :=
  ∀ (km : Nat) (h : Int),
    (h ≤ 0 → weirFlow km h = 0) ∧
    (0 < h → ∃ s : Nat, IsWholeRoot (100 * (min h 3000).toNat) s) ∧
    (0 < h → ∀ s : Nat, IsWholeRoot (100 * (min h 3000).toNat) s →
      weirFlow km h = min 65535 (km * (min h 3000).toNat * s / 316230))

/-- The median lies among the candidates and the volume rises with the level. R21, R25. -/
def Obligations.MedianAndVolumeStayBetween : Prop :=
  (∀ levels : List Int, (medianLevel levels = none ↔ levels = []) ∧
      ∀ m, medianLevel levels = some m →
        levels.length ≤ 2 * (levels.filter fun v => v ≤ m).length ∧ levels.length ≤ 2 * (levels.filter fun v => m ≤ v).length) ∧
    (∀ (table : List (Int × Nat)) (h h' : Int) (first last : Int × Nat),
      table.Pairwise (fun a b => a.1 < b.1 ∧ a.2 ≤ b.2) → table.head? = some first → table.getLast? = some last →
      (h ≤ first.1 → volumeAt table h = first.2) ∧ (last.1 ≤ h → volumeAt table h = last.2) ∧
      (h ≤ h' → volumeAt table h ≤ volumeAt table h'))

/-- Band demand settles where its start and stop levels put it. R30. -/
def Obligations.BandDemandSettles : Prop :=
  ∀ (bands : List (Int × Int)) (h : Int) (db : Nat),
    bands.Pairwise (fun a b => a.1 < b.1 ∧ a.2 < b.2) → (∀ b ∈ bands, b.2 < b.1) → db ≤ bands.length →
    bandDemand bands h db ≤ bands.length ∧
    (∀ n b, bands[n]? = some b → db ≤ n → n < bandDemand bands h db → b.1 ≤ h) ∧
    (∀ n b, bands[n]? = some b → bandDemand bands h db ≤ n → n < db → h < b.2) ∧
    (∀ b, bands[bandDemand bands h db]? = some b → h < b.1) ∧
    (∀ n b, n + 1 = bandDemand bands h db → bands[n]? = some b → b.2 ≤ h) ∧
    bandDemand bands h (bandDemand bands h db) = bandDemand bands h db

/-- An accepted image gives settings in their ranges. R170, R171, section 11.5. The model's own choices it rests on:
notes/assumptions/27.md. -/
def Obligations.AcceptedImagesAreInRange : Prop :=
  ∀ (station : Station) (reads : List (Option (List Byte))) (g : Settings), judgeImage station reads = .accepted g →
    250 ≤ g.reportInterval ∧ g.reportInterval ≤ 2000 ∧ 1 ≤ g.houseSize ∧ g.houseSize ≤ 8 ∧ g.houseReporter ≤ 8 ∧
    1 ≤ g.utilityLimit ∧ g.utilityLimit ≤ 8 ∧ g.generatorLimit ≤ 8 ∧ g.fallbackDemand ≤ 8 ∧ g.screenLostLimit ≤ 8 ∧
    1 ≤ g.feedbackTime ∧ g.feedbackTime ≤ 10 ∧ 1 ≤ g.startSettle ∧ g.startSettle ≤ 30 ∧
    30 ≤ g.minimumRun ∧ g.minimumRun ≤ 900 ∧ 60 ≤ g.minimumOff ∧ g.minimumOff ≤ 1800 ∧ 10 ≤ g.stormLockout ∧ g.stormLockout ≤ 600 ∧
    1 ≤ g.isolatedPosition ∧ g.isolatedPosition ≤ 8 ∧ 500 ≤ g.channelW.span ∧ g.channelW.span ≤ 20000 ∧
    1 ≤ g.townAddress.toNat ∧ g.townAddress.toNat ≤ 247 ∧ (g.bitRate = 9600 ∨ g.bitRate = 19200 ∨ g.bitRate = 38400) ∧
    2 ≤ g.volumeTable.length ∧ g.volumeTable.length ≤ 12 ∧ g.volumeTable.Pairwise (fun a b => a.1 < b.1 ∧ a.2 ≤ b.2) ∧
    1 ≤ g.bands.length ∧ g.bands.length ≤ 8 ∧ g.bands.Pairwise (fun a b => a.1 < b.1 ∧ a.2 < b.2) ∧ (∀ b ∈ g.bands, b.2 < b.1) ∧
    (g.role = .screen →
      g.rakeLevel < g.blindLevel ∧ g.blindClear < g.blindLevel ∧ g.blindedLimit ≤ 8 ∧ g.unknownLimit ≤ 8) ∧
    (g.role = .weir → g.endMargin < g.startMargin)

/-- Every frame a station can send passes the receive checks and reads back as it was. Section 4.7, R80, R83. -/
def Obligations.FramesReadBack : Prop :=
  ∀ (sender : Station) (body : FrameBody), parseFrame (frameBytes sender body) = some (sender, body)

/-- Every step keeps the contactor where the pump state and the low-low float put it. R35, R38, R45, R46, R92 to R96. The invariant is
Kept. The model's own choices it rests on: notes/assumptions/2.md, notes/assumptions/9.md. -/
def Obligations.TheContactorStaysSafe : Prop :=
  ∀ s t : State, s.Kept → step s = .next t → t.Kept

/-- Every step keeps the relays, the event queue and the spill list in order. R143, R151, R152, R156. The model's own choices it rests on:
notes/assumptions/2.md. -/
def Obligations.TheRecordsStayInOrder : Prop :=
  (∀ s t : State, s.RelaysFollow → step s = .next t → t.RelaysFollow) ∧
    (∀ s t : State, s.QueueNumbered → step s = .next t → t.QueueNumbered) ∧
    (∀ s t : State, s.spill.ListKept → step s = .next t → t.spill.ListKept)

/-- Every step keeps the forms of window, queues, table, rake and averaging windows. R75, section 1.1, section 5.1, section 6.1, section
7.4. The model's own choices it rests on: notes/assumptions/2.md, notes/assumptions/36.md. -/
def Obligations.TheFormsStayWhole : Prop :=
  (∀ s t : State, s.ViewOwnsClaim → step s = .next t → t.ViewOwnsClaim) ∧
    (∀ s t : State, s.QueueInClassOrder → step s = .next t → t.QueueInClassOrder) ∧
    (∀ s t : State, s.OwnEntryEmpty → step s = .next t → t.OwnEntryEmpty) ∧
    (∀ s t : State, s.RakeOutputsFollow → step s = .next t → t.RakeOutputsFollow) ∧
    (∀ s t : State, s.chanW.WindowWhole → s.chanX.WindowWhole → step s = .next t → t.chanW.WindowWhole ∧ t.chanX.WindowWhole)

/-- The state after a full start has every invariant, and the values the manual gives. R2, R20, R45, R68, R85, R103, R121, R135, R148,
R156, R168. The model's own choices it rests on: notes/assumptions/5.md. -/
def Obligations.ResetHasEveryInvariant : Prop :=
  State.reset.Kept ∧ State.reset.RelaysFollow ∧ State.reset.QueueNumbered ∧ State.reset.spill.ListKept ∧ State.reset.ViewOwnsClaim ∧
    State.reset.QueueInClassOrder ∧ State.reset.OwnEntryEmpty ∧ State.reset.RakeOutputsFollow ∧ State.reset.chanW.WindowWhole ∧
    State.reset.chanX.WindowWhole ∧ State.reset.start.phase = .loading ∧ State.reset.clock.seconds = 0 ∧ State.reset.clock.sync = false ∧
    State.reset.pump.state = .startup ∧ State.reset.pump.contactor = false ∧ State.reset.link.lastSender = 7 ∧
    State.reset.link.sequence = 0 ∧ State.reset.link.rxErrors = 0 ∧ State.reset.link.txErrors = 0 ∧
    (∀ p : Station, (State.reset.table.entry p).state = .empty) ∧ State.reset.table.isolated = false ∧ State.reset.window.view = .free ∧
    State.reset.screen.rake = .rakeOff ∧ State.reset.screen.forwardOut = false ∧ State.reset.screen.reverseOut = false ∧
    State.reset.spill.state = .none ∧ State.reset.spill.number = 0 ∧ State.reset.spill.list = [] ∧
    (∀ i : Fin 25, State.reset.alarms.points[i].ann = .normal ∧ State.reset.alarms.points[i].raw = false) ∧
    State.reset.alarms.horn = false ∧ State.reset.alarms.beacon = false ∧ State.reset.events.records = [] ∧
    State.reset.events.counter = 0
end

