-- ==== Sys2Proof/Laws/State.lean ====
section
/-! SUPPORT. What each update of one block of the state leaves in every block, all by unfolding, and what is read of the start-up unit after
an update of another block. -/

namespace Sys2Proof.Machine

variable (s : State)

section Start

variable (v : StartUnit)

@[simp] theorem State.withStart_start : (s.withStart v).start = v := rfl
@[simp] theorem State.withStart_clock : (s.withStart v).clock = s.clock := rfl
@[simp] theorem State.withStart_pins : (s.withStart v).pins = s.pins := rfl
@[simp] theorem State.withStart_chanW : (s.withStart v).chanW = s.chanW := rfl
@[simp] theorem State.withStart_chanX : (s.withStart v).chanX = s.chanX := rfl
@[simp] theorem State.withStart_balance : (s.withStart v).balance = s.balance := rfl
@[simp] theorem State.withStart_floats : (s.withStart v).floats = s.floats := rfl
@[simp] theorem State.withStart_pump : (s.withStart v).pump = s.pump := rfl
@[simp] theorem State.withStart_link : (s.withStart v).link = s.link := rfl
@[simp] theorem State.withStart_table : (s.withStart v).table = s.table := rfl
@[simp] theorem State.withStart_window : (s.withStart v).window = s.window := rfl
@[simp] theorem State.withStart_screen : (s.withStart v).screen = s.screen := rfl
@[simp] theorem State.withStart_spill : (s.withStart v).spill = s.spill := rfl
@[simp] theorem State.withStart_alarms : (s.withStart v).alarms = s.alarms := rfl
@[simp] theorem State.withStart_events : (s.withStart v).events = s.events := rfl
@[simp] theorem State.withStart_town : (s.withStart v).town = s.town := rfl
@[simp] theorem State.withStart_pending : (s.withStart v).pending = s.pending := rfl
@[simp] theorem State.withStart_stamp : (s.withStart v).stamp = s.stamp := rfl

end Start

section Clock

variable (v : Clock)

@[simp] theorem State.withClock_start : (s.withClock v).start = s.start := rfl
@[simp] theorem State.withClock_clock : (s.withClock v).clock = v := rfl
@[simp] theorem State.withClock_pins : (s.withClock v).pins = s.pins := rfl
@[simp] theorem State.withClock_chanW : (s.withClock v).chanW = s.chanW := rfl
@[simp] theorem State.withClock_chanX : (s.withClock v).chanX = s.chanX := rfl
@[simp] theorem State.withClock_balance : (s.withClock v).balance = s.balance := rfl
@[simp] theorem State.withClock_floats : (s.withClock v).floats = s.floats := rfl
@[simp] theorem State.withClock_pump : (s.withClock v).pump = s.pump := rfl
@[simp] theorem State.withClock_link : (s.withClock v).link = s.link := rfl
@[simp] theorem State.withClock_table : (s.withClock v).table = s.table := rfl
@[simp] theorem State.withClock_window : (s.withClock v).window = s.window := rfl
@[simp] theorem State.withClock_screen : (s.withClock v).screen = s.screen := rfl
@[simp] theorem State.withClock_spill : (s.withClock v).spill = s.spill := rfl
@[simp] theorem State.withClock_alarms : (s.withClock v).alarms = s.alarms := rfl
@[simp] theorem State.withClock_events : (s.withClock v).events = s.events := rfl
@[simp] theorem State.withClock_town : (s.withClock v).town = s.town := rfl
@[simp] theorem State.withClock_pending : (s.withClock v).pending = s.pending := rfl
@[simp] theorem State.withClock_cfg : (s.withClock v).cfg = s.cfg := rfl
@[simp] theorem State.withClock_own : (s.withClock v).own = s.own := rfl
@[simp] theorem State.withClock_started : (s.withClock v).started = s.started := rfl
@[simp] theorem State.withClock_working : (s.withClock v).working = s.working := rfl
@[simp] theorem State.withClock_operating : (s.withClock v).operating = s.operating := rfl
@[simp] theorem State.withClock_screenRuns : (s.withClock v).screenRuns = s.screenRuns := rfl
@[simp] theorem State.withClock_weirRuns : (s.withClock v).weirRuns = s.weirRuns := rfl

end Clock

section Pins

variable (v : Pins)

@[simp] theorem State.withPins_start : (s.withPins v).start = s.start := rfl
@[simp] theorem State.withPins_clock : (s.withPins v).clock = s.clock := rfl
@[simp] theorem State.withPins_pins : (s.withPins v).pins = v := rfl
@[simp] theorem State.withPins_chanW : (s.withPins v).chanW = s.chanW := rfl
@[simp] theorem State.withPins_chanX : (s.withPins v).chanX = s.chanX := rfl
@[simp] theorem State.withPins_balance : (s.withPins v).balance = s.balance := rfl
@[simp] theorem State.withPins_floats : (s.withPins v).floats = s.floats := rfl
@[simp] theorem State.withPins_pump : (s.withPins v).pump = s.pump := rfl
@[simp] theorem State.withPins_link : (s.withPins v).link = s.link := rfl
@[simp] theorem State.withPins_table : (s.withPins v).table = s.table := rfl
@[simp] theorem State.withPins_window : (s.withPins v).window = s.window := rfl
@[simp] theorem State.withPins_screen : (s.withPins v).screen = s.screen := rfl
@[simp] theorem State.withPins_spill : (s.withPins v).spill = s.spill := rfl
@[simp] theorem State.withPins_alarms : (s.withPins v).alarms = s.alarms := rfl
@[simp] theorem State.withPins_events : (s.withPins v).events = s.events := rfl
@[simp] theorem State.withPins_town : (s.withPins v).town = s.town := rfl
@[simp] theorem State.withPins_pending : (s.withPins v).pending = s.pending := rfl
@[simp] theorem State.withPins_cfg : (s.withPins v).cfg = s.cfg := rfl
@[simp] theorem State.withPins_own : (s.withPins v).own = s.own := rfl
@[simp] theorem State.withPins_started : (s.withPins v).started = s.started := rfl
@[simp] theorem State.withPins_working : (s.withPins v).working = s.working := rfl
@[simp] theorem State.withPins_operating : (s.withPins v).operating = s.operating := rfl
@[simp] theorem State.withPins_screenRuns : (s.withPins v).screenRuns = s.screenRuns := rfl
@[simp] theorem State.withPins_weirRuns : (s.withPins v).weirRuns = s.weirRuns := rfl
@[simp] theorem State.withPins_stamp : (s.withPins v).stamp = s.stamp := rfl

end Pins

section ChanW

variable (v : Channel)

@[simp] theorem State.withChanW_start : (s.withChanW v).start = s.start := rfl
@[simp] theorem State.withChanW_clock : (s.withChanW v).clock = s.clock := rfl
@[simp] theorem State.withChanW_pins : (s.withChanW v).pins = s.pins := rfl
@[simp] theorem State.withChanW_chanW : (s.withChanW v).chanW = v := rfl
@[simp] theorem State.withChanW_chanX : (s.withChanW v).chanX = s.chanX := rfl
@[simp] theorem State.withChanW_balance : (s.withChanW v).balance = s.balance := rfl
@[simp] theorem State.withChanW_floats : (s.withChanW v).floats = s.floats := rfl
@[simp] theorem State.withChanW_pump : (s.withChanW v).pump = s.pump := rfl
@[simp] theorem State.withChanW_link : (s.withChanW v).link = s.link := rfl
@[simp] theorem State.withChanW_table : (s.withChanW v).table = s.table := rfl
@[simp] theorem State.withChanW_window : (s.withChanW v).window = s.window := rfl
@[simp] theorem State.withChanW_screen : (s.withChanW v).screen = s.screen := rfl
@[simp] theorem State.withChanW_spill : (s.withChanW v).spill = s.spill := rfl
@[simp] theorem State.withChanW_alarms : (s.withChanW v).alarms = s.alarms := rfl
@[simp] theorem State.withChanW_events : (s.withChanW v).events = s.events := rfl
@[simp] theorem State.withChanW_town : (s.withChanW v).town = s.town := rfl
@[simp] theorem State.withChanW_pending : (s.withChanW v).pending = s.pending := rfl
@[simp] theorem State.withChanW_cfg : (s.withChanW v).cfg = s.cfg := rfl
@[simp] theorem State.withChanW_own : (s.withChanW v).own = s.own := rfl
@[simp] theorem State.withChanW_started : (s.withChanW v).started = s.started := rfl
@[simp] theorem State.withChanW_working : (s.withChanW v).working = s.working := rfl
@[simp] theorem State.withChanW_operating : (s.withChanW v).operating = s.operating := rfl
@[simp] theorem State.withChanW_screenRuns : (s.withChanW v).screenRuns = s.screenRuns := rfl
@[simp] theorem State.withChanW_weirRuns : (s.withChanW v).weirRuns = s.weirRuns := rfl
@[simp] theorem State.withChanW_stamp : (s.withChanW v).stamp = s.stamp := rfl

end ChanW

section ChanX

variable (v : Channel)

@[simp] theorem State.withChanX_start : (s.withChanX v).start = s.start := rfl
@[simp] theorem State.withChanX_clock : (s.withChanX v).clock = s.clock := rfl
@[simp] theorem State.withChanX_pins : (s.withChanX v).pins = s.pins := rfl
@[simp] theorem State.withChanX_chanW : (s.withChanX v).chanW = s.chanW := rfl
@[simp] theorem State.withChanX_chanX : (s.withChanX v).chanX = v := rfl
@[simp] theorem State.withChanX_balance : (s.withChanX v).balance = s.balance := rfl
@[simp] theorem State.withChanX_floats : (s.withChanX v).floats = s.floats := rfl
@[simp] theorem State.withChanX_pump : (s.withChanX v).pump = s.pump := rfl
@[simp] theorem State.withChanX_link : (s.withChanX v).link = s.link := rfl
@[simp] theorem State.withChanX_table : (s.withChanX v).table = s.table := rfl
@[simp] theorem State.withChanX_window : (s.withChanX v).window = s.window := rfl
@[simp] theorem State.withChanX_screen : (s.withChanX v).screen = s.screen := rfl
@[simp] theorem State.withChanX_spill : (s.withChanX v).spill = s.spill := rfl
@[simp] theorem State.withChanX_alarms : (s.withChanX v).alarms = s.alarms := rfl
@[simp] theorem State.withChanX_events : (s.withChanX v).events = s.events := rfl
@[simp] theorem State.withChanX_town : (s.withChanX v).town = s.town := rfl
@[simp] theorem State.withChanX_pending : (s.withChanX v).pending = s.pending := rfl
@[simp] theorem State.withChanX_cfg : (s.withChanX v).cfg = s.cfg := rfl
@[simp] theorem State.withChanX_own : (s.withChanX v).own = s.own := rfl
@[simp] theorem State.withChanX_started : (s.withChanX v).started = s.started := rfl
@[simp] theorem State.withChanX_working : (s.withChanX v).working = s.working := rfl
@[simp] theorem State.withChanX_operating : (s.withChanX v).operating = s.operating := rfl
@[simp] theorem State.withChanX_screenRuns : (s.withChanX v).screenRuns = s.screenRuns := rfl
@[simp] theorem State.withChanX_weirRuns : (s.withChanX v).weirRuns = s.weirRuns := rfl
@[simp] theorem State.withChanX_stamp : (s.withChanX v).stamp = s.stamp := rfl

end ChanX

section Balance

variable (v : Balance)

@[simp] theorem State.withBalance_start : (s.withBalance v).start = s.start := rfl
@[simp] theorem State.withBalance_clock : (s.withBalance v).clock = s.clock := rfl
@[simp] theorem State.withBalance_pins : (s.withBalance v).pins = s.pins := rfl
@[simp] theorem State.withBalance_chanW : (s.withBalance v).chanW = s.chanW := rfl
@[simp] theorem State.withBalance_chanX : (s.withBalance v).chanX = s.chanX := rfl
@[simp] theorem State.withBalance_balance : (s.withBalance v).balance = v := rfl
@[simp] theorem State.withBalance_floats : (s.withBalance v).floats = s.floats := rfl
@[simp] theorem State.withBalance_pump : (s.withBalance v).pump = s.pump := rfl
@[simp] theorem State.withBalance_link : (s.withBalance v).link = s.link := rfl
@[simp] theorem State.withBalance_table : (s.withBalance v).table = s.table := rfl
@[simp] theorem State.withBalance_window : (s.withBalance v).window = s.window := rfl
@[simp] theorem State.withBalance_screen : (s.withBalance v).screen = s.screen := rfl
@[simp] theorem State.withBalance_spill : (s.withBalance v).spill = s.spill := rfl
@[simp] theorem State.withBalance_alarms : (s.withBalance v).alarms = s.alarms := rfl
@[simp] theorem State.withBalance_events : (s.withBalance v).events = s.events := rfl
@[simp] theorem State.withBalance_town : (s.withBalance v).town = s.town := rfl
@[simp] theorem State.withBalance_pending : (s.withBalance v).pending = s.pending := rfl
@[simp] theorem State.withBalance_cfg : (s.withBalance v).cfg = s.cfg := rfl
@[simp] theorem State.withBalance_own : (s.withBalance v).own = s.own := rfl
@[simp] theorem State.withBalance_started : (s.withBalance v).started = s.started := rfl
@[simp] theorem State.withBalance_working : (s.withBalance v).working = s.working := rfl
@[simp] theorem State.withBalance_operating : (s.withBalance v).operating = s.operating := rfl
@[simp] theorem State.withBalance_screenRuns : (s.withBalance v).screenRuns = s.screenRuns := rfl
@[simp] theorem State.withBalance_weirRuns : (s.withBalance v).weirRuns = s.weirRuns := rfl
@[simp] theorem State.withBalance_stamp : (s.withBalance v).stamp = s.stamp := rfl

end Balance

section Floats

variable (v : Floats)

@[simp] theorem State.withFloats_start : (s.withFloats v).start = s.start := rfl
@[simp] theorem State.withFloats_clock : (s.withFloats v).clock = s.clock := rfl
@[simp] theorem State.withFloats_pins : (s.withFloats v).pins = s.pins := rfl
@[simp] theorem State.withFloats_chanW : (s.withFloats v).chanW = s.chanW := rfl
@[simp] theorem State.withFloats_chanX : (s.withFloats v).chanX = s.chanX := rfl
@[simp] theorem State.withFloats_balance : (s.withFloats v).balance = s.balance := rfl
@[simp] theorem State.withFloats_floats : (s.withFloats v).floats = v := rfl
@[simp] theorem State.withFloats_pump : (s.withFloats v).pump = s.pump := rfl
@[simp] theorem State.withFloats_link : (s.withFloats v).link = s.link := rfl
@[simp] theorem State.withFloats_table : (s.withFloats v).table = s.table := rfl
@[simp] theorem State.withFloats_window : (s.withFloats v).window = s.window := rfl
@[simp] theorem State.withFloats_screen : (s.withFloats v).screen = s.screen := rfl
@[simp] theorem State.withFloats_spill : (s.withFloats v).spill = s.spill := rfl
@[simp] theorem State.withFloats_alarms : (s.withFloats v).alarms = s.alarms := rfl
@[simp] theorem State.withFloats_events : (s.withFloats v).events = s.events := rfl
@[simp] theorem State.withFloats_town : (s.withFloats v).town = s.town := rfl
@[simp] theorem State.withFloats_pending : (s.withFloats v).pending = s.pending := rfl
@[simp] theorem State.withFloats_cfg : (s.withFloats v).cfg = s.cfg := rfl
@[simp] theorem State.withFloats_own : (s.withFloats v).own = s.own := rfl
@[simp] theorem State.withFloats_started : (s.withFloats v).started = s.started := rfl
@[simp] theorem State.withFloats_working : (s.withFloats v).working = s.working := rfl
@[simp] theorem State.withFloats_operating : (s.withFloats v).operating = s.operating := rfl
@[simp] theorem State.withFloats_screenRuns : (s.withFloats v).screenRuns = s.screenRuns := rfl
@[simp] theorem State.withFloats_weirRuns : (s.withFloats v).weirRuns = s.weirRuns := rfl
@[simp] theorem State.withFloats_stamp : (s.withFloats v).stamp = s.stamp := rfl

end Floats

section Pump

variable (v : Pump)

@[simp] theorem State.withPump_start : (s.withPump v).start = s.start := rfl
@[simp] theorem State.withPump_clock : (s.withPump v).clock = s.clock := rfl
@[simp] theorem State.withPump_pins : (s.withPump v).pins = s.pins := rfl
@[simp] theorem State.withPump_chanW : (s.withPump v).chanW = s.chanW := rfl
@[simp] theorem State.withPump_chanX : (s.withPump v).chanX = s.chanX := rfl
@[simp] theorem State.withPump_balance : (s.withPump v).balance = s.balance := rfl
@[simp] theorem State.withPump_floats : (s.withPump v).floats = s.floats := rfl
@[simp] theorem State.withPump_pump : (s.withPump v).pump = v := rfl
@[simp] theorem State.withPump_link : (s.withPump v).link = s.link := rfl
@[simp] theorem State.withPump_table : (s.withPump v).table = s.table := rfl
@[simp] theorem State.withPump_window : (s.withPump v).window = s.window := rfl
@[simp] theorem State.withPump_screen : (s.withPump v).screen = s.screen := rfl
@[simp] theorem State.withPump_spill : (s.withPump v).spill = s.spill := rfl
@[simp] theorem State.withPump_alarms : (s.withPump v).alarms = s.alarms := rfl
@[simp] theorem State.withPump_events : (s.withPump v).events = s.events := rfl
@[simp] theorem State.withPump_town : (s.withPump v).town = s.town := rfl
@[simp] theorem State.withPump_pending : (s.withPump v).pending = s.pending := rfl
@[simp] theorem State.withPump_cfg : (s.withPump v).cfg = s.cfg := rfl
@[simp] theorem State.withPump_own : (s.withPump v).own = s.own := rfl
@[simp] theorem State.withPump_started : (s.withPump v).started = s.started := rfl
@[simp] theorem State.withPump_working : (s.withPump v).working = s.working := rfl
@[simp] theorem State.withPump_operating : (s.withPump v).operating = s.operating := rfl
@[simp] theorem State.withPump_screenRuns : (s.withPump v).screenRuns = s.screenRuns := rfl
@[simp] theorem State.withPump_weirRuns : (s.withPump v).weirRuns = s.weirRuns := rfl
@[simp] theorem State.withPump_stamp : (s.withPump v).stamp = s.stamp := rfl

end Pump

section Link

variable (v : Link)

@[simp] theorem State.withLink_start : (s.withLink v).start = s.start := rfl
@[simp] theorem State.withLink_clock : (s.withLink v).clock = s.clock := rfl
@[simp] theorem State.withLink_pins : (s.withLink v).pins = s.pins := rfl
@[simp] theorem State.withLink_chanW : (s.withLink v).chanW = s.chanW := rfl
@[simp] theorem State.withLink_chanX : (s.withLink v).chanX = s.chanX := rfl
@[simp] theorem State.withLink_balance : (s.withLink v).balance = s.balance := rfl
@[simp] theorem State.withLink_floats : (s.withLink v).floats = s.floats := rfl
@[simp] theorem State.withLink_pump : (s.withLink v).pump = s.pump := rfl
@[simp] theorem State.withLink_link : (s.withLink v).link = v := rfl
@[simp] theorem State.withLink_table : (s.withLink v).table = s.table := rfl
@[simp] theorem State.withLink_window : (s.withLink v).window = s.window := rfl
@[simp] theorem State.withLink_screen : (s.withLink v).screen = s.screen := rfl
@[simp] theorem State.withLink_spill : (s.withLink v).spill = s.spill := rfl
@[simp] theorem State.withLink_alarms : (s.withLink v).alarms = s.alarms := rfl
@[simp] theorem State.withLink_events : (s.withLink v).events = s.events := rfl
@[simp] theorem State.withLink_town : (s.withLink v).town = s.town := rfl
@[simp] theorem State.withLink_pending : (s.withLink v).pending = s.pending := rfl
@[simp] theorem State.withLink_cfg : (s.withLink v).cfg = s.cfg := rfl
@[simp] theorem State.withLink_own : (s.withLink v).own = s.own := rfl
@[simp] theorem State.withLink_started : (s.withLink v).started = s.started := rfl
@[simp] theorem State.withLink_working : (s.withLink v).working = s.working := rfl
@[simp] theorem State.withLink_operating : (s.withLink v).operating = s.operating := rfl
@[simp] theorem State.withLink_screenRuns : (s.withLink v).screenRuns = s.screenRuns := rfl
@[simp] theorem State.withLink_weirRuns : (s.withLink v).weirRuns = s.weirRuns := rfl
@[simp] theorem State.withLink_stamp : (s.withLink v).stamp = s.stamp := rfl

end Link

section Table

variable (v : PeerTable)

@[simp] theorem State.withTable_start : (s.withTable v).start = s.start := rfl
@[simp] theorem State.withTable_clock : (s.withTable v).clock = s.clock := rfl
@[simp] theorem State.withTable_pins : (s.withTable v).pins = s.pins := rfl
@[simp] theorem State.withTable_chanW : (s.withTable v).chanW = s.chanW := rfl
@[simp] theorem State.withTable_chanX : (s.withTable v).chanX = s.chanX := rfl
@[simp] theorem State.withTable_balance : (s.withTable v).balance = s.balance := rfl
@[simp] theorem State.withTable_floats : (s.withTable v).floats = s.floats := rfl
@[simp] theorem State.withTable_pump : (s.withTable v).pump = s.pump := rfl
@[simp] theorem State.withTable_link : (s.withTable v).link = s.link := rfl
@[simp] theorem State.withTable_table : (s.withTable v).table = v := rfl
@[simp] theorem State.withTable_window : (s.withTable v).window = s.window := rfl
@[simp] theorem State.withTable_screen : (s.withTable v).screen = s.screen := rfl
@[simp] theorem State.withTable_spill : (s.withTable v).spill = s.spill := rfl
@[simp] theorem State.withTable_alarms : (s.withTable v).alarms = s.alarms := rfl
@[simp] theorem State.withTable_events : (s.withTable v).events = s.events := rfl
@[simp] theorem State.withTable_town : (s.withTable v).town = s.town := rfl
@[simp] theorem State.withTable_pending : (s.withTable v).pending = s.pending := rfl
@[simp] theorem State.withTable_cfg : (s.withTable v).cfg = s.cfg := rfl
@[simp] theorem State.withTable_own : (s.withTable v).own = s.own := rfl
@[simp] theorem State.withTable_started : (s.withTable v).started = s.started := rfl
@[simp] theorem State.withTable_working : (s.withTable v).working = s.working := rfl
@[simp] theorem State.withTable_operating : (s.withTable v).operating = s.operating := rfl
@[simp] theorem State.withTable_screenRuns : (s.withTable v).screenRuns = s.screenRuns := rfl
@[simp] theorem State.withTable_weirRuns : (s.withTable v).weirRuns = s.weirRuns := rfl
@[simp] theorem State.withTable_stamp : (s.withTable v).stamp = s.stamp := rfl

end Table

section Window

variable (v : Window)

@[simp] theorem State.withWindow_start : (s.withWindow v).start = s.start := rfl
@[simp] theorem State.withWindow_clock : (s.withWindow v).clock = s.clock := rfl
@[simp] theorem State.withWindow_pins : (s.withWindow v).pins = s.pins := rfl
@[simp] theorem State.withWindow_chanW : (s.withWindow v).chanW = s.chanW := rfl
@[simp] theorem State.withWindow_chanX : (s.withWindow v).chanX = s.chanX := rfl
@[simp] theorem State.withWindow_balance : (s.withWindow v).balance = s.balance := rfl
@[simp] theorem State.withWindow_floats : (s.withWindow v).floats = s.floats := rfl
@[simp] theorem State.withWindow_pump : (s.withWindow v).pump = s.pump := rfl
@[simp] theorem State.withWindow_link : (s.withWindow v).link = s.link := rfl
@[simp] theorem State.withWindow_table : (s.withWindow v).table = s.table := rfl
@[simp] theorem State.withWindow_window : (s.withWindow v).window = v := rfl
@[simp] theorem State.withWindow_screen : (s.withWindow v).screen = s.screen := rfl
@[simp] theorem State.withWindow_spill : (s.withWindow v).spill = s.spill := rfl
@[simp] theorem State.withWindow_alarms : (s.withWindow v).alarms = s.alarms := rfl
@[simp] theorem State.withWindow_events : (s.withWindow v).events = s.events := rfl
@[simp] theorem State.withWindow_town : (s.withWindow v).town = s.town := rfl
@[simp] theorem State.withWindow_pending : (s.withWindow v).pending = s.pending := rfl
@[simp] theorem State.withWindow_cfg : (s.withWindow v).cfg = s.cfg := rfl
@[simp] theorem State.withWindow_own : (s.withWindow v).own = s.own := rfl
@[simp] theorem State.withWindow_started : (s.withWindow v).started = s.started := rfl
@[simp] theorem State.withWindow_working : (s.withWindow v).working = s.working := rfl
@[simp] theorem State.withWindow_operating : (s.withWindow v).operating = s.operating := rfl
@[simp] theorem State.withWindow_screenRuns : (s.withWindow v).screenRuns = s.screenRuns := rfl
@[simp] theorem State.withWindow_weirRuns : (s.withWindow v).weirRuns = s.weirRuns := rfl
@[simp] theorem State.withWindow_stamp : (s.withWindow v).stamp = s.stamp := rfl

end Window

section Screen

variable (v : Screen)

@[simp] theorem State.withScreen_start : (s.withScreen v).start = s.start := rfl
@[simp] theorem State.withScreen_clock : (s.withScreen v).clock = s.clock := rfl
@[simp] theorem State.withScreen_pins : (s.withScreen v).pins = s.pins := rfl
@[simp] theorem State.withScreen_chanW : (s.withScreen v).chanW = s.chanW := rfl
@[simp] theorem State.withScreen_chanX : (s.withScreen v).chanX = s.chanX := rfl
@[simp] theorem State.withScreen_balance : (s.withScreen v).balance = s.balance := rfl
@[simp] theorem State.withScreen_floats : (s.withScreen v).floats = s.floats := rfl
@[simp] theorem State.withScreen_pump : (s.withScreen v).pump = s.pump := rfl
@[simp] theorem State.withScreen_link : (s.withScreen v).link = s.link := rfl
@[simp] theorem State.withScreen_table : (s.withScreen v).table = s.table := rfl
@[simp] theorem State.withScreen_window : (s.withScreen v).window = s.window := rfl
@[simp] theorem State.withScreen_screen : (s.withScreen v).screen = v := rfl
@[simp] theorem State.withScreen_spill : (s.withScreen v).spill = s.spill := rfl
@[simp] theorem State.withScreen_alarms : (s.withScreen v).alarms = s.alarms := rfl
@[simp] theorem State.withScreen_events : (s.withScreen v).events = s.events := rfl
@[simp] theorem State.withScreen_town : (s.withScreen v).town = s.town := rfl
@[simp] theorem State.withScreen_pending : (s.withScreen v).pending = s.pending := rfl
@[simp] theorem State.withScreen_cfg : (s.withScreen v).cfg = s.cfg := rfl
@[simp] theorem State.withScreen_own : (s.withScreen v).own = s.own := rfl
@[simp] theorem State.withScreen_started : (s.withScreen v).started = s.started := rfl
@[simp] theorem State.withScreen_working : (s.withScreen v).working = s.working := rfl
@[simp] theorem State.withScreen_operating : (s.withScreen v).operating = s.operating := rfl
@[simp] theorem State.withScreen_screenRuns : (s.withScreen v).screenRuns = s.screenRuns := rfl
@[simp] theorem State.withScreen_weirRuns : (s.withScreen v).weirRuns = s.weirRuns := rfl
@[simp] theorem State.withScreen_stamp : (s.withScreen v).stamp = s.stamp := rfl

end Screen

section Spill

variable (v : SpillMonitor)

@[simp] theorem State.withSpill_start : (s.withSpill v).start = s.start := rfl
@[simp] theorem State.withSpill_clock : (s.withSpill v).clock = s.clock := rfl
@[simp] theorem State.withSpill_pins : (s.withSpill v).pins = s.pins := rfl
@[simp] theorem State.withSpill_chanW : (s.withSpill v).chanW = s.chanW := rfl
@[simp] theorem State.withSpill_chanX : (s.withSpill v).chanX = s.chanX := rfl
@[simp] theorem State.withSpill_balance : (s.withSpill v).balance = s.balance := rfl
@[simp] theorem State.withSpill_floats : (s.withSpill v).floats = s.floats := rfl
@[simp] theorem State.withSpill_pump : (s.withSpill v).pump = s.pump := rfl
@[simp] theorem State.withSpill_link : (s.withSpill v).link = s.link := rfl
@[simp] theorem State.withSpill_table : (s.withSpill v).table = s.table := rfl
@[simp] theorem State.withSpill_window : (s.withSpill v).window = s.window := rfl
@[simp] theorem State.withSpill_screen : (s.withSpill v).screen = s.screen := rfl
@[simp] theorem State.withSpill_spill : (s.withSpill v).spill = v := rfl
@[simp] theorem State.withSpill_alarms : (s.withSpill v).alarms = s.alarms := rfl
@[simp] theorem State.withSpill_events : (s.withSpill v).events = s.events := rfl
@[simp] theorem State.withSpill_town : (s.withSpill v).town = s.town := rfl
@[simp] theorem State.withSpill_pending : (s.withSpill v).pending = s.pending := rfl
@[simp] theorem State.withSpill_cfg : (s.withSpill v).cfg = s.cfg := rfl
@[simp] theorem State.withSpill_own : (s.withSpill v).own = s.own := rfl
@[simp] theorem State.withSpill_started : (s.withSpill v).started = s.started := rfl
@[simp] theorem State.withSpill_working : (s.withSpill v).working = s.working := rfl
@[simp] theorem State.withSpill_operating : (s.withSpill v).operating = s.operating := rfl
@[simp] theorem State.withSpill_screenRuns : (s.withSpill v).screenRuns = s.screenRuns := rfl
@[simp] theorem State.withSpill_weirRuns : (s.withSpill v).weirRuns = s.weirRuns := rfl
@[simp] theorem State.withSpill_stamp : (s.withSpill v).stamp = s.stamp := rfl

end Spill

section Alarms

variable (v : Alarms)

@[simp] theorem State.withAlarms_start : (s.withAlarms v).start = s.start := rfl
@[simp] theorem State.withAlarms_clock : (s.withAlarms v).clock = s.clock := rfl
@[simp] theorem State.withAlarms_pins : (s.withAlarms v).pins = s.pins := rfl
@[simp] theorem State.withAlarms_chanW : (s.withAlarms v).chanW = s.chanW := rfl
@[simp] theorem State.withAlarms_chanX : (s.withAlarms v).chanX = s.chanX := rfl
@[simp] theorem State.withAlarms_balance : (s.withAlarms v).balance = s.balance := rfl
@[simp] theorem State.withAlarms_floats : (s.withAlarms v).floats = s.floats := rfl
@[simp] theorem State.withAlarms_pump : (s.withAlarms v).pump = s.pump := rfl
@[simp] theorem State.withAlarms_link : (s.withAlarms v).link = s.link := rfl
@[simp] theorem State.withAlarms_table : (s.withAlarms v).table = s.table := rfl
@[simp] theorem State.withAlarms_window : (s.withAlarms v).window = s.window := rfl
@[simp] theorem State.withAlarms_screen : (s.withAlarms v).screen = s.screen := rfl
@[simp] theorem State.withAlarms_spill : (s.withAlarms v).spill = s.spill := rfl
@[simp] theorem State.withAlarms_alarms : (s.withAlarms v).alarms = v := rfl
@[simp] theorem State.withAlarms_events : (s.withAlarms v).events = s.events := rfl
@[simp] theorem State.withAlarms_town : (s.withAlarms v).town = s.town := rfl
@[simp] theorem State.withAlarms_pending : (s.withAlarms v).pending = s.pending := rfl
@[simp] theorem State.withAlarms_cfg : (s.withAlarms v).cfg = s.cfg := rfl
@[simp] theorem State.withAlarms_own : (s.withAlarms v).own = s.own := rfl
@[simp] theorem State.withAlarms_started : (s.withAlarms v).started = s.started := rfl
@[simp] theorem State.withAlarms_working : (s.withAlarms v).working = s.working := rfl
@[simp] theorem State.withAlarms_operating : (s.withAlarms v).operating = s.operating := rfl
@[simp] theorem State.withAlarms_screenRuns : (s.withAlarms v).screenRuns = s.screenRuns := rfl
@[simp] theorem State.withAlarms_weirRuns : (s.withAlarms v).weirRuns = s.weirRuns := rfl
@[simp] theorem State.withAlarms_stamp : (s.withAlarms v).stamp = s.stamp := rfl

end Alarms

section Events

variable (v : EventQueue)

@[simp] theorem State.withEvents_start : (s.withEvents v).start = s.start := rfl
@[simp] theorem State.withEvents_clock : (s.withEvents v).clock = s.clock := rfl
@[simp] theorem State.withEvents_pins : (s.withEvents v).pins = s.pins := rfl
@[simp] theorem State.withEvents_chanW : (s.withEvents v).chanW = s.chanW := rfl
@[simp] theorem State.withEvents_chanX : (s.withEvents v).chanX = s.chanX := rfl
@[simp] theorem State.withEvents_balance : (s.withEvents v).balance = s.balance := rfl
@[simp] theorem State.withEvents_floats : (s.withEvents v).floats = s.floats := rfl
@[simp] theorem State.withEvents_pump : (s.withEvents v).pump = s.pump := rfl
@[simp] theorem State.withEvents_link : (s.withEvents v).link = s.link := rfl
@[simp] theorem State.withEvents_table : (s.withEvents v).table = s.table := rfl
@[simp] theorem State.withEvents_window : (s.withEvents v).window = s.window := rfl
@[simp] theorem State.withEvents_screen : (s.withEvents v).screen = s.screen := rfl
@[simp] theorem State.withEvents_spill : (s.withEvents v).spill = s.spill := rfl
@[simp] theorem State.withEvents_alarms : (s.withEvents v).alarms = s.alarms := rfl
@[simp] theorem State.withEvents_events : (s.withEvents v).events = v := rfl
@[simp] theorem State.withEvents_town : (s.withEvents v).town = s.town := rfl
@[simp] theorem State.withEvents_pending : (s.withEvents v).pending = s.pending := rfl
@[simp] theorem State.withEvents_cfg : (s.withEvents v).cfg = s.cfg := rfl
@[simp] theorem State.withEvents_own : (s.withEvents v).own = s.own := rfl
@[simp] theorem State.withEvents_started : (s.withEvents v).started = s.started := rfl
@[simp] theorem State.withEvents_working : (s.withEvents v).working = s.working := rfl
@[simp] theorem State.withEvents_operating : (s.withEvents v).operating = s.operating := rfl
@[simp] theorem State.withEvents_screenRuns : (s.withEvents v).screenRuns = s.screenRuns := rfl
@[simp] theorem State.withEvents_weirRuns : (s.withEvents v).weirRuns = s.weirRuns := rfl
@[simp] theorem State.withEvents_stamp : (s.withEvents v).stamp = s.stamp := rfl

end Events

section Town

variable (v : Town)

@[simp] theorem State.withTown_start : (s.withTown v).start = s.start := rfl
@[simp] theorem State.withTown_clock : (s.withTown v).clock = s.clock := rfl
@[simp] theorem State.withTown_pins : (s.withTown v).pins = s.pins := rfl
@[simp] theorem State.withTown_chanW : (s.withTown v).chanW = s.chanW := rfl
@[simp] theorem State.withTown_chanX : (s.withTown v).chanX = s.chanX := rfl
@[simp] theorem State.withTown_balance : (s.withTown v).balance = s.balance := rfl
@[simp] theorem State.withTown_floats : (s.withTown v).floats = s.floats := rfl
@[simp] theorem State.withTown_pump : (s.withTown v).pump = s.pump := rfl
@[simp] theorem State.withTown_link : (s.withTown v).link = s.link := rfl
@[simp] theorem State.withTown_table : (s.withTown v).table = s.table := rfl
@[simp] theorem State.withTown_window : (s.withTown v).window = s.window := rfl
@[simp] theorem State.withTown_screen : (s.withTown v).screen = s.screen := rfl
@[simp] theorem State.withTown_spill : (s.withTown v).spill = s.spill := rfl
@[simp] theorem State.withTown_alarms : (s.withTown v).alarms = s.alarms := rfl
@[simp] theorem State.withTown_events : (s.withTown v).events = s.events := rfl
@[simp] theorem State.withTown_town : (s.withTown v).town = v := rfl
@[simp] theorem State.withTown_pending : (s.withTown v).pending = s.pending := rfl
@[simp] theorem State.withTown_cfg : (s.withTown v).cfg = s.cfg := rfl
@[simp] theorem State.withTown_own : (s.withTown v).own = s.own := rfl
@[simp] theorem State.withTown_started : (s.withTown v).started = s.started := rfl
@[simp] theorem State.withTown_working : (s.withTown v).working = s.working := rfl
@[simp] theorem State.withTown_operating : (s.withTown v).operating = s.operating := rfl
@[simp] theorem State.withTown_screenRuns : (s.withTown v).screenRuns = s.screenRuns := rfl
@[simp] theorem State.withTown_weirRuns : (s.withTown v).weirRuns = s.weirRuns := rfl
@[simp] theorem State.withTown_stamp : (s.withTown v).stamp = s.stamp := rfl

end Town

section Pending

variable (v : List Instr)

@[simp] theorem State.withPending_start : (s.withPending v).start = s.start := rfl
@[simp] theorem State.withPending_clock : (s.withPending v).clock = s.clock := rfl
@[simp] theorem State.withPending_pins : (s.withPending v).pins = s.pins := rfl
@[simp] theorem State.withPending_chanW : (s.withPending v).chanW = s.chanW := rfl
@[simp] theorem State.withPending_chanX : (s.withPending v).chanX = s.chanX := rfl
@[simp] theorem State.withPending_balance : (s.withPending v).balance = s.balance := rfl
@[simp] theorem State.withPending_floats : (s.withPending v).floats = s.floats := rfl
@[simp] theorem State.withPending_pump : (s.withPending v).pump = s.pump := rfl
@[simp] theorem State.withPending_link : (s.withPending v).link = s.link := rfl
@[simp] theorem State.withPending_table : (s.withPending v).table = s.table := rfl
@[simp] theorem State.withPending_window : (s.withPending v).window = s.window := rfl
@[simp] theorem State.withPending_screen : (s.withPending v).screen = s.screen := rfl
@[simp] theorem State.withPending_spill : (s.withPending v).spill = s.spill := rfl
@[simp] theorem State.withPending_alarms : (s.withPending v).alarms = s.alarms := rfl
@[simp] theorem State.withPending_events : (s.withPending v).events = s.events := rfl
@[simp] theorem State.withPending_town : (s.withPending v).town = s.town := rfl
@[simp] theorem State.withPending_pending : (s.withPending v).pending = v := rfl
@[simp] theorem State.withPending_cfg : (s.withPending v).cfg = s.cfg := rfl
@[simp] theorem State.withPending_own : (s.withPending v).own = s.own := rfl
@[simp] theorem State.withPending_started : (s.withPending v).started = s.started := rfl
@[simp] theorem State.withPending_working : (s.withPending v).working = s.working := rfl
@[simp] theorem State.withPending_operating : (s.withPending v).operating = s.operating := rfl
@[simp] theorem State.withPending_screenRuns : (s.withPending v).screenRuns = s.screenRuns := rfl
@[simp] theorem State.withPending_weirRuns : (s.withPending v).weirRuns = s.weirRuns := rfl
@[simp] theorem State.withPending_stamp : (s.withPending v).stamp = s.stamp := rfl

end Pending

/-- Two states that agree in every block are one. -/
theorem State.ext_blocks {s t : State} (h1 : s.start = t.start) (h2 : s.clock = t.clock) (h3 : s.pins = t.pins) (h4 : s.chanW = t.chanW)
    (h5 : s.chanX = t.chanX) (h6 : s.balance = t.balance) (h7 : s.floats = t.floats) (h8 : s.pump = t.pump) (h9 : s.link = t.link)
    (h10 : s.table = t.table) (h11 : s.window = t.window) (h12 : s.screen = t.screen) (h13 : s.spill = t.spill) (h14 : s.alarms = t.alarms)
    (h15 : s.events = t.events) (h16 : s.town = t.town) (h17 : s.pending = t.pending) : s = t := by
  cases s; cases t; simp_all

end Sys2Proof.Machine
end

