-- ==== Sys2Proof/Laws/Flags.lean ====
section
/-! SUPPORT. What an offered event and a delivered raw condition can do: the first changes the event queue alone, the second the alarm block and
the queue. -/

namespace Sys2Proof.Machine

/-- An offered event changes the queue at most. -/
theorem State.offerFrom_eq (source : Station) (kind : EventKind) (subject : Nat) (values : List Word) (s : State) :
    ∃ q, s.offerFrom source kind subject values = s.withEvents q := by
  unfold State.offerFrom
  split
  · exact ⟨_, rfl⟩
  · exact ⟨s.events, rfl⟩

/-- A point's new state changes the alarm block and the queue at most, and the block as `withPoint` says. -/
theorem State.setPoint_eq (i : Fin 25) (p : PointState) (cause : Nat) (s : State) :
    ∃ q, s.setPoint i p cause = (s.withAlarms (s.alarms.withPoint s.lampMask i p)).withEvents q := by
  unfold State.setPoint
  split
  · exact ⟨s.events, rfl⟩
  · exact State.offerFrom_eq _ _ _ _ _

/-- A delivery changes the alarm block and the queue at most. -/
theorem State.deliver_eq (p : AlarmPoint) (raw : Bool) (s : State) : ∃ a q, s.deliver p raw = (s.withAlarms a).withEvents q := by
  unfold State.deliver
  split
  · obtain ⟨q, h⟩ := State.setPoint_eq (pointIndex p) _ _ s
    exact ⟨_, q, h⟩
  · exact ⟨s.alarms, s.events, rfl⟩

/-- An acknowledge of one point changes the alarm block and the queue at most. -/
theorem State.ackPoint_eq (cause : Nat) (s : State) (i : Fin 25) : ∃ a q, s.ackPoint cause i = (s.withAlarms a).withEvents q := by
  unfold State.ackPoint
  split
  · exact ⟨s.alarms, s.events, rfl⟩
  · obtain ⟨q, h⟩ := State.setPoint_eq i _ cause s
    exact ⟨_, q, h⟩

/-- A run of acknowledges changes the alarm block and the queue at most. -/
theorem State.ackList_eq (cause : Nat) (is : List (Fin 25)) (s : State) :
    ∃ a q, is.foldl (State.ackPoint cause) s = (s.withAlarms a).withEvents q := by
  induction is generalizing s with
  | nil => exact ⟨s.alarms, s.events, rfl⟩
  | cons i is ih =>
    obtain ⟨a, q, h⟩ := State.ackPoint_eq cause s i
    obtain ⟨a', q', h'⟩ := ih (s.ackPoint cause i)
    exact ⟨a', q', by rw [List.foldl_cons, h', h]; rfl⟩

/-- An acknowledge of every point changes the alarm block and the queue at most. -/
theorem State.ackAll_eq (cause : Nat) (s : State) : ∃ a q, s.ackAll cause = (s.withAlarms a).withEvents q :=
  State.ackList_eq cause _ s

section OfferFromFrame

variable (s : State) (source : Station) (kind : EventKind) (subject : Nat) (values : List Word)

@[simp] theorem State.offerFrom_start : (s.offerFrom source kind subject values).start = s.start := by
  obtain ⟨_, h⟩ := State.offerFrom_eq source kind subject values s; rw [h]; rfl
@[simp] theorem State.offerFrom_clock : (s.offerFrom source kind subject values).clock = s.clock := by
  obtain ⟨_, h⟩ := State.offerFrom_eq source kind subject values s; rw [h]; rfl
@[simp] theorem State.offerFrom_pins : (s.offerFrom source kind subject values).pins = s.pins := by
  obtain ⟨_, h⟩ := State.offerFrom_eq source kind subject values s; rw [h]; rfl
@[simp] theorem State.offerFrom_chanW : (s.offerFrom source kind subject values).chanW = s.chanW := by
  obtain ⟨_, h⟩ := State.offerFrom_eq source kind subject values s; rw [h]; rfl
@[simp] theorem State.offerFrom_chanX : (s.offerFrom source kind subject values).chanX = s.chanX := by
  obtain ⟨_, h⟩ := State.offerFrom_eq source kind subject values s; rw [h]; rfl
@[simp] theorem State.offerFrom_balance : (s.offerFrom source kind subject values).balance = s.balance := by
  obtain ⟨_, h⟩ := State.offerFrom_eq source kind subject values s; rw [h]; rfl
@[simp] theorem State.offerFrom_floats : (s.offerFrom source kind subject values).floats = s.floats := by
  obtain ⟨_, h⟩ := State.offerFrom_eq source kind subject values s; rw [h]; rfl
@[simp] theorem State.offerFrom_pump : (s.offerFrom source kind subject values).pump = s.pump := by
  obtain ⟨_, h⟩ := State.offerFrom_eq source kind subject values s; rw [h]; rfl
@[simp] theorem State.offerFrom_link : (s.offerFrom source kind subject values).link = s.link := by
  obtain ⟨_, h⟩ := State.offerFrom_eq source kind subject values s; rw [h]; rfl
@[simp] theorem State.offerFrom_table : (s.offerFrom source kind subject values).table = s.table := by
  obtain ⟨_, h⟩ := State.offerFrom_eq source kind subject values s; rw [h]; rfl
@[simp] theorem State.offerFrom_window : (s.offerFrom source kind subject values).window = s.window := by
  obtain ⟨_, h⟩ := State.offerFrom_eq source kind subject values s; rw [h]; rfl
@[simp] theorem State.offerFrom_screen : (s.offerFrom source kind subject values).screen = s.screen := by
  obtain ⟨_, h⟩ := State.offerFrom_eq source kind subject values s; rw [h]; rfl
@[simp] theorem State.offerFrom_spill : (s.offerFrom source kind subject values).spill = s.spill := by
  obtain ⟨_, h⟩ := State.offerFrom_eq source kind subject values s; rw [h]; rfl
@[simp] theorem State.offerFrom_alarms : (s.offerFrom source kind subject values).alarms = s.alarms := by
  obtain ⟨_, h⟩ := State.offerFrom_eq source kind subject values s; rw [h]; rfl
@[simp] theorem State.offerFrom_town : (s.offerFrom source kind subject values).town = s.town := by
  obtain ⟨_, h⟩ := State.offerFrom_eq source kind subject values s; rw [h]; rfl
@[simp] theorem State.offerFrom_pending : (s.offerFrom source kind subject values).pending = s.pending := by
  obtain ⟨_, h⟩ := State.offerFrom_eq source kind subject values s; rw [h]; rfl
@[simp] theorem State.offerFrom_cfg : (s.offerFrom source kind subject values).cfg = s.cfg := by
  obtain ⟨_, h⟩ := State.offerFrom_eq source kind subject values s; rw [h]; rfl
@[simp] theorem State.offerFrom_own : (s.offerFrom source kind subject values).own = s.own := by
  obtain ⟨_, h⟩ := State.offerFrom_eq source kind subject values s; rw [h]; rfl
@[simp] theorem State.offerFrom_started : (s.offerFrom source kind subject values).started = s.started := by
  obtain ⟨_, h⟩ := State.offerFrom_eq source kind subject values s; rw [h]; rfl
@[simp] theorem State.offerFrom_working : (s.offerFrom source kind subject values).working = s.working := by
  obtain ⟨_, h⟩ := State.offerFrom_eq source kind subject values s; rw [h]; rfl
@[simp] theorem State.offerFrom_operating : (s.offerFrom source kind subject values).operating = s.operating := by
  obtain ⟨_, h⟩ := State.offerFrom_eq source kind subject values s; rw [h]; rfl
@[simp] theorem State.offerFrom_screenRuns : (s.offerFrom source kind subject values).screenRuns = s.screenRuns := by
  obtain ⟨_, h⟩ := State.offerFrom_eq source kind subject values s; rw [h]; rfl
@[simp] theorem State.offerFrom_weirRuns : (s.offerFrom source kind subject values).weirRuns = s.weirRuns := by
  obtain ⟨_, h⟩ := State.offerFrom_eq source kind subject values s; rw [h]; rfl
@[simp] theorem State.offerFrom_stamp : (s.offerFrom source kind subject values).stamp = s.stamp := by
  obtain ⟨_, h⟩ := State.offerFrom_eq source kind subject values s; rw [h]; rfl

end OfferFromFrame

section OfferFrame

variable (s : State) (kind : EventKind) (subject : Nat) (values : List Word)

@[simp] theorem State.offer_start : (s.offer kind subject values).start = s.start := by
  unfold State.offer; obtain ⟨_, h⟩ := State.offerFrom_eq s.own kind subject values s; rw [h]; rfl
@[simp] theorem State.offer_clock : (s.offer kind subject values).clock = s.clock := by
  unfold State.offer; obtain ⟨_, h⟩ := State.offerFrom_eq s.own kind subject values s; rw [h]; rfl
@[simp] theorem State.offer_pins : (s.offer kind subject values).pins = s.pins := by
  unfold State.offer; obtain ⟨_, h⟩ := State.offerFrom_eq s.own kind subject values s; rw [h]; rfl
@[simp] theorem State.offer_chanW : (s.offer kind subject values).chanW = s.chanW := by
  unfold State.offer; obtain ⟨_, h⟩ := State.offerFrom_eq s.own kind subject values s; rw [h]; rfl
@[simp] theorem State.offer_chanX : (s.offer kind subject values).chanX = s.chanX := by
  unfold State.offer; obtain ⟨_, h⟩ := State.offerFrom_eq s.own kind subject values s; rw [h]; rfl
@[simp] theorem State.offer_balance : (s.offer kind subject values).balance = s.balance := by
  unfold State.offer; obtain ⟨_, h⟩ := State.offerFrom_eq s.own kind subject values s; rw [h]; rfl
@[simp] theorem State.offer_floats : (s.offer kind subject values).floats = s.floats := by
  unfold State.offer; obtain ⟨_, h⟩ := State.offerFrom_eq s.own kind subject values s; rw [h]; rfl
@[simp] theorem State.offer_pump : (s.offer kind subject values).pump = s.pump := by
  unfold State.offer; obtain ⟨_, h⟩ := State.offerFrom_eq s.own kind subject values s; rw [h]; rfl
@[simp] theorem State.offer_link : (s.offer kind subject values).link = s.link := by
  unfold State.offer; obtain ⟨_, h⟩ := State.offerFrom_eq s.own kind subject values s; rw [h]; rfl
@[simp] theorem State.offer_table : (s.offer kind subject values).table = s.table := by
  unfold State.offer; obtain ⟨_, h⟩ := State.offerFrom_eq s.own kind subject values s; rw [h]; rfl
@[simp] theorem State.offer_window : (s.offer kind subject values).window = s.window := by
  unfold State.offer; obtain ⟨_, h⟩ := State.offerFrom_eq s.own kind subject values s; rw [h]; rfl
@[simp] theorem State.offer_screen : (s.offer kind subject values).screen = s.screen := by
  unfold State.offer; obtain ⟨_, h⟩ := State.offerFrom_eq s.own kind subject values s; rw [h]; rfl
@[simp] theorem State.offer_spill : (s.offer kind subject values).spill = s.spill := by
  unfold State.offer; obtain ⟨_, h⟩ := State.offerFrom_eq s.own kind subject values s; rw [h]; rfl
@[simp] theorem State.offer_alarms : (s.offer kind subject values).alarms = s.alarms := by
  unfold State.offer; obtain ⟨_, h⟩ := State.offerFrom_eq s.own kind subject values s; rw [h]; rfl
@[simp] theorem State.offer_town : (s.offer kind subject values).town = s.town := by
  unfold State.offer; obtain ⟨_, h⟩ := State.offerFrom_eq s.own kind subject values s; rw [h]; rfl
@[simp] theorem State.offer_pending : (s.offer kind subject values).pending = s.pending := by
  unfold State.offer; obtain ⟨_, h⟩ := State.offerFrom_eq s.own kind subject values s; rw [h]; rfl
@[simp] theorem State.offer_cfg : (s.offer kind subject values).cfg = s.cfg := by
  unfold State.offer; obtain ⟨_, h⟩ := State.offerFrom_eq s.own kind subject values s; rw [h]; rfl
@[simp] theorem State.offer_own : (s.offer kind subject values).own = s.own := by
  unfold State.offer; obtain ⟨_, h⟩ := State.offerFrom_eq s.own kind subject values s; rw [h]; rfl
@[simp] theorem State.offer_started : (s.offer kind subject values).started = s.started := by
  unfold State.offer; obtain ⟨_, h⟩ := State.offerFrom_eq s.own kind subject values s; rw [h]; rfl
@[simp] theorem State.offer_working : (s.offer kind subject values).working = s.working := by
  unfold State.offer; obtain ⟨_, h⟩ := State.offerFrom_eq s.own kind subject values s; rw [h]; rfl
@[simp] theorem State.offer_operating : (s.offer kind subject values).operating = s.operating := by
  unfold State.offer; obtain ⟨_, h⟩ := State.offerFrom_eq s.own kind subject values s; rw [h]; rfl
@[simp] theorem State.offer_screenRuns : (s.offer kind subject values).screenRuns = s.screenRuns := by
  unfold State.offer; obtain ⟨_, h⟩ := State.offerFrom_eq s.own kind subject values s; rw [h]; rfl
@[simp] theorem State.offer_weirRuns : (s.offer kind subject values).weirRuns = s.weirRuns := by
  unfold State.offer; obtain ⟨_, h⟩ := State.offerFrom_eq s.own kind subject values s; rw [h]; rfl
@[simp] theorem State.offer_stamp : (s.offer kind subject values).stamp = s.stamp := by
  unfold State.offer; obtain ⟨_, h⟩ := State.offerFrom_eq s.own kind subject values s; rw [h]; rfl

end OfferFrame

section DeliverFrame

variable (s : State) (p : AlarmPoint) (raw : Bool)

@[simp] theorem State.deliver_start : (s.deliver p raw).start = s.start := by
  obtain ⟨_, _, h⟩ := State.deliver_eq p raw s; rw [h]; rfl
@[simp] theorem State.deliver_clock : (s.deliver p raw).clock = s.clock := by
  obtain ⟨_, _, h⟩ := State.deliver_eq p raw s; rw [h]; rfl
@[simp] theorem State.deliver_pins : (s.deliver p raw).pins = s.pins := by
  obtain ⟨_, _, h⟩ := State.deliver_eq p raw s; rw [h]; rfl
@[simp] theorem State.deliver_chanW : (s.deliver p raw).chanW = s.chanW := by
  obtain ⟨_, _, h⟩ := State.deliver_eq p raw s; rw [h]; rfl
@[simp] theorem State.deliver_chanX : (s.deliver p raw).chanX = s.chanX := by
  obtain ⟨_, _, h⟩ := State.deliver_eq p raw s; rw [h]; rfl
@[simp] theorem State.deliver_balance : (s.deliver p raw).balance = s.balance := by
  obtain ⟨_, _, h⟩ := State.deliver_eq p raw s; rw [h]; rfl
@[simp] theorem State.deliver_floats : (s.deliver p raw).floats = s.floats := by
  obtain ⟨_, _, h⟩ := State.deliver_eq p raw s; rw [h]; rfl
@[simp] theorem State.deliver_pump : (s.deliver p raw).pump = s.pump := by
  obtain ⟨_, _, h⟩ := State.deliver_eq p raw s; rw [h]; rfl
@[simp] theorem State.deliver_link : (s.deliver p raw).link = s.link := by
  obtain ⟨_, _, h⟩ := State.deliver_eq p raw s; rw [h]; rfl
@[simp] theorem State.deliver_table : (s.deliver p raw).table = s.table := by
  obtain ⟨_, _, h⟩ := State.deliver_eq p raw s; rw [h]; rfl
@[simp] theorem State.deliver_window : (s.deliver p raw).window = s.window := by
  obtain ⟨_, _, h⟩ := State.deliver_eq p raw s; rw [h]; rfl
@[simp] theorem State.deliver_screen : (s.deliver p raw).screen = s.screen := by
  obtain ⟨_, _, h⟩ := State.deliver_eq p raw s; rw [h]; rfl
@[simp] theorem State.deliver_spill : (s.deliver p raw).spill = s.spill := by
  obtain ⟨_, _, h⟩ := State.deliver_eq p raw s; rw [h]; rfl
@[simp] theorem State.deliver_town : (s.deliver p raw).town = s.town := by
  obtain ⟨_, _, h⟩ := State.deliver_eq p raw s; rw [h]; rfl
@[simp] theorem State.deliver_pending : (s.deliver p raw).pending = s.pending := by
  obtain ⟨_, _, h⟩ := State.deliver_eq p raw s; rw [h]; rfl
@[simp] theorem State.deliver_cfg : (s.deliver p raw).cfg = s.cfg := by
  obtain ⟨_, _, h⟩ := State.deliver_eq p raw s; rw [h]; rfl
@[simp] theorem State.deliver_own : (s.deliver p raw).own = s.own := by
  obtain ⟨_, _, h⟩ := State.deliver_eq p raw s; rw [h]; rfl
@[simp] theorem State.deliver_started : (s.deliver p raw).started = s.started := by
  obtain ⟨_, _, h⟩ := State.deliver_eq p raw s; rw [h]; rfl
@[simp] theorem State.deliver_working : (s.deliver p raw).working = s.working := by
  obtain ⟨_, _, h⟩ := State.deliver_eq p raw s; rw [h]; rfl
@[simp] theorem State.deliver_operating : (s.deliver p raw).operating = s.operating := by
  obtain ⟨_, _, h⟩ := State.deliver_eq p raw s; rw [h]; rfl
@[simp] theorem State.deliver_screenRuns : (s.deliver p raw).screenRuns = s.screenRuns := by
  obtain ⟨_, _, h⟩ := State.deliver_eq p raw s; rw [h]; rfl
@[simp] theorem State.deliver_weirRuns : (s.deliver p raw).weirRuns = s.weirRuns := by
  obtain ⟨_, _, h⟩ := State.deliver_eq p raw s; rw [h]; rfl
@[simp] theorem State.deliver_stamp : (s.deliver p raw).stamp = s.stamp := by
  obtain ⟨_, _, h⟩ := State.deliver_eq p raw s; rw [h]; rfl

end DeliverFrame

section AckPointFrame

variable (s : State) (cause : Nat) (i : Fin 25)

@[simp] theorem State.ackPoint_start : (s.ackPoint cause i).start = s.start := by
  obtain ⟨_, _, h⟩ := State.ackPoint_eq cause s i; rw [h]; rfl
@[simp] theorem State.ackPoint_clock : (s.ackPoint cause i).clock = s.clock := by
  obtain ⟨_, _, h⟩ := State.ackPoint_eq cause s i; rw [h]; rfl
@[simp] theorem State.ackPoint_pins : (s.ackPoint cause i).pins = s.pins := by
  obtain ⟨_, _, h⟩ := State.ackPoint_eq cause s i; rw [h]; rfl
@[simp] theorem State.ackPoint_chanW : (s.ackPoint cause i).chanW = s.chanW := by
  obtain ⟨_, _, h⟩ := State.ackPoint_eq cause s i; rw [h]; rfl
@[simp] theorem State.ackPoint_chanX : (s.ackPoint cause i).chanX = s.chanX := by
  obtain ⟨_, _, h⟩ := State.ackPoint_eq cause s i; rw [h]; rfl
@[simp] theorem State.ackPoint_balance : (s.ackPoint cause i).balance = s.balance := by
  obtain ⟨_, _, h⟩ := State.ackPoint_eq cause s i; rw [h]; rfl
@[simp] theorem State.ackPoint_floats : (s.ackPoint cause i).floats = s.floats := by
  obtain ⟨_, _, h⟩ := State.ackPoint_eq cause s i; rw [h]; rfl
@[simp] theorem State.ackPoint_pump : (s.ackPoint cause i).pump = s.pump := by
  obtain ⟨_, _, h⟩ := State.ackPoint_eq cause s i; rw [h]; rfl
@[simp] theorem State.ackPoint_link : (s.ackPoint cause i).link = s.link := by
  obtain ⟨_, _, h⟩ := State.ackPoint_eq cause s i; rw [h]; rfl
@[simp] theorem State.ackPoint_table : (s.ackPoint cause i).table = s.table := by
  obtain ⟨_, _, h⟩ := State.ackPoint_eq cause s i; rw [h]; rfl
@[simp] theorem State.ackPoint_window : (s.ackPoint cause i).window = s.window := by
  obtain ⟨_, _, h⟩ := State.ackPoint_eq cause s i; rw [h]; rfl
@[simp] theorem State.ackPoint_screen : (s.ackPoint cause i).screen = s.screen := by
  obtain ⟨_, _, h⟩ := State.ackPoint_eq cause s i; rw [h]; rfl
@[simp] theorem State.ackPoint_spill : (s.ackPoint cause i).spill = s.spill := by
  obtain ⟨_, _, h⟩ := State.ackPoint_eq cause s i; rw [h]; rfl
@[simp] theorem State.ackPoint_town : (s.ackPoint cause i).town = s.town := by
  obtain ⟨_, _, h⟩ := State.ackPoint_eq cause s i; rw [h]; rfl
@[simp] theorem State.ackPoint_pending : (s.ackPoint cause i).pending = s.pending := by
  obtain ⟨_, _, h⟩ := State.ackPoint_eq cause s i; rw [h]; rfl
@[simp] theorem State.ackPoint_cfg : (s.ackPoint cause i).cfg = s.cfg := by
  obtain ⟨_, _, h⟩ := State.ackPoint_eq cause s i; rw [h]; rfl
@[simp] theorem State.ackPoint_own : (s.ackPoint cause i).own = s.own := by
  obtain ⟨_, _, h⟩ := State.ackPoint_eq cause s i; rw [h]; rfl
@[simp] theorem State.ackPoint_started : (s.ackPoint cause i).started = s.started := by
  obtain ⟨_, _, h⟩ := State.ackPoint_eq cause s i; rw [h]; rfl
@[simp] theorem State.ackPoint_working : (s.ackPoint cause i).working = s.working := by
  obtain ⟨_, _, h⟩ := State.ackPoint_eq cause s i; rw [h]; rfl
@[simp] theorem State.ackPoint_operating : (s.ackPoint cause i).operating = s.operating := by
  obtain ⟨_, _, h⟩ := State.ackPoint_eq cause s i; rw [h]; rfl
@[simp] theorem State.ackPoint_screenRuns : (s.ackPoint cause i).screenRuns = s.screenRuns := by
  obtain ⟨_, _, h⟩ := State.ackPoint_eq cause s i; rw [h]; rfl
@[simp] theorem State.ackPoint_weirRuns : (s.ackPoint cause i).weirRuns = s.weirRuns := by
  obtain ⟨_, _, h⟩ := State.ackPoint_eq cause s i; rw [h]; rfl
@[simp] theorem State.ackPoint_stamp : (s.ackPoint cause i).stamp = s.stamp := by
  obtain ⟨_, _, h⟩ := State.ackPoint_eq cause s i; rw [h]; rfl

end AckPointFrame

section AckAllFrame

variable (s : State) (cause : Nat)

@[simp] theorem State.ackAll_start : (s.ackAll cause).start = s.start := by
  obtain ⟨_, _, h⟩ := State.ackAll_eq cause s; rw [h]; rfl
@[simp] theorem State.ackAll_clock : (s.ackAll cause).clock = s.clock := by
  obtain ⟨_, _, h⟩ := State.ackAll_eq cause s; rw [h]; rfl
@[simp] theorem State.ackAll_pins : (s.ackAll cause).pins = s.pins := by
  obtain ⟨_, _, h⟩ := State.ackAll_eq cause s; rw [h]; rfl
@[simp] theorem State.ackAll_chanW : (s.ackAll cause).chanW = s.chanW := by
  obtain ⟨_, _, h⟩ := State.ackAll_eq cause s; rw [h]; rfl
@[simp] theorem State.ackAll_chanX : (s.ackAll cause).chanX = s.chanX := by
  obtain ⟨_, _, h⟩ := State.ackAll_eq cause s; rw [h]; rfl
@[simp] theorem State.ackAll_balance : (s.ackAll cause).balance = s.balance := by
  obtain ⟨_, _, h⟩ := State.ackAll_eq cause s; rw [h]; rfl
@[simp] theorem State.ackAll_floats : (s.ackAll cause).floats = s.floats := by
  obtain ⟨_, _, h⟩ := State.ackAll_eq cause s; rw [h]; rfl
@[simp] theorem State.ackAll_pump : (s.ackAll cause).pump = s.pump := by
  obtain ⟨_, _, h⟩ := State.ackAll_eq cause s; rw [h]; rfl
@[simp] theorem State.ackAll_link : (s.ackAll cause).link = s.link := by
  obtain ⟨_, _, h⟩ := State.ackAll_eq cause s; rw [h]; rfl
@[simp] theorem State.ackAll_table : (s.ackAll cause).table = s.table := by
  obtain ⟨_, _, h⟩ := State.ackAll_eq cause s; rw [h]; rfl
@[simp] theorem State.ackAll_window : (s.ackAll cause).window = s.window := by
  obtain ⟨_, _, h⟩ := State.ackAll_eq cause s; rw [h]; rfl
@[simp] theorem State.ackAll_screen : (s.ackAll cause).screen = s.screen := by
  obtain ⟨_, _, h⟩ := State.ackAll_eq cause s; rw [h]; rfl
@[simp] theorem State.ackAll_spill : (s.ackAll cause).spill = s.spill := by
  obtain ⟨_, _, h⟩ := State.ackAll_eq cause s; rw [h]; rfl
@[simp] theorem State.ackAll_town : (s.ackAll cause).town = s.town := by
  obtain ⟨_, _, h⟩ := State.ackAll_eq cause s; rw [h]; rfl
@[simp] theorem State.ackAll_pending : (s.ackAll cause).pending = s.pending := by
  obtain ⟨_, _, h⟩ := State.ackAll_eq cause s; rw [h]; rfl
@[simp] theorem State.ackAll_cfg : (s.ackAll cause).cfg = s.cfg := by
  obtain ⟨_, _, h⟩ := State.ackAll_eq cause s; rw [h]; rfl
@[simp] theorem State.ackAll_own : (s.ackAll cause).own = s.own := by
  obtain ⟨_, _, h⟩ := State.ackAll_eq cause s; rw [h]; rfl
@[simp] theorem State.ackAll_started : (s.ackAll cause).started = s.started := by
  obtain ⟨_, _, h⟩ := State.ackAll_eq cause s; rw [h]; rfl
@[simp] theorem State.ackAll_working : (s.ackAll cause).working = s.working := by
  obtain ⟨_, _, h⟩ := State.ackAll_eq cause s; rw [h]; rfl
@[simp] theorem State.ackAll_operating : (s.ackAll cause).operating = s.operating := by
  obtain ⟨_, _, h⟩ := State.ackAll_eq cause s; rw [h]; rfl
@[simp] theorem State.ackAll_screenRuns : (s.ackAll cause).screenRuns = s.screenRuns := by
  obtain ⟨_, _, h⟩ := State.ackAll_eq cause s; rw [h]; rfl
@[simp] theorem State.ackAll_weirRuns : (s.ackAll cause).weirRuns = s.weirRuns := by
  obtain ⟨_, _, h⟩ := State.ackAll_eq cause s; rw [h]; rfl
@[simp] theorem State.ackAll_stamp : (s.ackAll cause).stamp = s.stamp := by
  obtain ⟨_, _, h⟩ := State.ackAll_eq cause s; rw [h]; rfl

end AckAllFrame

end Sys2Proof.Machine
end

