-- ==== Sys2Proof/Laws/Ops.lean ====
section
/-! SUPPORT. What the shared operations of Machine/Ops.lean can do: each moves the pump, the start window, the transmit queue, the derived
counts, the alarm block and the event queue, and nothing else. -/

namespace Sys2Proof.Machine

theorem State.Moves.refl (s : State) : s.Moves s :=
  ⟨rfl, rfl, rfl, rfl, rfl, rfl, rfl, rfl, rfl, rfl, rfl, rfl⟩

theorem State.Moves.trans {s t u : State} (h : s.Moves t) (k : t.Moves u) : s.Moves u :=
  ⟨k.start.trans h.start, k.clock.trans h.clock, k.pins.trans h.pins, k.chanW.trans h.chanW, k.chanX.trans h.chanX,
    k.floats.trans h.floats, k.screen.trans h.screen, k.spill.trans h.spill, k.town.trans h.town, k.pending.trans h.pending,
    by rw [k.table, h.table], by rw [k.balance, h.balance]⟩

/-- Parts that stay put under a move. -/
theorem State.Moves.cfg {s t : State} (h : s.Moves t) : t.cfg = s.cfg := by simp [State.cfg, h.start]
theorem State.Moves.own {s t : State} (h : s.Moves t) : t.own = s.own := by simp [State.own, h.start]
theorem State.Moves.operating {s t : State} (h : s.Moves t) : t.operating = s.operating := by simp [State.operating, h.start]
theorem State.Moves.working {s t : State} (h : s.Moves t) : t.working = s.working := by simp [State.working, h.start]
theorem State.Moves.started {s t : State} (h : s.Moves t) : t.started = s.started := by simp [State.started, h.start]
theorem State.Moves.entries {s t : State} (h : s.Moves t) : t.table.entries = s.table.entries := by rw [h.table]
theorem State.Moves.isolated {s t : State} (h : s.Moves t) : t.table.isolated = s.table.isolated := by rw [h.table]
theorem State.Moves.cause {s t : State} (h : s.Moves t) : t.table.cause = s.table.cause := by rw [h.table]
theorem State.Moves.silence {s t : State} (h : s.Moves t) : t.table.silence = s.table.silence := by rw [h.table]
theorem State.Moves.generator {s t : State} (h : s.Moves t) : t.table.generator = s.table.generator := by rw [h.table]
theorem State.Moves.demand {s t : State} (h : s.Moves t) : t.balance.demand = s.balance.demand := by rw [h.balance]
theorem State.Moves.level {s t : State} (h : s.Moves t) : t.balance.level = s.balance.level := by rw [h.balance]

/-- A move that ends in an offered event. -/
theorem State.Moves.offer {s t : State} (h : s.Moves t) (kind : EventKind) (subject : Nat) (values : List Word) :
    s.Moves (t.offer kind subject values) :=
  h.trans ⟨by simp, by simp, by simp, by simp, by simp, by simp, by simp, by simp, by simp, by simp, by simp, by simp⟩

/-- A move that ends in a delivered raw condition. -/
theorem State.Moves.deliver {s t : State} (h : s.Moves t) (p : AlarmPoint) (raw : Bool) : s.Moves (t.deliver p raw) :=
  h.trans ⟨by simp, by simp, by simp, by simp, by simp, by simp, by simp, by simp, by simp, by simp, by simp, by simp⟩

/-- A move that ends in an update of the pump. -/
theorem State.Moves.withPump {s t : State} (h : s.Moves t) (p : Pump) : s.Moves (t.withPump p) :=
  h.trans ⟨rfl, rfl, rfl, rfl, rfl, rfl, rfl, rfl, rfl, rfl, rfl, rfl⟩

/-- A move that ends in an update of the start window. -/
theorem State.Moves.withWindow {s t : State} (h : s.Moves t) (w : Window) : s.Moves (t.withWindow w) :=
  h.trans ⟨rfl, rfl, rfl, rfl, rfl, rfl, rfl, rfl, rfl, rfl, rfl, rfl⟩

/-- A move that ends in an update of the port. -/
theorem State.Moves.withLink {s t : State} (h : s.Moves t) (l : Link) : s.Moves (t.withLink l) :=
  h.trans ⟨rfl, rfl, rfl, rfl, rfl, rfl, rfl, rfl, rfl, rfl, rfl, rfl⟩

theorem State.offerFrame_moves (b : TxBody) (s : State) : s.Moves (s.offerFrame b) := (State.Moves.refl s).withLink _

theorem State.queueReport_moves (s : State) : s.Moves s.queueReport := by
  unfold State.queueReport
  split
  · exact (State.Moves.refl s).withLink _
  · exact .refl s

theorem State.withCounts_moves (s : State) : s.Moves s.withCounts := by
  unfold State.withCounts
  split
  · exact ⟨rfl, rfl, rfl, rfl, rfl, rfl, rfl, rfl, rfl, rfl, rfl, rfl⟩
  · exact .refl s

theorem State.evalRisk_moves (s : State) : s.Moves s.evalRisk := (State.Moves.refl s).deliver _ _

theorem State.endClaim_moves (s : State) : s.Moves s.endClaim := (State.Moves.refl s).withWindow _

theorem State.closeClaim_moves (outcome : ClaimOutcome) (s : State) : s.Moves (s.closeClaim outcome) := by
  unfold State.closeClaim
  split
  · exact .refl s
  · split
    · exact (State.Moves.refl s).withLink _
    · exact s.endClaim_moves.withLink _
  · exact s.endClaim_moves.trans (State.offerFrame_moves _ _)
  · exact s.endClaim_moves.trans (State.offerFrame_moves _ _)

theorem State.closeOwnClaim_moves (outcome : ClaimOutcome) (s : State) : s.Moves (s.closeOwnClaim outcome) := by
  unfold State.closeOwnClaim
  split
  · exact s.closeClaim_moves outcome
  · exact .refl s

/-! Blocks outside the reach of the recount, the queueing of a REPORT and the evaluation of OVERFLOW_RISK. -/

@[simp] theorem State.withCounts_start (s : State) : s.withCounts.start = s.start := by
  unfold State.withCounts; split <;> rfl
@[simp] theorem State.withCounts_clock (s : State) : s.withCounts.clock = s.clock := by
  unfold State.withCounts; split <;> rfl
@[simp] theorem State.withCounts_pins (s : State) : s.withCounts.pins = s.pins := by
  unfold State.withCounts; split <;> rfl
@[simp] theorem State.withCounts_chanW (s : State) : s.withCounts.chanW = s.chanW := by
  unfold State.withCounts; split <;> rfl
@[simp] theorem State.withCounts_chanX (s : State) : s.withCounts.chanX = s.chanX := by
  unfold State.withCounts; split <;> rfl
@[simp] theorem State.withCounts_floats (s : State) : s.withCounts.floats = s.floats := by
  unfold State.withCounts; split <;> rfl
@[simp] theorem State.withCounts_pump (s : State) : s.withCounts.pump = s.pump := by
  unfold State.withCounts; split <;> rfl
@[simp] theorem State.withCounts_link (s : State) : s.withCounts.link = s.link := by
  unfold State.withCounts; split <;> rfl
@[simp] theorem State.withCounts_window (s : State) : s.withCounts.window = s.window := by
  unfold State.withCounts; split <;> rfl
@[simp] theorem State.withCounts_screen (s : State) : s.withCounts.screen = s.screen := by
  unfold State.withCounts; split <;> rfl
@[simp] theorem State.withCounts_spill (s : State) : s.withCounts.spill = s.spill := by
  unfold State.withCounts; split <;> rfl
@[simp] theorem State.withCounts_alarms (s : State) : s.withCounts.alarms = s.alarms := by
  unfold State.withCounts; split <;> rfl
@[simp] theorem State.withCounts_events (s : State) : s.withCounts.events = s.events := by
  unfold State.withCounts; split <;> rfl
@[simp] theorem State.withCounts_town (s : State) : s.withCounts.town = s.town := by
  unfold State.withCounts; split <;> rfl
@[simp] theorem State.withCounts_pending (s : State) : s.withCounts.pending = s.pending := by
  unfold State.withCounts; split <;> rfl
@[simp] theorem State.withCounts_cfg (s : State) : s.withCounts.cfg = s.cfg := by
  unfold State.withCounts; split <;> rfl
@[simp] theorem State.withCounts_own (s : State) : s.withCounts.own = s.own := by
  unfold State.withCounts; split <;> rfl
@[simp] theorem State.withCounts_working (s : State) : s.withCounts.working = s.working := by
  unfold State.withCounts; split <;> rfl
@[simp] theorem State.withCounts_operating (s : State) : s.withCounts.operating = s.operating := by
  unfold State.withCounts; split <;> rfl
@[simp] theorem State.queueReport_start (s : State) : s.queueReport.start = s.start := by
  unfold State.queueReport; split <;> rfl
@[simp] theorem State.queueReport_clock (s : State) : s.queueReport.clock = s.clock := by
  unfold State.queueReport; split <;> rfl
@[simp] theorem State.queueReport_pins (s : State) : s.queueReport.pins = s.pins := by
  unfold State.queueReport; split <;> rfl
@[simp] theorem State.queueReport_chanW (s : State) : s.queueReport.chanW = s.chanW := by
  unfold State.queueReport; split <;> rfl
@[simp] theorem State.queueReport_chanX (s : State) : s.queueReport.chanX = s.chanX := by
  unfold State.queueReport; split <;> rfl
@[simp] theorem State.queueReport_balance (s : State) : s.queueReport.balance = s.balance := by
  unfold State.queueReport; split <;> rfl
@[simp] theorem State.queueReport_floats (s : State) : s.queueReport.floats = s.floats := by
  unfold State.queueReport; split <;> rfl
@[simp] theorem State.queueReport_pump (s : State) : s.queueReport.pump = s.pump := by
  unfold State.queueReport; split <;> rfl
@[simp] theorem State.queueReport_table (s : State) : s.queueReport.table = s.table := by
  unfold State.queueReport; split <;> rfl
@[simp] theorem State.queueReport_window (s : State) : s.queueReport.window = s.window := by
  unfold State.queueReport; split <;> rfl
@[simp] theorem State.queueReport_screen (s : State) : s.queueReport.screen = s.screen := by
  unfold State.queueReport; split <;> rfl
@[simp] theorem State.queueReport_spill (s : State) : s.queueReport.spill = s.spill := by
  unfold State.queueReport; split <;> rfl
@[simp] theorem State.queueReport_alarms (s : State) : s.queueReport.alarms = s.alarms := by
  unfold State.queueReport; split <;> rfl
@[simp] theorem State.queueReport_events (s : State) : s.queueReport.events = s.events := by
  unfold State.queueReport; split <;> rfl
@[simp] theorem State.queueReport_town (s : State) : s.queueReport.town = s.town := by
  unfold State.queueReport; split <;> rfl
@[simp] theorem State.queueReport_pending (s : State) : s.queueReport.pending = s.pending := by
  unfold State.queueReport; split <;> rfl
@[simp] theorem State.queueReport_cfg (s : State) : s.queueReport.cfg = s.cfg := by
  unfold State.queueReport; split <;> rfl
@[simp] theorem State.queueReport_own (s : State) : s.queueReport.own = s.own := by
  unfold State.queueReport; split <;> rfl
@[simp] theorem State.queueReport_working (s : State) : s.queueReport.working = s.working := by
  unfold State.queueReport; split <;> rfl
@[simp] theorem State.queueReport_operating (s : State) : s.queueReport.operating = s.operating := by
  unfold State.queueReport; split <;> rfl
@[simp] theorem State.evalRisk_start (s : State) : s.evalRisk.start = s.start := by simp [State.evalRisk]
@[simp] theorem State.evalRisk_clock (s : State) : s.evalRisk.clock = s.clock := by simp [State.evalRisk]
@[simp] theorem State.evalRisk_pins (s : State) : s.evalRisk.pins = s.pins := by simp [State.evalRisk]
@[simp] theorem State.evalRisk_chanW (s : State) : s.evalRisk.chanW = s.chanW := by simp [State.evalRisk]
@[simp] theorem State.evalRisk_chanX (s : State) : s.evalRisk.chanX = s.chanX := by simp [State.evalRisk]
@[simp] theorem State.evalRisk_balance (s : State) : s.evalRisk.balance = s.balance := by simp [State.evalRisk]
@[simp] theorem State.evalRisk_floats (s : State) : s.evalRisk.floats = s.floats := by simp [State.evalRisk]
@[simp] theorem State.evalRisk_pump (s : State) : s.evalRisk.pump = s.pump := by simp [State.evalRisk]
@[simp] theorem State.evalRisk_link (s : State) : s.evalRisk.link = s.link := by simp [State.evalRisk]
@[simp] theorem State.evalRisk_table (s : State) : s.evalRisk.table = s.table := by simp [State.evalRisk]
@[simp] theorem State.evalRisk_window (s : State) : s.evalRisk.window = s.window := by simp [State.evalRisk]
@[simp] theorem State.evalRisk_screen (s : State) : s.evalRisk.screen = s.screen := by simp [State.evalRisk]
@[simp] theorem State.evalRisk_spill (s : State) : s.evalRisk.spill = s.spill := by simp [State.evalRisk]
@[simp] theorem State.evalRisk_town (s : State) : s.evalRisk.town = s.town := by simp [State.evalRisk]
@[simp] theorem State.evalRisk_pending (s : State) : s.evalRisk.pending = s.pending := by simp [State.evalRisk]
@[simp] theorem State.evalRisk_cfg (s : State) : s.evalRisk.cfg = s.cfg := by simp [State.evalRisk]
@[simp] theorem State.evalRisk_own (s : State) : s.evalRisk.own = s.own := by simp [State.evalRisk]
@[simp] theorem State.evalRisk_working (s : State) : s.evalRisk.working = s.working := by simp [State.evalRisk]
@[simp] theorem State.evalRisk_operating (s : State) : s.evalRisk.operating = s.operating := by simp [State.evalRisk]
@[simp] theorem State.closeClaim_start (o : ClaimOutcome) (s : State) : (s.closeClaim o).start = s.start := by
  unfold State.closeClaim; split <;> try split
  all_goals rfl
@[simp] theorem State.closeOwnClaim_start (o : ClaimOutcome) (s : State) : (s.closeOwnClaim o).start = s.start := by
  unfold State.closeOwnClaim; split <;> simp
@[simp] theorem State.closeClaim_clock (o : ClaimOutcome) (s : State) : (s.closeClaim o).clock = s.clock := by
  unfold State.closeClaim; split <;> try split
  all_goals rfl
@[simp] theorem State.closeOwnClaim_clock (o : ClaimOutcome) (s : State) : (s.closeOwnClaim o).clock = s.clock := by
  unfold State.closeOwnClaim; split <;> simp
@[simp] theorem State.closeClaim_pins (o : ClaimOutcome) (s : State) : (s.closeClaim o).pins = s.pins := by
  unfold State.closeClaim; split <;> try split
  all_goals rfl
@[simp] theorem State.closeOwnClaim_pins (o : ClaimOutcome) (s : State) : (s.closeOwnClaim o).pins = s.pins := by
  unfold State.closeOwnClaim; split <;> simp
@[simp] theorem State.closeClaim_chanW (o : ClaimOutcome) (s : State) : (s.closeClaim o).chanW = s.chanW := by
  unfold State.closeClaim; split <;> try split
  all_goals rfl
@[simp] theorem State.closeOwnClaim_chanW (o : ClaimOutcome) (s : State) : (s.closeOwnClaim o).chanW = s.chanW := by
  unfold State.closeOwnClaim; split <;> simp
@[simp] theorem State.closeClaim_chanX (o : ClaimOutcome) (s : State) : (s.closeClaim o).chanX = s.chanX := by
  unfold State.closeClaim; split <;> try split
  all_goals rfl
@[simp] theorem State.closeOwnClaim_chanX (o : ClaimOutcome) (s : State) : (s.closeOwnClaim o).chanX = s.chanX := by
  unfold State.closeOwnClaim; split <;> simp
@[simp] theorem State.closeClaim_balance (o : ClaimOutcome) (s : State) : (s.closeClaim o).balance = s.balance := by
  unfold State.closeClaim; split <;> try split
  all_goals rfl
@[simp] theorem State.closeOwnClaim_balance (o : ClaimOutcome) (s : State) : (s.closeOwnClaim o).balance = s.balance := by
  unfold State.closeOwnClaim; split <;> simp
@[simp] theorem State.closeClaim_floats (o : ClaimOutcome) (s : State) : (s.closeClaim o).floats = s.floats := by
  unfold State.closeClaim; split <;> try split
  all_goals rfl
@[simp] theorem State.closeOwnClaim_floats (o : ClaimOutcome) (s : State) : (s.closeOwnClaim o).floats = s.floats := by
  unfold State.closeOwnClaim; split <;> simp
@[simp] theorem State.closeClaim_pump (o : ClaimOutcome) (s : State) : (s.closeClaim o).pump = s.pump := by
  unfold State.closeClaim; split <;> try split
  all_goals rfl
@[simp] theorem State.closeOwnClaim_pump (o : ClaimOutcome) (s : State) : (s.closeOwnClaim o).pump = s.pump := by
  unfold State.closeOwnClaim; split <;> simp
@[simp] theorem State.closeClaim_table (o : ClaimOutcome) (s : State) : (s.closeClaim o).table = s.table := by
  unfold State.closeClaim; split <;> try split
  all_goals rfl
@[simp] theorem State.closeOwnClaim_table (o : ClaimOutcome) (s : State) : (s.closeOwnClaim o).table = s.table := by
  unfold State.closeOwnClaim; split <;> simp
@[simp] theorem State.closeClaim_screen (o : ClaimOutcome) (s : State) : (s.closeClaim o).screen = s.screen := by
  unfold State.closeClaim; split <;> try split
  all_goals rfl
@[simp] theorem State.closeOwnClaim_screen (o : ClaimOutcome) (s : State) : (s.closeOwnClaim o).screen = s.screen := by
  unfold State.closeOwnClaim; split <;> simp
@[simp] theorem State.closeClaim_spill (o : ClaimOutcome) (s : State) : (s.closeClaim o).spill = s.spill := by
  unfold State.closeClaim; split <;> try split
  all_goals rfl
@[simp] theorem State.closeOwnClaim_spill (o : ClaimOutcome) (s : State) : (s.closeOwnClaim o).spill = s.spill := by
  unfold State.closeOwnClaim; split <;> simp
@[simp] theorem State.closeClaim_alarms (o : ClaimOutcome) (s : State) : (s.closeClaim o).alarms = s.alarms := by
  unfold State.closeClaim; split <;> try split
  all_goals rfl
@[simp] theorem State.closeOwnClaim_alarms (o : ClaimOutcome) (s : State) : (s.closeOwnClaim o).alarms = s.alarms := by
  unfold State.closeOwnClaim; split <;> simp
@[simp] theorem State.closeClaim_events (o : ClaimOutcome) (s : State) : (s.closeClaim o).events = s.events := by
  unfold State.closeClaim; split <;> try split
  all_goals rfl
@[simp] theorem State.closeOwnClaim_events (o : ClaimOutcome) (s : State) : (s.closeOwnClaim o).events = s.events := by
  unfold State.closeOwnClaim; split <;> simp
@[simp] theorem State.closeClaim_town (o : ClaimOutcome) (s : State) : (s.closeClaim o).town = s.town := by
  unfold State.closeClaim; split <;> try split
  all_goals rfl
@[simp] theorem State.closeOwnClaim_town (o : ClaimOutcome) (s : State) : (s.closeOwnClaim o).town = s.town := by
  unfold State.closeOwnClaim; split <;> simp
@[simp] theorem State.closeClaim_pending (o : ClaimOutcome) (s : State) : (s.closeClaim o).pending = s.pending := by
  unfold State.closeClaim; split <;> try split
  all_goals rfl
@[simp] theorem State.closeOwnClaim_pending (o : ClaimOutcome) (s : State) : (s.closeOwnClaim o).pending = s.pending := by
  unfold State.closeOwnClaim; split <;> simp
@[simp] theorem State.closeClaim_cfg (o : ClaimOutcome) (s : State) : (s.closeClaim o).cfg = s.cfg := by
  unfold State.closeClaim; split <;> try split
  all_goals rfl
@[simp] theorem State.closeOwnClaim_cfg (o : ClaimOutcome) (s : State) : (s.closeOwnClaim o).cfg = s.cfg := by
  unfold State.closeOwnClaim; split <;> simp
@[simp] theorem State.closeClaim_own (o : ClaimOutcome) (s : State) : (s.closeClaim o).own = s.own := by
  unfold State.closeClaim; split <;> try split
  all_goals rfl
@[simp] theorem State.closeOwnClaim_own (o : ClaimOutcome) (s : State) : (s.closeOwnClaim o).own = s.own := by
  unfold State.closeOwnClaim; split <;> simp
@[simp] theorem State.closeClaim_working (o : ClaimOutcome) (s : State) : (s.closeClaim o).working = s.working := by
  unfold State.closeClaim; split <;> try split
  all_goals rfl
@[simp] theorem State.closeOwnClaim_working (o : ClaimOutcome) (s : State) : (s.closeOwnClaim o).working = s.working := by
  unfold State.closeOwnClaim; split <;> simp
@[simp] theorem State.closeClaim_operating (o : ClaimOutcome) (s : State) : (s.closeClaim o).operating = s.operating := by
  unfold State.closeClaim; split <;> try split
  all_goals rfl
@[simp] theorem State.closeOwnClaim_operating (o : ClaimOutcome) (s : State) : (s.closeOwnClaim o).operating = s.operating := by
  unfold State.closeOwnClaim; split <;> simp

theorem State.enter_moves (st : PumpState) (s : State) : s.Moves (s.enter st) :=
  ((((State.Moves.refl s).withPump _).withWindow _).trans (State.queueReport_moves _)).trans
    ((State.withCounts_moves _).trans (State.evalRisk_moves _))

/-- What a pump state's entry makes of the pump. -/
@[simp] theorem State.enter_pump (st : PumpState) (s : State) : (s.enter st).pump = s.pump.enter st := by
  simp [State.enter]

/-- What a pump state's entry makes of the start window. -/
@[simp] theorem State.enter_window (st : PumpState) (s : State) :
    (s.enter st).window = { s.window with patience := if st = .waiting then .start else .stopped } := by
  simp [State.enter]

theorem State.trip_moves (cause : TripCause) (s : State) : s.Moves (s.trip cause) := by
  unfold State.trip
  refine State.Moves.offer (State.Moves.trans (State.Moves.trans ?_ (State.closeOwnClaim_moves _ _)) (State.enter_moves _ _)) _ _ _
  split
  · exact (State.Moves.refl s).withPump _
  · exact ((State.Moves.refl s).withPump _).deliver _ _

theorem State.enterRest_moves (st : PumpState) (s : State) : s.Moves (s.enterRest st) := by
  unfold State.enterRest
  dsimp only
  split
  · exact (s.enter_moves st).trans (State.trip_moves _ _)
  · exact s.enter_moves st

theorem State.completeStop_moves (s : State) : s.Moves s.completeStop := by
  unfold State.completeStop
  split
  · exact s.enterRest_moves _
  · exact s.enterRest_moves _

theorem State.stopPump_moves (cause : StopCause) (s : State) : s.Moves (s.stopPump cause) := by
  have base : s.Moves (((s.closeOwnClaim .withdrawn).enter .stopping).offerStopped cause) :=
    ((s.closeOwnClaim_moves _).trans (State.enter_moves _ _)).offer _ _ _
  unfold State.stopPump
  dsimp only
  split
  · exact base
  · exact base.trans (State.completeStop_moves _)

theorem State.enterStarting_moves (viaClaim : Bool) (s : State) : s.Moves (s.enterStarting viaClaim) :=
  ((State.Moves.refl s).withWindow _).trans (State.enter_moves _ _)

theorem State.openClaim_moves (s : State) : s.Moves s.openClaim :=
  (((State.Moves.refl s).withWindow _).trans (State.offerFrame_moves _ _)).trans (State.enter_moves _ _)

theorem State.evalClaim_moves (s : State) : s.Moves s.evalClaim := by
  unfold State.evalClaim
  split
  · exact s.openClaim_moves
  · exact .refl s

theorem State.beginStagger_moves (s : State) : s.Moves s.beginStagger := by
  unfold State.beginStagger
  split
  · exact s.enterStarting_moves _
  · exact (State.Moves.refl s).withPump _

theorem State.enterWaiting_moves (s : State) : s.Moves s.enterWaiting := by
  unfold State.enterWaiting
  refine (s.enter_moves .waiting).trans ?_
  dsimp only
  split
  · split
    · exact State.beginStagger_moves _
    · exact State.evalClaim_moves _
  · exact State.enter_moves _ _

theorem State.enterIdle_moves (s : State) : s.Moves s.enterIdle := by
  unfold State.enterIdle
  refine (s.enter_moves .idle).trans ?_
  dsimp only
  split
  · exact State.enterWaiting_moves _
  · exact .refl _

theorem State.endLockout_moves (s : State) : s.Moves s.endLockout := by
  unfold State.endLockout
  split
  · exact s.enterIdle_moves
  · exact .refl s

theorem State.checkLockout_moves (s : State) : s.Moves s.checkLockout := by
  unfold State.checkLockout
  split
  · exact s.enterIdle_moves
  · exact .refl s

theorem State.immediateStop_moves (s : State) : s.Moves s.immediateStop := by
  unfold State.immediateStop
  split
  · split
    · exact s.stopPump_moves _
    · split
      · exact s.stopPump_moves _
      · exact .refl s
  · exact .refl s

theorem State.dutyStop_moves (s : State) : s.Moves s.dutyStop := by
  unfold State.dutyStop
  generalize (if s.table.isolated = true then s.isolatedStopHolds else s.stopRuleHolds) = holds
  split
  · exact s.stopPump_moves _
  · exact .refl s

theorem State.onDemand_moves (s : State) : s.Moves s.onDemand := by
  unfold State.onDemand
  split
  · split
    · exact s.enterWaiting_moves
    · exact .refl s
  · split
    · exact .refl s
    · exact s.enter_moves _
  · exact s.immediateStop_moves.trans (State.dutyStop_moves _)
  · exact .refl s

/-- A hand-on moves the state it is given. -/
theorem State.handOn_moves (before after : State) : after.Moves (before.handOn after) := by
  unfold State.handOn
  refine State.Moves.trans ?_ (State.evalRisk_moves _)
  split
  · exact after.onDemand_moves
  · exact .refl after

theorem State.recount_moves (s : State) : s.Moves s.recount :=
  s.withCounts_moves.trans (State.handOn_moves _ _)

/-- D recomputed and handed on moves the state with its new D. -/
theorem State.redemand_moves (s : State) : s.withDemand.Moves s.redemand :=
  (State.withCounts_moves _).trans (State.handOn_moves _ _)

theorem State.onIsolation_moves (s : State) : s.Moves s.onIsolation := by
  unfold State.onIsolation
  split
  · split
    · split
      · exact s.beginStagger_moves
      · exact s.enter_moves _
    · exact (s.closeOwnClaim_moves _).trans (State.enterIdle_moves _)
    · exact .refl s
  · split
    · dsimp only
      split
      · exact ((State.Moves.refl s).withPump _).trans (State.evalClaim_moves _)
      · exact ((State.Moves.refl s).withPump _).trans (State.enter_moves _ _)
    · exact .refl s

/-- A change of the isolated flag moves the state with the flag and its cause set. -/
theorem State.setIsolated_moves (flag : Bool) (cause : IsolationCause) (s : State) :
    (s.withTable { s.table with isolated := flag, cause := cause }).Moves (s.setIsolated flag cause) := by
  unfold State.setIsolated
  dsimp only
  split
  · exact .refl _
  · exact ((State.recount_moves _).trans (State.onIsolation_moves _)).deliver _ _

/-! ## What R and E are once counted -/

/-- In a working state the recount sets C, A, the supply, Slim, R and E. -/
theorem State.withCounts_counts {s : State} (h : s.working = true) :
    s.withCounts.table.drawing = s.drawingCount ∧ s.withCounts.table.available = s.availableCount ∧
    s.withCounts.table.supply = s.houseSupply ∧ s.withCounts.table.screenLimit = s.slim ∧
    s.withCounts.balance.limit = s.cfg.runningLimit s.houseSupply ∧
    s.withCounts.balance.effective =
      min (min s.balance.demand (s.cfg.runningLimit s.houseSupply)) (min s.slim s.availableCount) := by
  simp [State.withCounts, h]

/-! ## The contactor -/

/-- Entry to a state sets the contactor output (R46). -/
@[simp] theorem Pump.enter_contactor (st : PumpState) (p : Pump) : (p.enter st).contactor = (st == .starting || st == .running) := rfl

/-- Entry to a state is entry to that state. -/
@[simp] theorem Pump.enter_state (st : PumpState) (p : Pump) : (p.enter st).state = st := rfl

/-- Entry to a state leaves the trip latch. -/
@[simp] theorem Pump.enter_latch (st : PumpState) (p : Pump) : (p.enter st).latch = p.latch := rfl

/-- Entry to a state leaves the filters of the inputs. -/
@[simp] theorem Pump.enter_runFb (st : PumpState) (p : Pump) : (p.enter st).runFb = p.runFb := rfl

/-- Entry to a state leaves the filter of the fault contact. -/
@[simp] theorem Pump.enter_faultContact (st : PumpState) (p : Pump) : (p.enter st).faultContact = p.faultContact := rfl

/-- Entry to a state leaves the inhibit flag. -/
@[simp] theorem Pump.enter_inhibit (st : PumpState) (p : Pump) : (p.enter st).inhibit = p.inhibit := rfl

/-! Timers, and the end of a claim. -/

@[simp] theorem Timer.due_running (limit ms : Nat) : (Timer.running ms).due limit = decide (limit ≤ ms) := rfl
@[simp] theorem Timer.due_renewed (limit : Nat) : Timer.renewed.due limit = false := rfl
@[simp] theorem Timer.due_stopped (limit : Nat) : Timer.stopped.due limit = false := rfl
@[simp] theorem Timer.due_reached (limit : Nat) : Timer.reached.due limit = false := rfl

/-- A timer at its limit runs. -/
theorem Timer.isRunning_of_due {limit : Nat} {t : Timer} (h : t.due limit = true) : t.isRunning = true := by
  cases t <;> simp_all [Timer.isRunning]

/-- A timer that has just been started from 0 is not at its limit, so no expiry of that instant can be taken (R57, R87, R97). -/
theorem Timer.start_not_due {limit : Nat} (h : 0 < limit) : Timer.start.due limit = false := by
  simp [Timer.start]; omega

/-- A restarted interval timer runs from 0: only at the instant of its limit is its expiry still to come. -/
theorem Timer.restart_cases (limit : Nat) (t : Timer) : t.restart limit = .running 0 ∨ t.restart limit = .renewed := by
  cases t <;> simp only [Timer.restart, Timer.start]
  · exact .inl trivial
  · split
    · exact .inr rfl
    · exact .inl rfl
  · exact .inr trivial
  · exact .inl trivial

/-- The start of a cycle leaves the expiry of its instant to be taken, and gives no other (R133). -/
theorem Timer.restart_canExpire {limit : Nat} (h : 0 < limit) (t : Timer) : (t.restart limit).canExpire limit = t.canExpire limit := by
  have h0 : ¬ limit = 0 := by omega
  cases t with
  | running ms => by_cases hm : limit ≤ ms <;> simp [Timer.restart, Timer.canExpire, Timer.due, Timer.start, hm, h0]
  | stopped => simp [Timer.restart, Timer.canExpire, Timer.due, Timer.start, h0]
  | renewed => rfl
  | reached => simp [Timer.restart, Timer.canExpire, Timer.due, Timer.start, h0]

@[simp] theorem Timer.restart_isRunning (limit : Nat) (t : Timer) : (t.restart limit).isRunning = true := by
  rcases t.restart_cases limit with h | h <;> simp [h, Timer.isRunning]

@[simp] theorem State.endClaim_window (s : State) :
    s.endClaim.window = { s.window with view := .free, claim := .none, hold := .stopped } := rfl
@[simp] theorem State.endClaim_link (s : State) : s.endClaim.link = s.link := rfl
@[simp] theorem State.endClaim_pump (s : State) : s.endClaim.pump = s.pump := rfl
@[simp] theorem State.endClaim_alarms (s : State) : s.endClaim.alarms = s.alarms := rfl
@[simp] theorem State.endClaim_events (s : State) : s.endClaim.events = s.events := rfl

end Sys2Proof.Machine
end

