-- ==== Sys2Proof/Laws/Pump.lean ====
section
/-! SUPPORT. The selector: what a change of its position may touch, and what an OFF combination that has held its 500 ms does (R44, R47, R48). -/

namespace Sys2Proof.Machine

theorem State.clearLatch_moves (s : State) : s.Moves s.clearLatch := by
  unfold State.clearLatch
  split
  · exact .refl s
  · dsimp only
    split
    · exact (State.Moves.refl s).withPump _
    · exact ((State.Moves.refl s).withPump _).deliver _ _

theorem State.leaveAuto_moves (st : PumpState) (s : State) : s.Moves (s.leaveAuto st) := by
  have left : s.Moves ((s.closeOwnClaim .withdrawn).enter st) := (s.closeOwnClaim_moves .withdrawn).trans (State.enter_moves st _)
  unfold State.leaveAuto
  dsimp only
  split
  · exact left.offer _ _ _
  · exact left

/-- Leaving AUTO makes of the sequencer's block what entry to the new state makes of it. -/
@[simp] theorem State.leaveAuto_pump (st : PumpState) (s : State) : (s.leaveAuto st).pump = s.pump.enter st := by
  unfold State.leaveAuto
  dsimp only
  split <;> simp [State.offerStopped]

theorem State.enterAuto_moves (old : Position) (s : State) : s.Moves (s.enterAuto old) := by
  unfold State.enterAuto
  dsimp only
  have reset : s.Moves (if old = .off ∧ s.mayReset = true then s.clearLatch else s) := by
    split
    · exact s.clearLatch_moves
    · exact .refl s
  generalize (if old = .off ∧ s.mayReset = true then s.clearLatch else s) = r at reset ⊢
  split
  · exact reset.trans (State.enter_moves _ _)
  · split
    · exact reset.trans (State.trip_moves _ _)
    · split <;> exact reset.trans (State.enterRest_moves _ _)

/-- A change of the selector position touches only what the sequencer's own transitions touch. -/
theorem State.setPosition_moves (pos : Position) (s : State) : s.Moves (s.setPosition pos) := by
  have moved : s.Moves (s.withPump { s.pump with position := pos }) := (State.Moves.refl s).withPump _
  unfold State.setPosition
  dsimp only
  split
  · exact .refl s
  · split
    · split
      · exact moved.trans (State.leaveAuto_moves _ _)
      · exact moved.trans (State.leaveAuto_moves _ _)
      · exact moved.trans (State.enter_moves _ _)
      · exact moved.trans (State.enter_moves _ _)
      · exact moved.trans (State.enterAuto_moves _ _)
      · exact moved
    · exact moved

/-- An OFF combination that has held its 500 ms touches only what the sequencer's own transitions touch. -/
theorem State.takeOff_moves (s : State) : s.Moves s.takeOff :=
  (((State.Moves.refl s).withPump _).deliver _ _).trans (State.setPosition_moves _ _)

theorem State.settleOff_moves (s : State) : s.Moves s.settleOff := by
  unfold State.settleOff
  split
  · exact s.takeOff_moves
  · exact .refl s

/-- What OFF does to the sequencer's block: the position alone where it is OFF already or the part is not OPERATING, and the halt in OFF
otherwise (R44, R47). -/
theorem State.takeOff_pump (s : State) :
    s.takeOff.pump =
      if s.pump.position = .off ∨ s.operating = false then { s.pump with position := .off, offHold := .reached }
      else Pump.enter .off { s.pump with position := .off, offHold := .reached } := by
  cases hp : s.pump.position <;> cases ho : s.operating <;> simp [State.takeOff, State.setPosition, hp, ho]

/-- A hold that is short of its 500 ms is left alone by the contact that ends it. -/
theorem State.settleOff_of_short {s : State} (h : s.pump.offHold.due slowFilter = false) : s.settleOff = s := by simp [State.settleOff, h]

/-- A hold of 500 ms or more gives OFF before the contact that ends it is taken (R44). -/
theorem State.settleOff_of_due {s : State} (h : s.pump.offHold.due slowFilter = true) : s.settleOff = s.takeOff := by simp [State.settleOff, h]

end Sys2Proof.Machine
end

