-- ==== Sys2Proof/WellFormed.lean ====
section
/-! DEFINITION. Well-formed commands: the ranges the manual gives the operands that their types do not already fix. Every meaning is
total, so an ill-formed command has a meaning too; the check says which operands the part can meet. -/

namespace Sys2Proof

/-- A read attempt delivers exactly `n` bytes, or fails (R170). -/
def readWellFormed (n : Nat) (r : Option (List Byte)) : Bool :=
  match r with
  | none => true
  | some bytes => bytes.length == n

/-- Between one and three read attempts (R170), each of `n` bytes or failed. -/
def readsWellFormed (n : Nat) (reads : List (Option (List Byte))) : Bool :=
  (1 ≤ reads.length && reads.length ≤ 3) && reads.all (readWellFormed n)

/-- The operand ranges of R1 and R15 (conversion), R70 (slot numbers count from 1), R170 (read attempts, 200 and 3 bytes) and R67
and R159 (a frame or a message is a run of characters, so it is not empty). -/
def Instr.wellFormed (i : Instr) : Bool :=
  match i with
  | .sampleEvent _ conversion => -1000 ≤ conversion && conversion ≤ 25000
  | .transmitSlot slot => 1 ≤ slot
  | .loadingEnd _ _ _ imageReads hoursReads => readsWellFormed 200 imageReads && readsWellFormed 3 hoursReads
  | .badFrame bytes _ => !bytes.isEmpty
  | .unservedTownMessage bytes _ _ => !bytes.isEmpty
  | _ => true

end Sys2Proof
end

