-- ==== Sys2Proof/Tests/Slice0.lean ====
section
/-! SUPPORT. Small tests: the checks of well-formed commands, worked figures of the manual, and for every statement with hypotheses a
  concrete state
and operands that meet them. -/

set_option Elab.async false

namespace Sys2Proof.Tests

open Sys2Proof Sys2Proof.Machine

/-! ## The states the tests start from: station 2 of the house of section 2.11 -/

/-- The parameters of the worked figures (sections 2.11, 1.9, 8.4). -/
def testSettings : Settings :=
  { Settings.configFault 2 with
    channelW := { datum := -500, span := 6000, stepLimit := 300, faultHold := 10, checkInterval := 60 }
    channelX := { datum := -500, span := 6000, stepLimit := 300, faultHold := 10, checkInterval := 60 }
    riskLevel := 2300, ratedFlow := 250, trendArm := 1000, referenceFlow := 250, houseReporter := 2, houseSize := 4
    volumeTable := [(0, 0), (1000, 60000), (2000, 150000), (3000, 260000)]
    bands := [(1200, 600), (1600, 1000), (2000, 1400), (2400, 1800)]
    crestLevel := 1500, weirFactor := 3680, townAddress := 10, remote := true }

/-- A channel that has sampled one level for a while. -/
def steady (level : Int) : Channel :=
  { Channel.reset with
    phase := .sampling, samples := List.replicate 8 level, level := some level, check := .running 0
    offeredLevel := some level, offeredQuality := .good }

/-- D, C, A, the limits and E as the state gives them. -/
def counted (s : State) : State := s.withDemand.withCounts

/-- Station 2 in operation with its pump in a state and H at 1,500 mm. -/
def op (st : PumpState) : State :=
  counted
    { State.reset with
      start := { phase := .operating, station := 2, settings := testSettings, listening := .stopped }
      chanW := steady 1500
      balance := { Balance.reset with level := some 1500, volume := 105000, band := 2, firstEstimate := false }
      pump :=
        { Pump.reset with
          state := st, contactor := st == .starting || st == .running
          position := match st with | .off => .off | .hand => .hand | _ => .auto
          latch := if st = .tripped then some .startFail else none
          runFb := { active := st == .running || st == .stopping, timer := .stopped }
          feedback := if st = .starting ∨ st = .stopping then .running 0 else .stopped
          lockout := if st = .lockout then .running 0 else .stopped }
      link := { Link.reset with listening := true } }

def withBlocks (f : Settings → Settings) (s : State) : State := counted (s.withStart { s.start with settings := f s.start.settings })
def screenStation : State := withBlocks (fun g => { g with role := .screen }) ((op .running).withChanX (steady 1600))
def weirStation : State := withBlocks (fun g => { g with role := .weir }) (op .running)
def faultedStation : State :=
  { State.reset with start := { phase := .configFault, station := 2, settings := .configFault 2, listening := .stopped } }
def noTownTimeout (s : State) : State := withBlocks (fun g => { g with townTimeout := 0 }) s
def houseOfOne (s : State) : State := withBlocks (fun g => { g with houseSize := 1 }) s
def localOnly (s : State) : State := withBlocks (fun g => { g with remote := false }) s
def asStation (n : Station) (s : State) : State := counted (s.withStart { s.start with station := n })

/-! Timers that a state is named after stand at their limits. -/

/-! Levels and the balance unit. -/
def sampling (s : State) : State := s.withChanW (steady 1500)
def checkDueNow (s : State) : State := s.withChanW { steady 1500 with check := .running 3600000 }
def samplingX (s : State) : State := s.withChanX (steady 1600)
def settling (s : State) : State := s.withChanW { Channel.reset with phase := .settling, discard := 1 }
def checkReached (s : State) : State := s.withChanW { steady 1500 with check := .reached }
def inPeriod (n : Nat) (s : State) : State := s.withChanW { s.chanW with phase := .checking, period := n, check := .stopped }
def holding (s : State) : State := s.withChanW { s.chanW with fault := .holding, hold := .running 10000 }
def timing (s : State) : State := s.withBalance { s.balance with timer := .running 10000 }
def estimating (s : State) : State :=
  (timing s).withBalance { (timing s).balance with prevValid := true, volumePrev := 105000, outflowPrev := 250 }
def levelAt (h : Int) (s : State) : State := counted (s.withBalance { s.balance with level := some h })
def holdingDemand (s : State) : State := counted (s.withBalance
  { s.balance with level := none, held := 2, invalidHold := .running 120000 })
def disagreeing (s : State) : State := s.withBalance { s.balance with disagree := .running 30000 }
def surplus (s : State) : State := counted (s.withBalance { s.balance with level := some 500, band := 0 })
def slack (st : PumpState) : State := surplus (op st)
def floatDue (s : State) : State :=
  (s.withPins { s.pins with dll := true }).withFloats { s.floats with lowLow := { active := false, timer := .running 2000 } }
def generatorDue (s : State) : State :=
  (s.withPins { s.pins with dgen := true }).withTable { s.table with generator := { active := false, timer := .running 500 } }

/-! The pump. -/
def lockedFor (ms e : Nat) : State :=
  let s := if e = 0 then slack .lockout else op .lockout
  s.withPump { s.pump with lockout := .running ms }
def lockedOut (e : Nat) : State := lockedFor 300000 e
def feedbackDue (raw : Bool) (s : State) : State :=
  counted ((s.withPins { s.pins with drun := raw }).withPump { s.pump with runFb := { active := !raw, timer := .running 100 } })
def faultDue (raw : Bool) (s : State) : State :=
  (s.withPins { s.pins with dflt := raw }).withPump { s.pump with faultContact := { active := !raw, timer := .running 500 } }
def handDue (s : State) : State :=
  (s.withPins { s.pins with dsh := true }).withPump { s.pump with contactHand := { active := false, timer := .running 500 } }
def autoDue (s : State) : State :=
  (s.withPins { s.pins with dsa := true }).withPump { s.pump with contactAuto := { active := false, timer := .running 500 } }
def bothDue (s : State) : State :=
  (s.withPins { s.pins with dsa := true }).withPump { s.pump with contactAuto := { active := true, timer := .stopped } }
/-- The OFF hold has run for so many milliseconds. -/
def gapOf (ms : Nat) (s : State) : State := s.withPump { s.pump with offHold := .running ms }
def selected (p : Position) (s : State) : State := s.withPump { s.pump with position := p }
def latched (c : TripCause) (s : State) : State := s.withPump { s.pump with latch := some c }
def inhibited (s : State) : State := s.withPump { s.pump with inhibit := true }
def faulted (s : State) : State := s.withPump { s.pump with faultContact := { active := true, timer := .stopped } }
def feedingBack (s : State) : State := s.withPump { s.pump with feedback := .running 3000 }
def settling' (s : State) : State := s.withPump { s.pump with feedback := .stopped, settle := .running 5000 }
def running' (s : State) : State := s.withPump { s.pump with run := .running 120000 }
def spaced (s : State) : State := s.withPump { s.pump with run := .reached, spacing := .running 15000 }
def staggering (s : State) : State := s.withPump { s.pump with stagger := .running 10000 }
def ran (n : Nat) (s : State) : State := s.withPump { s.pump with runSeconds := n }
def writing (s : State) : State := s.withPump { s.pump with hoursWrite := .writing 256 [1, 2, 3] }
def listening (s : State) : State :=
  (s.withStart { s.start with phase := .listening, listening := .running 2000 }).withPump { s.pump with state := .startup }
def restarting (s : State) : State := s.withTown { s.town with restarting := true }

/-! The house. -/
def someStamp : Stamp := { seconds := 100, sync := true }
def someKey : DutyKey := { hours := 2, station := 5 }
def peerReport : Report :=
  { sequence := 41, configured := true, timeSync := true, isolated := false, generator := false, inhibited := false, flowing := true,
    pumpState := .running, quality := .good, level := 1510, runHours := 530, ratedFlow := 240, summary := 0, demand := 2, effective := 2,
    screen := none, weir := none }
def withPeer (st : EntryState) (s : State) : State :=
  counted (s.withTable (s.table.withEntry 5
{ state := st, last := some peerReport, age := .running (if st = .fresh then 1500 else 5000), release := if st = .lost then .running 60000 else .stopped, missed := 0,
      lastHeard := some someStamp, lostAt := none }))
def isolatedAt (position : Nat) (s : State) : State :=
  withBlocks (fun g => { g with isolatedPosition := position }) (s.withTable { s.table with isolated := true, cause := .silence })
def silentHouse (s : State) : State := s.withTable { s.table with silence := .running 5000 }
def viewHeld (s : State) : State := s.withWindow { s.window with view := .held 5 (some 9) someKey (.running 20000) }
def patient (s : State) : State := s.withWindow { s.window with patience := .running 5000 }
def claimHeld (phase : ClaimPhase) (s : State) : State :=
  s.withWindow { s.window with
    view := .own, claim := phase, number := 3, key := some s.ownKey, hold := if phase = .holding then .running 400 else .stopped,
    viaClaim := phase == .granted }

/-! The lines and the alarms. -/
def queued (b : TxBody) (s : State) : State := s.withLink { s.link with queue := [{ body := b, attempts := 0, sequence := none }] }
def tried (n : Nat) (s : State) : State := s.withLink { s.link with queue := s.link.queue.map fun e => { e with attempts := n } }
def sending (b : FrameBody) (s : State) : State := s.withLink { s.link with sending := some b }
def offerHeld (b : TxBody) (s : State) : State := s.withLink { s.link with heldOffer := some b }
def closingClaim (s : State) : State := s.withLink { s.link with closing := some (3, .withdrawn) }
def claimBehind (s : State) : State := s.withLink { s.link with heldClaim := some (4, 12) }
def reporting (s : State) : State := s.withLink { s.link with report := .running 500 }
def duplicated (s : State) : State := s.withLink { s.link with duplicate := .running 30000 }
def failing (s : State) : State := s.withLink { s.link with failure := .running 10000 }
def silentTown (s : State) : State := s.withTown { s.town with silence := .running 300000 }
def record (n : Half) : EventRecord :=
  { sequence := n, time := 0, sync := false, kind := .peerLost, source := 2, subject := 0, values := [] }
def logged (s : State) : State :=
  (s.withEvents { records := [record 0], counter := 1, overflow := 0 }).withTown { s.town with sent := true }
def alerting (s : State) : State := s.deliver .configWrite true
def acknowledging (raw : Bool) (s : State) : State :=
  (s.withPins { s.pins with dack := raw }).withAlarms { s.alarms with ack := { active := !raw, timer := .running 100 } }

/-! The screen and the weir. -/
def raking (r : RakeState) (s : State) : State :=
  let active := r == .forward || r == .clearing || r == .pause
  s.withScreen { s.screen with
    rake := r, forwardOut := r == .forward, reverseOut := r == .clearing, camArmed := true
    cycle := if active then .running 90000 else .stopped, camCheck := if active then .running 2000 else .stopped
    reverse := if r = .clearing then .running 4000 else .stopped, pause := if r = .pause then .running 5000 else .stopped }
def camDue (raw : Bool) (s : State) : State :=
  (s.withPins { s.pins with dcam := raw }).withScreen { s.screen with cam := { active := !raw, timer := .running 100 } }
def overloadDue (raw : Bool) (s : State) : State :=
  (s.withPins { s.pins with dovl := raw }).withScreen { s.screen with overload := { active := !raw, timer := .running 100 } }
def camStands (s : State) : State := s.withScreen { s.screen with cam := { active := true, timer := .stopped } }
def overloaded (s : State) : State := s.withScreen { s.screen with overload := { active := true, timer := .stopped } }
def checkDue (s : State) : State := s.withScreen { s.screen with camCheck := .reached }
def resting (s : State) : State := s.withScreen { s.screen with rest := .running 60000 }
def pendingRake (s : State) : State := s.withScreen { s.screen with pendingFlag := true }
def drawn (s : State) : State := s.withScreen { s.screen with interval := .running 1800000 }
def spillRecord : SpillRecord :=
  { number := 1, start := someStamp, stop := some someStamp, elapsed := 50, duration := some 40, volume := 9120, peak := 120, gap := 0,
    gapFlag := false, cut := false, isOpen := true }
def spillIn (st : SpillState) (s : State) : State :=
  s.withSpill { SpillMonitor.reset with state := st, working := some spillRecord, number := 1 }
def confirmed (s : State) : State := s.withSpill { s.spill with confirmCount := 29 }
def ended (s : State) : State := s.withSpill { s.spill with endCount := 299 }
def counting (n : Nat) (s : State) : State := s.withSpill { s.spill with confirmCount := n, endCount := n }
def deaf (s : State) : State := s.withChanX Channel.reset
def chamber (level : Int) (s : State) : State := s.withChanX (steady level)

/-- What a command makes of a state. -/
def after (c : Instr) (s : State) : State :=
  match exec c s with
  | .next t => t
  | _ => s

/-- What a step makes of a state. -/
def stepped (s : State) : State :=
  match step s with
  | .next t => t
  | _ => s

/-- The bytes of a field of `n` bytes at a place of the image. -/
def place : Nat → Nat → Nat → List (Nat × Nat)
  | _, 0, _ => []
  | o, n + 1, v => (o, v % 256) :: place (o + 1) n (v / 256)

/-- A byte of the image: 0xFF where nothing is written (section 11.5). -/
def imageByte (fields : List (Nat × Nat)) (i : Nat) : Byte :=
  match fields.find? (fun f => f.1 == i) with
  | some f => BitVec.ofNat 8 f.2
  | none => 255

/-- An image that passes its checks: the fields without a default, and no more. -/
def testImage : List Byte :=
  let fields := place 0 1 1 ++ place 1 1 0 ++ place 2 2 0 ++ place 4 2 4000 ++ place 11 2 0 ++ place 13 2 4000 ++ place 29 2 2300
    ++ place 31 2 250 ++ place 33 2 1000 ++ place 35 2 250 ++ place 37 1 2 ++ place 38 2 0 ++ place 40 4 0 ++ place 44 2 1000 ++ place 46
      4 60000 ++ place 110 1 1
    ++ place 111 2 1200 ++ place 113 2 600 ++ place 193 1 10
  withCheck ((List.range 198).map (imageByte fields))

/-! ## Well-formed commands and worked figures -/

/-- R1, R15: a conversion lies between -1,000 and 25,000 µA. -/
theorem test_conversion_refused : (Instr.sampleEvent .w 25001).wellFormed = false := by decide

/-- R70: slots count from 1. -/
theorem test_slot_refused : (Instr.transmitSlot 0).wellFormed = false := by decide

/-- R170: an image read delivers 200 bytes, an hours read 3, and there are one to three of each. -/
theorem test_short_image_refused : (Instr.loadingEnd false false false [some [1]] [none]).wellFormed = false := by decide
theorem test_short_hours_refused : (Instr.loadingEnd false false false [none] [some [1, 2]]).wellFormed = false := by decide
theorem test_no_read_refused : (Instr.loadingEnd false false false [] [none]).wellFormed = false := by decide
theorem test_four_reads_refused : (Instr.loadingEnd false false false [none] [none, none, none, none]).wellFormed = false := by decide

/-- R67, R159: a frame and a message hold at least one character. -/
theorem test_empty_frame_refused : (Instr.badFrame [] false).wellFormed = false := by decide
theorem test_empty_message_refused : (Instr.unservedTownMessage [] false false).wellFormed = false := by decide

/-- The check figure of section 4.9: the characters 1 to 9. -/
theorem test_check_value : crc [0x31, 0x32, 0x33, 0x34, 0x35, 0x36, 0x37, 0x38, 0x39] = 0x6F91 := by decide +kernel

/-- A frame of section 4.7 written out byte by byte: REPORT's neighbours START DONE and TIME. -/
theorem test_frame_layout :
    (frameBytes 5 (.startDone 9 .withdrawn)).take 5 = [3, 5, 2, 9, 2] ∧ (frameBytes 3 (.time 0x01020304)).take 7 = [4, 3, 4, 4, 3, 2, 1]
      := by
  decide +kernel

/-- Section 1.9: 9,337 µA joins the window, and the level becomes 1,492 mm. -/
def windowed : Channel :=
  { steady 1490 with samples := [1484, 1486, 1488, 1489, 1491, 1492, 1494, 1496], offset := 12 }
theorem test_sample_joins : (windowed.sample testSettings.channelW 9337).level = some 1492 := by decide +kernel

/-- Section 1.9: 1,900 mm is 408 mm away and is rejected. -/
theorem test_sample_rejected :
    ((windowed.sample testSettings.channelW 10412).consecutive, (windowed.sample testSettings.channelW 10412).level) = (1, some 1490) :=
      by
  decide +kernel

/-- Section 1.9: a broken loop holds the level, and its end fills the window with 1,497 mm. -/
theorem test_broken_loop :
    (windowed.sample testSettings.channelW 1850).quality = .held ∧
    ((windowed.sample testSettings.channelW 1850).sample testSettings.channelW 9337).level = some 1497 := by decide +kernel

/-- R1: until the next sample event the users keep the level offered before the fault hold ran out. -/
theorem test_offer_stands :
    let t := after (.faultHoldExpiry .w) (holding (op .idle))
    t.chanW.quality = .invalid ∧ t.chanW.usable = some 1500 := by decide +kernel

/-- Section 2.11: H of four candidates, and V(H). -/
theorem test_house_level : medianLevel [1497, 1510, 1488, 1502] = some 1500 := by decide +kernel
theorem test_volume : volumeAt testSettings.volumeTable 1500 = 105000 ∧ volumeAt testSettings.volumeTable 1460 = 101400 :=
  by decide +kernel

/-- Section 2.11: q = 730, Qs = 662, Dt = 3, D = 3. -/
def balanced : State :=
  let s := withPeer .fresh (op .running)
  s.withBalance { s.balance with
    timer := .running 10000, prevValid := true, volumePrev := 101400, outflowPrev := 250, smoothed := 640, band := 1 }
theorem test_balance_event :
    let b := (after .balanceEvent balanced).balance
    (b.inflow, b.smoothed, b.trend, b.demand) = (730, 662, 3, 3) := by decide +kernel

/-- Section 2.11: a negative balance leaves q at 0 with its flag, Qs = 497, Dt = 2. -/
theorem test_negative_balance :
    let s := withPeer .fresh (op .lockout)
    let b := (after .balanceEvent (s.withBalance { s.balance with
      timer := .running 10000, prevValid := true, level := some 1440, volumePrev := 105000, outflowPrev := 490, smoothed := 662
        })).balance
    (b.inflow, b.low, b.smoothed, b.trend) = (0, true, 497, 2) := by decide +kernel

/-- Section 2.11: a level that climbs three bands and falls back one. -/
theorem test_bands :
    bandDemand testSettings.bands 2050 0 = 3 ∧ bandDemand testSettings.bands 1350 3 = 2 := by decide +kernel

/-- Section 3.12: the feedback time runs out in STARTING. -/
theorem test_start_fails :
    let t := after .feedbackTimerExpiry (feedingBack (op .starting))
    t.pump.state = .tripped ∧ t.pump.latch = some .startFail ∧ t.pump.contactor = false ∧ t.rawOf .startFail = true := by decide +kernel

/-- Section 3.12: a grant closes the contactor, RUN_FB starts the settle timer, and the settle time ends in RUNNING with START
  DONE(STARTED). -/
theorem test_grant :
    let t := after .claimHoldExpiry (claimHeld .holding (op .claiming))
    t.pump.state = .starting ∧ t.pump.contactor = true ∧ t.pump.startCount = 1 ∧ t.pump.feedback = .running 0 := by decide +kernel
theorem test_settled :
    let t := after .settleTimerExpiry (claimHeld .granted (settling' (op .starting)))
    t.pump.state = .running ∧ t.pump.run = .running 0 ∧ t.window.view = .free := by decide +kernel

/-- Section 3.12: RESET_TRIP leads to LOCKOUT, and the lockout to IDLE where the pump is not wanted. -/
theorem test_reset_trip :
    (after (.resetTrip (.town 10 4 0)) (op .tripped)).pump.state = .lockout ∧ (after .lockoutEnd (lockedOut 0)).pump.state = .idle := by
  decide +kernel

/-- R57: the lockout ends at the instant at which the stray-run timer stands at its limit. The state has changed, so the timer runs from 0
  in IDLE and
its expiry does not happen; with the lockout still running it trips the pump. -/
def straying (s : State) : State := s.withPump { s.pump with stray := .running 3000, runFb := { active := true, timer := .stopped } }
theorem test_stray_restarts :
    let t := after .strayRunExpiry (after .lockoutEnd (straying (lockedOut 0)))
    t.pump.state = .idle ∧ t.pump.stray = .running 0 ∧ (after .strayRunExpiry (straying (lockedOut 0))).pump.latch = some .contactorStuck
      := by
  decide +kernel

/-- R44, R48: a gap of 500 ms between HAND and AUTO is a cycle through OFF and clears the latch, one of 499 ms is not; and at the end of
  the 500 ms
the OFF hold's expiry is queued before the contact's. -/
def gap499 : State := autoDue (gapOf 499 (selected .hand (latched .startFail (op .hand))))
theorem test_selector_gap :
    (after (.selectorContactDebounceExpiry .auto) (gapOf 500 gap499)).pump.state = .lockout ∧
    (after (.selectorContactDebounceExpiry .auto) gap499).pump.state = .tripped := by decide +kernel
theorem test_gap_order :
    let p := { (gapOf 500 gap499).pump with contactAuto := { active := false, timer := .running 500 } }
    ((p.dueCommands testSettings 300000 10000).filter Prod.fst).map Prod.snd =
      [.selectorOffHoldExpiry, .selectorContactDebounceExpiry .auto] := by decide +kernel

/-- Section 4.10: the positions after a good frame from station 3, and the retry positions of stations 0 and 2. -/
theorem test_positions :
    (normalPosition 0 3, normalPosition 2 3, normalPosition 3 3, normalPosition 5 3) = (5, 7, 8, 2) ∧
    (retryPosition 0, retryPosition 2) = (9, 11) := by decide

/-- Section 5.9: three numbers on is two REPORTs missed, and a change to STARTUP counts none. -/
theorem test_missed_reports :
    let s := withPeer .fresh (op .running)
    (((after (.report 5 { peerReport with sequence := 44 }) s).table.entry 5).missed,
      ((after (.report 5 { peerReport with sequence := 1, pumpState := .startup }) s).table.entry 5).missed) = (2, 0) := by decide +kernel

/-- Section 5.9: a LOST peer that was drawing counts in C until its release. -/
theorem test_lost_release :
    ((withPeer .lost (op .running)).table.drawing, (after (.lostReleaseExpiry 5) (withPeer .lost (op .running))).table.drawing) = (2, 1)
      := by
  decide +kernel

/-- R100, R101: the events of a REPORT at the house reporter. -/
def peerEvents (r : Report) (s : State) : List (EventKind × List Word) :=
  (after (.report 5 r) s).events.records.map fun e => (e.kind, e.values)
def weirOf (st : SpillState) : Option WeirSection := some { state := st, head := 0, number := 4, volume := 77 }
theorem test_peer_events :
    peerEvents peerReport (op .running) = [(.peerJoined, [0, 0])] ∧
    peerEvents peerReport (withPeer .lost (op .running)) = [(.peerJoined, [1, 0])] ∧
    peerEvents { peerReport with pumpState := .startup } (withPeer .stale (op .running)) = [(.peerJoined, [2, 0])] ∧
    peerEvents { peerReport with summary := 5, weir := weirOf .none }
      (after (.report 5 { peerReport with weir := weirOf .ending }) (withPeer .fresh (op .running))) =
        [(.peerAlarm, [0, 5]), (.peerSpillEnd, [4, 77])] := by decide +kernel

/-- R87: a REPORT that comes at the instant at which the entry's age reaches its limit comes first, and the expiry does not happen. -/
theorem test_report_before_expiry :
    let s := withPeer .fresh (op .running)
    let due := s.withTable (s.table.withEntry 5 { s.table.entry 5 with age := .running (3 * s.cfg.reportInterval) })
    ((after (.entryBecomesStale 5) (after (.report 5 peerReport) due)).table.entry 5).state = .fresh ∧
    ((after (.entryBecomesStale 5) due).table.entry 5).state = .stale := by decide +kernel

/-- R117: a closing that comes while the START CLAIM is on the line waits for the end of the attempt. -/
theorem test_closing_waits :
    let s := sending (.startClaim 3 0) (queued (.startClaim 3 0) (claimHeld .pending (faultDue true (op .claiming))))
    let t := after .faultContactDebounceExpiry s
    (t.pump.state, t.window.claim, t.window.view) = (.tripped, .pending, .own) ∧
    ((after .frameSent t).window.claim, (after .frameSent t).window.view) = (.none, .free) ∧
    (after .frameSent t).link.queue.map TxEntry.body = [.startDone 3 .failed, .report] := by decide +kernel

/-- Section 7.8: a differential of 410 mm blinds the screen, 340 keeps it so, 290 loads it. -/
theorem test_screen_condition :
    (nextCondition testSettings .loaded (some 410), nextCondition testSettings .blinded (some 340),
      nextCondition testSettings .blinded (some 290)) = (.blinded, .blinded, .loaded) := by decide +kernel

/-- Section 7.8: an overload in FORWARD reverses the rake; the third jams it. -/
theorem test_overload :
    let s := overloadDue true (raking .forward screenStation)
    (after .overloadFilterExpiry s).screen.rake = .clearing ∧
    (after .overloadFilterExpiry (s.withScreen { s.screen with overloads := 2 })).screen.rake = .jammed := by decide +kernel

/-- Section 8.4: Km = 3,680 and h = 120 mm give 152 L/s. -/
theorem test_weir_flow : weirFlow 3680 120 = 152 := by decide +kernel

/-- Section 9.6: a pump fault rises to ALERT and closes both relays; the panel button opens the horn. -/
theorem test_alarm_rises :
    let t := (op .off).deliver .pumpFault true
    t.alarms.points[pointIndex .pumpFault].ann = .alert ∧ t.alarms.horn = true ∧ t.alarms.beacon = true := by decide +kernel
theorem test_panel_acknowledges :
    let t := after .panelAcknowledge (acknowledging true ((op .off).deliver .pumpFault true))
    t.alarms.points[pointIndex .pumpFault].ann = .standing ∧ t.alarms.horn = false ∧ t.alarms.beacon = true := by decide +kernel

/-- Section 9.6: the one free place goes to QUEUE_OVERFLOW with the count 3. -/
theorem test_queue_fills :
    let q := EventQueue.takeIn 2 (record 0) { records := List.replicate 63 (record 7), counter := 1064, overflow := 2 }
    (q.records.map fun r => (r.sequence, r.values)).getLast? = some (1064, [3]) ∧ q.overflow = 0 := by decide +kernel

/-- Section 10.5: FETCH(1) answers RECORD 40 with its toggle, and FETCH(0) removes it. -/
def stocked : State := (op .running).withEvents { records := [record 40, record 41, record 42], counter := 43, overflow := 0 }
theorem test_fetch_run :
    let t := after (.fetch 10 true) stocked
    t.events.records.length = 3 ∧ t.town.sent = true ∧ t.town.toggle = true ∧
    ((after (.fetch 10 false) t).events.records.map EventRecord.sequence) = [41, 42] := by decide +kernel

/-- R159: the bytes of a REFUSED answer, and the toggle a refused FETCH carries. -/
theorem test_answer_bytes :
    (after (.unservedTownMessage (withCheck [10, 1, 1, 1, 7]) false false) (op .running)).townLine = withCheck [10, 255, 1, 1, 2] ∧
    (TownAnswer.bytes { address := 10, kind := 130, toggle := false, payload := [1, 2] }).take 6 = [10, 130, 0, 2, 1, 2] := by
  decide +kernel

/-- Section 11.6: a torn hours word gives no hours. -/
theorem test_torn_hours : judgeHours [some [0x9D, 0x01, 0x00]] = none := by decide +kernel

set_option maxRecDepth 10000 in
/-- The image of the tests passes its checks (R170, R171). -/
theorem testImage_accepted : judgeImage (strapStation false true false) [some testImage] = .accepted (imageSettings 2 testImage) := by
  have length : testImage.length = 200 := by decide +kernel
  have check : crc testImage = 0 := by decide +kernel
  have version : testImage.getD 0 0 = 1 := by decide +kernel
  have ranges : (checkedFields 2 testImage).find? (fun f => !f.good testImage) = none := by decide +kernel
  have consistency : (consistencyChecks testImage).find? (fun c => !c.2) = none := by decide +kernel
  have read : firstRead 200 [some testImage] = some testImage := by simp [firstRead, length]
  have station : strapStation false true false = 2 := by decide
  rw [judgeImage, read, station]
  simp only [checkImage, check, version, ranges, consistency, ne_eq, not_true_eq_false, if_false]


/-! ## The hypotheses of the statements can be met -/

theorem witness_IdleLetsAMillisecondPass :
    ∃ s : State, ∃ ms : Nat, s.pending = [] ∧ s.pump.lockout = .running ms ∧ ms < s.lockoutFigure :=
  ⟨(lockedFor 299999 1), 299999, by decide +kernel⟩

theorem witness_EveryCommandCompletes :
    (∃ c : Instr, c ≠ .fullStart ∧ c ≠ .townRestart ∧ (∀ st0 st1 st2 image hours, c ≠ .loadingEnd st0 st1 st2 image hours) ∧ (∀ pin level,
      c ≠ .inputLevelChange pin level)) ∧ ∃ s : State, s.atLimit .strayRunExpiry = false :=
  ⟨⟨.frameSent, by simp⟩, ⟨op .idle, by decide +kernel⟩⟩

theorem witness_StartsReset :
    (∃ s : State, s.town.restarting = true ∧ s.spill.state = .none ∧ s.spill.working = none) ∧
    (∃ s : State, s.town.restarting = true ∧ s.spill.state = .confirming) ∧
    (∃ s : State, ∃ r : SpillRecord, s.town.restarting = true ∧ s.spill.state = .spilling ∧ s.spill.working = some r) ∧
    (∃ s : State, ∃ r : SpillRecord, s.town.restarting = true ∧ s.spill.state = .ending ∧ s.spill.working = some r) :=
  ⟨⟨(restarting weirStation), by decide +kernel⟩,
    ⟨(restarting (spillIn .confirming weirStation)), by decide +kernel⟩,
    ⟨(restarting (spillIn .spilling weirStation)), spillRecord, by decide +kernel⟩,
    ⟨(restarting (spillIn .ending weirStation)), spillRecord, by decide +kernel⟩⟩

theorem witness_LoadingEndStartsListening :
    ∃ s : State, ∃ st0 : Bool, ∃ st1 : Bool, ∃ st2 : Bool, ∃ images : List (Option (List Byte)), ∃ g : Settings, s.start.phase = .loading
      ∧ s.LoadingAtReset ∧ judgeImage (strapStation st0 st1 st2) images = .accepted g :=
  ⟨State.reset, false, true, false, [some testImage], (imageSettings 2 testImage), by decide +kernel, by decide +kernel,
    testImage_accepted⟩

theorem witness_LoadingEndFaults :
    ∃ s : State, ∃ st0 : Bool, ∃ st1 : Bool, ∃ st2 : Bool, ∃ images : List (Option (List Byte)), ∃ cause : Nat, ∃ offset : Nat,
      s.start.phase = .loading ∧ s.LoadingAtReset ∧ judgeImage (strapStation st0 st1 st2) images = .failed cause offset :=
  ⟨State.reset, false, false, true, [none, none, none], 5, 65535, by decide +kernel⟩

theorem witness_ListeningEndOpens :
    ∃ s : State, s.start.phase = .listening ∧ s.start.listening.due (max (3 * s.cfg.reportInterval) 2000) = true :=
  ⟨(listening (faulted screenStation)), by decide +kernel⟩

theorem witness_SecondPasses :
    (∃ s : State, s.weirRuns = false ∧ s.hoursRise = false) ∧
    (∃ s : State, ∃ level : Int, ∃ h : Int, s.weirRuns = true ∧ s.spill.state = .none ∧ s.spill.working = none ∧ s.chanX.usable = some
      level ∧ h = level - s.cfg.crestLevel ∧ s.cfg.startMargin ≤ h) ∧
    (∃ s : State, ∃ level : Int, ∃ h : Int, s.weirRuns = true ∧ s.spill.state = .none ∧ s.spill.working = none ∧ s.chanX.usable = some
      level ∧ h = level - s.cfg.crestLevel ∧ h < s.cfg.startMargin) ∧
    (∃ s : State, s.weirRuns = true ∧ s.spill.state = .none ∧ s.spill.working = none ∧ s.chanX.usable = none) ∧
    (∃ s : State, ∃ r : SpillRecord, ∃ level : Int, ∃ h : Int, s.weirRuns = true ∧ s.spill.state = .confirming ∧ s.spill.working = some r
      ∧ s.chanX.usable = some level ∧ h = level - s.cfg.crestLevel ∧ s.cfg.startMargin ≤ h ∧ s.spill.confirmCount + 1 < s.cfg.confirmTime)
      ∧
    (∃ s : State, ∃ r : SpillRecord, ∃ level : Int, ∃ h : Int, s.weirRuns = true ∧ s.spill.state = .confirming ∧ s.spill.working = some r
      ∧ s.chanX.usable = some level ∧ h = level - s.cfg.crestLevel ∧ h < s.cfg.startMargin) ∧
    (∃ s : State, ∃ r : SpillRecord, s.weirRuns = true ∧ s.spill.state = .confirming ∧ s.spill.working = some r ∧ s.chanX.usable = none) ∧
    (∃ s : State, ∃ r : SpillRecord, ∃ level : Int, ∃ h : Int, s.weirRuns = true ∧ s.spill.state = .spilling ∧ s.spill.working = some r ∧
      s.chanX.usable = some level ∧ h = level - s.cfg.crestLevel ∧ s.cfg.endMargin ≤ h) ∧
    (∃ s : State, ∃ r : SpillRecord, ∃ level : Int, ∃ h : Int, s.weirRuns = true ∧ s.spill.state = .spilling ∧ s.spill.working = some r ∧
      s.chanX.usable = some level ∧ h = level - s.cfg.crestLevel ∧ h < s.cfg.endMargin ∧ 0 < s.cfg.endTime) ∧
    (∃ s : State, ∃ r : SpillRecord, s.weirRuns = true ∧ s.spill.state = .spilling ∧ s.spill.working = some r ∧ s.chanX.usable = none) ∧
    (∃ s : State, ∃ r : SpillRecord, ∃ level : Int, ∃ h : Int, s.weirRuns = true ∧ s.spill.state = .ending ∧ s.spill.working = some r ∧
      s.chanX.usable = some level ∧ h = level - s.cfg.crestLevel ∧ h < s.cfg.endMargin ∧ s.spill.endCount + 1 < s.cfg.endTime) ∧
    (∃ s : State, ∃ r : SpillRecord, ∃ level : Int, ∃ h : Int, s.weirRuns = true ∧ s.spill.state = .ending ∧ s.spill.working = some r ∧
      s.chanX.usable = some level ∧ h = level - s.cfg.crestLevel ∧ s.cfg.endMargin ≤ h) ∧
    (∃ s : State, ∃ r : SpillRecord, s.weirRuns = true ∧ s.spill.state = .ending ∧ s.spill.working = some r ∧ s.chanX.usable = none ∧
      s.spill.endCount < s.cfg.endTime) :=
  ⟨⟨(op .running), by decide +kernel⟩,
    ⟨(chamber 1520 weirStation), 1520, 20, by decide +kernel⟩,
    ⟨(chamber 1519 weirStation), 1519, 19, by decide +kernel⟩,
    ⟨(deaf weirStation), by decide +kernel⟩,
    ⟨(counting 0 (chamber 1520 (spillIn .confirming weirStation))), spillRecord, 1520, 20, by decide +kernel⟩,
    ⟨(counting 0 (chamber 1519 (spillIn .confirming weirStation))), spillRecord, 1519, 19, by decide +kernel⟩,
    ⟨(counting 0 (deaf (spillIn .confirming weirStation))), spillRecord, by decide +kernel⟩,
    ⟨(counting 0 (chamber 1510 (spillIn .spilling weirStation))), spillRecord, 1510, 10, by decide +kernel⟩,
    ⟨(counting 0 (chamber 1509 (spillIn .spilling weirStation))), spillRecord, 1509, 9, by decide +kernel⟩,
    ⟨(counting 0 (deaf (spillIn .spilling weirStation))), spillRecord, by decide +kernel⟩,
    ⟨(counting 0 (chamber 1509 (spillIn .ending weirStation))), spillRecord, 1509, 9, by decide +kernel⟩,
    ⟨(counting 0 (chamber 1510 (spillIn .ending weirStation))), spillRecord, 1510, 10, by decide +kernel⟩,
    ⟨(counting 0 (deaf (spillIn .ending weirStation))), spillRecord, by decide +kernel⟩⟩

theorem witness_RunHoursAreWritten :
    (∃ s : State, s.hoursRise = true) ∧
    (∃ s : State, ∃ place : Nat, ∃ word : List Byte, s.started = true ∧ s.pump.hoursWrite = .writing place word) :=
  ⟨⟨(ran 3599 (op .running)), by decide +kernel⟩,
    ⟨(writing (op .running)), 256, [1, 2, 3], by decide +kernel⟩⟩

theorem witness_SpillsOpenAndClose :
    (∃ s : State, ∃ r : SpillRecord, ∃ level : Int, ∃ h : Int, s.weirRuns = true ∧ s.spill.state = .confirming ∧ s.spill.working = some r
      ∧ s.chanX.usable = some level ∧ h = level - s.cfg.crestLevel ∧ s.cfg.startMargin ≤ h ∧ s.cfg.confirmTime ≤ s.spill.confirmCount + 1)
      ∧
    (∃ s : State, ∃ r : SpillRecord, ∃ level : Int, ∃ h : Int, s.weirRuns = true ∧ s.spill.state = .ending ∧ s.spill.working = some r ∧
      s.chanX.usable = some level ∧ h = level - s.cfg.crestLevel ∧ h < s.cfg.endMargin ∧ s.cfg.endTime ≤ s.spill.endCount + 1) :=
  ⟨⟨(confirmed (chamber 1520 (spillIn .confirming weirStation))), spillRecord, 1520, 20, by decide +kernel⟩,
    ⟨(ended (chamber 1509 (spillIn .ending weirStation))), spillRecord, 1509, 9, by decide +kernel⟩⟩

theorem witness_SampleEventRuns :
    ∃ s : State, ∃ ch : ChannelId, s.working = true ∧ (s.chan ch).phase ≠ .stopped :=
  ⟨(sampling (op .idle)), .w, by decide +kernel⟩

theorem witness_SamplesBecomeLevels :
    let g := testSettings.channelW
    let reject : Channel := { steady 1490 with consecutive := 2 }
    let faulty : Channel := { steady 1490 with fault := .holding, hold := .running 0 }
    let fresh : Channel := { Channel.reset with phase := .sampling }
    let due : Channel := { steady 1490 with check := .reached }
    let period : Nat → Channel := fun n => { steady 1490 with phase := .checking, period := n, firstRef := 207 }
    (∀ c ∈ [steady 1490, reject, faulty, fresh], c.phase = .sampling ∧ c.check.hasReached = false ∧ c.offset = 0) ∧
    (fresh.fault = .clear ∧ fresh.samples = [] ∧ (steady 1490).fault = .clear ∧ (steady 1490).samples.length = 8 ∧
      (steady 1490).level = some 1490 ∧ faulty.fault ≠ .clear ∧ (steady 1490).consecutive < 2 ∧ 2 ≤ reject.consecutive) ∧
    (clampInt 0 25000 2999 < 3000 ∧ 22000 < clampInt 0 25000 22001) ∧
    (∀ x ∈ [(3000, 4000, SampleQuality.lowSat), (3799, 4000, .lowSat), (3800, 4000, .good), (3999, 4000, .good), (4000, 4000, .good),
      (20000, 20000, .good), (20001, 20000, .good), (20500, 20000, .good), (20501, 20000, .highSat), (22000, 20000, .highSat)],
      InClass x.1 x.2.1 x.2.2) ∧
    (|g.datum + roundHalfUp ((9337 - 4000) * g.span) 16000 - 1490| ≤ g.stepLimit ∧ g.stepLimit ≠ 0 ∧
      (g.stepLimit : Int) < |g.datum + roundHalfUp ((10412 - 4000) * g.span) 16000 - 1490|) ∧
    (due.phase = .sampling ∧ due.check.hasReached = true) ∧
    (∀ n ∈ [1, 2, 3, 4, 5], (period n).phase = .checking ∧ (period n).period = n) ∧
    (truncDiv ((period 3).firstRef + clampInt (-1000) 1000 210) 2 = 208 ∧ MeanOutside 208 ∧ ¬ MeanOutside 200 ∧ ¬ MeanOutside (-200)) ∧
    (Channel.begin.phase = .settling ∧ 2 ≤ Channel.begin.discard) := by decide +kernel

theorem witness_LevelBecomesDemand :
    ∃ s : State, s.working = true ∧ s.chanW.phase ≠ .stopped :=
  ⟨(sampling (op .idle)), by decide +kernel⟩

theorem witness_DifferentialJudgesTheScreen :
    ∃ s : State, s.screenRuns = true ∧ s.chanX.phase ≠ .stopped :=
  ⟨(samplingX screenStation), by decide +kernel⟩

theorem witness_ChannelTimesRun :
    (∃ s : State, ∃ ch : ChannelId, s.working = true ∧ (s.chan ch).phase = .settling ∧ (s.chan ch).discard = 1) ∧
    (∃ s : State, ∃ ch : ChannelId, (s.chan ch).check.due ((s.cfg.channel ch).checkInterval * 60000) = true) ∧
    (∃ s : State, ∃ ch : ChannelId, s.working = true ∧ (s.chan ch).phase = .sampling ∧ (s.chan ch).check = .reached) ∧
    (∃ s : State, ∃ ch : ChannelId, s.working = true ∧ (s.chan ch).phase = .checking ∧ ((s.chan ch).period = 1 ∨ (s.chan ch).period = 4))
      ∧
    (∃ s : State, ∃ ch : ChannelId, s.working = true ∧ (s.chan ch).phase = .checking ∧ (s.chan ch).period = 2) ∧
    (∃ s : State, ∃ ch : ChannelId, ∃ conversion : Int, ∃ mean : Int, s.working = true ∧ (s.chan ch).phase = .checking ∧ (s.chan
      ch).period = 3 ∧ mean = truncDiv ((s.chan ch).firstRef + max (-1000) (min 1000 conversion)) 2) ∧
    (∃ s : State, ∃ ch : ChannelId, s.working = true ∧ (s.chan ch).phase = .checking ∧ (s.chan ch).period = 5) ∧
    (∃ s : State, ∃ ch : ChannelId, (s.chan ch).fault = .holding ∧ (s.chan ch).hold.due ((s.cfg.channel ch).faultHold * 1000) = true) :=
  ⟨⟨(settling (op .idle)), .w, by decide +kernel⟩,
    ⟨(checkDueNow (op .idle)), .w, by decide +kernel⟩,
    ⟨(checkReached (op .idle)), .w, by decide +kernel⟩,
    ⟨(inPeriod 1 (op .idle)), .w, by decide +kernel⟩,
    ⟨(inPeriod 2 (op .idle)), .w, by decide +kernel⟩,
    ⟨(inPeriod 3 (op .idle)), .w, 210, 105, by decide +kernel⟩,
    ⟨(inPeriod 5 (op .idle)), .w, by decide +kernel⟩,
    ⟨(holding (op .idle)), .w, by decide +kernel⟩⟩

theorem witness_BalanceEventEstimates :
    (∃ s : State, ∃ h : Int, ∃ q : Int, s.working = true ∧ s.balance.timer.due (s.cfg.balanceInterval * 1000) = true ∧ s.balance.level =
      some h ∧ s.balance.prevValid = true ∧ q = ((((s.balance.outflowPrev + s.outflow) / 2 : Nat) : Int) + truncDiv ((volumeAt
      s.cfg.volumeTable h : Int) - s.balance.volumePrev) s.cfg.balanceInterval)) ∧
    (∃ s : State, s.working = true ∧ s.balance.timer.due (s.cfg.balanceInterval * 1000) = true ∧ (s.balance.level = none ∨
      s.balance.prevValid = false)) :=
  ⟨⟨(estimating (levelAt 1500 (op .running))), 1500, 250, by decide +kernel⟩,
    ⟨(timing (op .running)), by decide +kernel⟩⟩

theorem witness_HoldAndSupplyReachDemand :
    (∃ s : State, s.working = true ∧ s.balance.invalidHold.due (s.cfg.invalidHold * 1000) = true ∧ s.balance.level = none ∧
      s.lowLowInForce = false ∧ s.highHighInForce = false) ∧
    (∃ s : State, s.working = true ∧ s.table.generator.timer.due 500 = true) :=
  ⟨⟨(holdingDemand (op .running)), by decide +kernel⟩,
    ⟨(generatorDue (op .running)), by decide +kernel⟩⟩

theorem witness_AlarmTimersRaiseAndFall :
    (∃ s : State, s.started = true ∧ s.balance.disagree.due 30000 = true) ∧
    (∃ s : State, s.started = true ∧ s.town.silence.due (s.cfg.townTimeout * 1000) = true ∧ s.cfg.townTimeout ≠ 0) ∧
    (∃ s : State, s.started = true ∧ s.town.silence.isRunning = true ∧ s.cfg.townTimeout = 0) ∧
    (∃ s : State, s.started = true ∧ s.link.failure.due 10000 = true) :=
  ⟨⟨(disagreeing (op .idle)), by decide +kernel⟩,
    ⟨(silentTown (op .idle)), by decide +kernel⟩,
    ⟨(silentTown (noTownTimeout (op .idle))), by decide +kernel⟩,
    ⟨(failing (op .idle)), by decide +kernel⟩⟩

theorem witness_FloatsOverrideDemand :
    ∃ s : State, ∃ f : FloatId, s.working = true ∧ (s.floats.filter f).timer.due (s.cfg.floatDebounce * 500) = true :=
  ⟨(floatDue (op .running)), .lowLow, by decide +kernel⟩

theorem witness_InputsReachTheirFilters :
    ∃ s : State, ∃ pin : Pin, s.working = true ∧ (pin = .dcam ∨ pin = .dovl → s.screenRuns = true) :=
  ⟨screenStation, .dovl, by decide +kernel⟩

theorem witness_RunFeedbackDrivesThePump :
    (∃ s : State, s.working = true ∧ s.pump.runFb.timer.due 100 = true ∧ s.pump.state = .starting ∧ s.pump.feedback.isRunning = true ∧
      s.pins.drun = true) ∧
    (∃ s : State, s.working = true ∧ s.pump.runFb.timer.due 100 = true ∧ s.pump.state = .starting ∧ s.pump.settle.isRunning = true ∧
      s.pins.drun = false) ∧
    (∃ s : State, s.working = true ∧ s.pump.runFb.timer.due 100 = true ∧ s.pump.state = .starting ∧ s.pump.feedback.isRunning = false ∧
      s.pins.drun = true) ∧
    (∃ s : State, s.working = true ∧ s.pump.runFb.timer.due 100 = true ∧ s.pump.state = .running) ∧
    (∃ s : State, s.working = true ∧ s.pump.runFb.timer.due 100 = true ∧ s.pump.state = .stopping ∧ s.pins.drun = false) ∧
    (∃ s : State, s.working = true ∧ s.pump.runFb.timer.due 100 = true ∧ (s.pump.state = .lockout ∨ s.pump.state = .inhibited ∨
      s.pump.state = .claiming)) ∧
    (∃ s : State, s.working = true ∧ s.pump.runFb.timer.due 100 = true ∧ (s.pump.state = .idle ∨ s.pump.state = .waiting)) :=
  ⟨⟨(feedbackDue true (op .starting)), by decide +kernel⟩,
    ⟨(feedbackDue false (settling' (op .starting))), by decide +kernel⟩,
    ⟨(feedbackDue true (settling' (op .starting))), by decide +kernel⟩,
    ⟨(feedbackDue false (op .running)), by decide +kernel⟩,
    ⟨(feedbackDue false (op .stopping)), by decide +kernel⟩,
    ⟨(feedbackDue true (op .lockout)), by decide +kernel⟩,
    ⟨(feedbackDue true (op .idle)), by decide +kernel⟩⟩

theorem witness_FaultContactTrips :
    (∃ s : State, s.started = true ∧ s.pump.faultContact.timer.due 500 = true ∧ s.pins.dflt = true ∧ s.pump.state.isAuto = true ∧
      s.pump.state ≠ .tripped) ∧
    (∃ s : State, s.started = true ∧ s.pump.faultContact.timer.due 500 = true ∧ (s.pins.dflt = false ∨ s.pump.state.isAuto = false ∨
      s.pump.state = .tripped)) :=
  ⟨⟨(faultDue true (op .running)), by decide +kernel⟩,
    ⟨(faultDue false (op .tripped)), by decide +kernel⟩⟩

theorem witness_SelectorMovesThePump :
    (∃ s : State, ∃ c : Contact, ∃ p : Pump, s.operating = true ∧ (s.pump.contact c).timer.due 500 = true ∧ p = s.pump.withContact c
      { active := s.pins.level (contactPin c), timer := .stopped } ∧ p.combination = some .hand ∧ s.pump.position = .auto) ∧
    (∃ s : State, ∃ c : Contact, ∃ p : Pump, s.operating = true ∧ (s.pump.contact c).timer.due 500 = true ∧ p = s.pump.withContact c
      { active := s.pins.level (contactPin c), timer := .stopped } ∧ p.combination = some .hand ∧ (s.pump.position = .off ∨
      (s.pump.position = .hand ∧ s.pump.offHold.due 500 = true))) ∧
    (∃ s : State, ∃ c : Contact, ∃ p : Pump, s.operating = true ∧ (s.pump.contact c).timer.due 500 = true ∧ p = s.pump.withContact c
      { active := s.pins.level (contactPin c), timer := .stopped } ∧ p.combination = some s.pump.position ∧ s.pump.offHold.due 500 =
      false) ∧
    (∃ s : State, ∃ c : Contact, ∃ p : Pump, s.operating = true ∧ (s.pump.contact c).timer.due 500 = true ∧ p = s.pump.withContact c
      { active := s.pins.level (contactPin c), timer := .stopped } ∧ p.combination = some .auto ∧ (s.pump.position ≠ .auto ∨
      s.pump.offHold.due 500 = true) ∧ s.pump.latch = none ∧ s.pump.faultContact.active = false) ∧
    (∃ s : State, ∃ c : Contact, ∃ p : Pump, s.operating = true ∧ (s.pump.contact c).timer.due 500 = true ∧ p = s.pump.withContact c
      { active := s.pins.level (contactPin c), timer := .stopped } ∧ p.combination = some .auto ∧ (s.pump.position ≠ .auto ∨
      s.pump.offHold.due 500 = true) ∧ s.pump.latch = none ∧ s.pump.faultContact.active = true) ∧
    (∃ s : State, ∃ c : Contact, ∃ cause : TripCause, ∃ p : Pump, s.operating = true ∧ (s.pump.contact c).timer.due 500 = true ∧ p =
      s.pump.withContact c { active := s.pins.level (contactPin c), timer := .stopped } ∧ p.combination = some .auto ∧ s.pump.position =
      .hand ∧ s.pump.offHold.due 500 = false ∧ s.pump.latch = some cause) ∧
    (∃ s : State, ∃ c : Contact, ∃ cause : TripCause, ∃ p : Pump, s.operating = true ∧ (s.pump.contact c).timer.due 500 = true ∧ p =
      s.pump.withContact c { active := s.pins.level (contactPin c), timer := .stopped } ∧ p.combination = some .auto ∧ (s.pump.position =
      .off ∨ s.pump.offHold.due 500 = true) ∧ s.pump.latch = some cause ∧ s.pump.faultContact.active = false ∧ s.pump.runFb.active =
      false) ∧
    (∃ s : State, ∃ c : Contact, ∃ cause : TripCause, ∃ p : Pump, s.operating = true ∧ (s.pump.contact c).timer.due 500 = true ∧ p =
      s.pump.withContact c { active := s.pins.level (contactPin c), timer := .stopped } ∧ p.combination = some .auto ∧ (s.pump.position =
      .off ∨ s.pump.offHold.due 500 = true) ∧ s.pump.latch = some cause ∧ (s.pump.faultContact.active = true ∨ s.pump.runFb.active =
      true)) ∧
    (∃ s : State, ∃ c : Contact, ∃ p : Pump, s.started = true ∧ (s.pump.contact c).timer.due 500 = true ∧ p = s.pump.withContact c
      { active := s.pins.level (contactPin c), timer := .stopped } ∧ p.combination = none ∧ s.pump.offHold.due 500 = false) ∧
    (∃ s : State, ∃ c : Contact, ∃ p : Pump, s.operating = true ∧ (s.pump.contact c).timer.due 500 = true ∧ p = s.pump.withContact c
      { active := s.pins.level (contactPin c), timer := .stopped } ∧ p.combination = none ∧ s.pump.offHold.due 500 = true) ∧
    (∃ s : State, s.operating = true ∧ s.pump.offHold.due 500 = true ∧ s.pump.position = .auto) ∧
    (∃ s : State, s.operating = true ∧ s.pump.offHold.due 500 = true ∧ s.pump.position = .hand) ∧
    (∃ s : State, s.pump.offHold.due 500 = false) :=
  ⟨⟨(handDue (op .running)), .hand, (let s := (handDue (op .running)); s.pump.withContact .hand
    { active := s.pins.level (contactPin .hand), timer := .stopped }), by decide +kernel⟩,
    ⟨(handDue (gapOf 500 (selected .hand (op .hand)))), .hand, (let s := (handDue (gapOf 500 (selected .hand (op .hand))));
      s.pump.withContact .hand { active := s.pins.level (contactPin .hand), timer := .stopped }), by decide +kernel⟩,
    ⟨(autoDue (gapOf 499 (op .running))), .auto, (let s := (autoDue (gapOf 499 (op .running))); s.pump.withContact .auto
      { active := s.pins.level (contactPin .auto), timer := .stopped }), by decide +kernel⟩,
    ⟨(autoDue (op .off)), .auto, (let s := (autoDue (op .off)); s.pump.withContact .auto
      { active := s.pins.level (contactPin .auto), timer := .stopped }), by decide +kernel⟩,
    ⟨(autoDue (faulted (op .off))), .auto, (let s := (autoDue (faulted (op .off))); s.pump.withContact .auto
      { active := s.pins.level (contactPin .auto), timer := .stopped }), by decide +kernel⟩,
    ⟨(autoDue (selected .hand (latched .startFail (op .hand)))), .auto, .startFail, (let s := (autoDue (selected .hand (latched .startFail
      (op .hand)))); s.pump.withContact .auto { active := s.pins.level (contactPin .auto), timer := .stopped }), by decide +kernel⟩,
    ⟨(autoDue (gapOf 500 (selected .hand (latched .startFail (op .hand))))), .auto, .startFail, (let s := (autoDue (gapOf 500 (selected
      .hand (latched .startFail (op .hand))))); s.pump.withContact .auto
      { active := s.pins.level (contactPin .auto), timer := .stopped }), by decide +kernel⟩,
    ⟨(autoDue (faulted (latched .startFail (op .off)))), .auto, .startFail, (let s := (autoDue (faulted (latched .startFail (op .off))));
      s.pump.withContact .auto { active := s.pins.level (contactPin .auto), timer := .stopped }), by decide +kernel⟩,
    ⟨(bothDue (handDue (op .running))), .hand, (let s := (bothDue (handDue (op .running))); s.pump.withContact .hand
      { active := s.pins.level (contactPin .hand), timer := .stopped }), by decide +kernel⟩,
    ⟨(gapOf 500 (bothDue (handDue (op .running)))), .hand, (let s := (gapOf 500 (bothDue (handDue (op .running)))); s.pump.withContact
      .hand { active := s.pins.level (contactPin .hand), timer := .stopped }), by decide +kernel⟩,
    ⟨(gapOf 500 (op .running)), by decide +kernel⟩,
    ⟨(gapOf 500 (selected .hand (op .hand))), by decide +kernel⟩,
    ⟨(op .running), by decide +kernel⟩⟩

theorem witness_RakeInputsEndOrReverse :
    (∃ s : State, s.screenRuns = true ∧ s.screen.cam.timer.due 100 = true ∧ s.pins.dcam = true ∧ s.screen.rake = .forward ∧
      s.screen.camArmed = true) ∧
    (∃ s : State, s.screenRuns = true ∧ s.screen.cam.timer.due 100 = true ∧ (s.pins.dcam = false ∨ s.screen.rake ≠ .forward ∨
      s.screen.camArmed = false)) ∧
    (∃ s : State, s.screenRuns = true ∧ s.screen.overload.timer.due 100 = true ∧ s.pins.dovl = true ∧ s.screen.rake = .forward ∧
      s.screen.overloads < 2) ∧
    (∃ s : State, s.screenRuns = true ∧ s.screen.overload.timer.due 100 = true ∧ s.pins.dovl = true ∧ ((s.screen.rake = .forward ∧ 2 ≤
      s.screen.overloads) ∨ s.screen.rake = .clearing)) ∧
    (∃ s : State, s.screenRuns = true ∧ s.screen.overload.timer.due 100 = true ∧ (s.pins.dovl = false ∨ (s.screen.rake ≠ .forward ∧
      s.screen.rake ≠ .clearing))) :=
  ⟨⟨(camDue true (raking .forward screenStation)), by decide +kernel⟩,
    ⟨(camDue false (raking .forward screenStation)), by decide +kernel⟩,
    ⟨(overloadDue true (raking .forward screenStation)), by decide +kernel⟩,
    ⟨(overloadDue true (raking .clearing screenStation)), by decide +kernel⟩,
    ⟨(overloadDue true (raking .pause screenStation)), by decide +kernel⟩⟩

theorem witness_AcknowledgeAtThePanel :
    (∃ s : State, s.started = true ∧ s.alarms.ack.timer.due 100 = true ∧ s.pins.dack = true) ∧
    (∃ s : State, s.alarms.ack.timer.due 100 = true ∧ s.pins.dack = false) :=
  ⟨⟨(acknowledging true (op .idle)), by decide +kernel⟩,
    ⟨(acknowledging false (op .idle)), by decide +kernel⟩⟩

theorem witness_LockoutEndsInIdleWaitingOrAClaim :
    (∃ s : State, s.Kept ∧ s.operating = true ∧ s.pump.state = .lockout ∧ s.pump.lockout.due s.lockoutFigure = true ∧ s.table.isolated =
      false ∧ s.balance.effective ≤ s.table.drawing) ∧
    (∃ s : State, s.Kept ∧ s.operating = true ∧ s.pump.state = .lockout ∧ s.pump.lockout.due s.lockoutFigure = true ∧ s.table.isolated =
      false ∧ s.table.drawing < s.balance.effective ∧ (s.window.view ≠ .free ∨ (s.table.keysOf [.idle, .waiting]).any (fun k =>
      !s.ownKey.better k) = true)) ∧
    (∃ s : State, s.Kept ∧ s.operating = true ∧ s.pump.state = .lockout ∧ s.pump.lockout.due s.lockoutFigure = true ∧ s.table.isolated =
      false ∧ s.table.drawing < s.balance.effective ∧ s.window.view = .free ∧ (s.table.keysOf [.idle, .waiting]).all (fun k =>
      s.ownKey.better k) = true) ∧
    (∃ s : State, s.Kept ∧ s.operating = true ∧ s.pump.state = .lockout ∧ s.pump.lockout.due s.lockoutFigure = true ∧ s.table.isolated =
      true ∧ (s.balance.demand < s.cfg.isolatedPosition ∨ s.balance.effective = 0)) ∧
    (∃ s : State, s.Kept ∧ s.operating = true ∧ s.pump.state = .lockout ∧ s.pump.lockout.due s.lockoutFigure = true ∧ s.table.isolated =
      true ∧ s.cfg.isolatedPosition ≤ s.balance.demand ∧ 1 ≤ s.balance.effective ∧ s.own ≠ 0) ∧
    (∃ s : State, s.Kept ∧ s.operating = true ∧ s.pump.state = .lockout ∧ s.pump.lockout.due s.lockoutFigure = true ∧ s.table.isolated =
      true ∧ s.cfg.isolatedPosition ≤ s.balance.demand ∧ 1 ≤ s.balance.effective ∧ s.own = 0) :=
  ⟨⟨(lockedOut 0), by decide +kernel⟩,
    ⟨(viewHeld (lockedOut 1)), by decide +kernel⟩,
    ⟨(lockedOut 1), by decide +kernel⟩,
    ⟨(isolatedAt 4 (lockedOut 1)), by decide +kernel⟩,
    ⟨(isolatedAt 1 (lockedOut 1)), by decide +kernel⟩,
    ⟨(asStation 0 (isolatedAt 1 (lockedOut 1))), by decide +kernel⟩⟩

theorem witness_TimersTripThePump :
    ∃ s : State, ∃ c : Instr, ∃ cause : TripCause, s.started = true ∧ ((c = .feedbackTimerExpiry ∧ s.pump.feedback.due (s.cfg.feedbackTime
      * 1000) = true ∧ s.pump.state = .starting ∧ cause = .startFail) ∨ (c = .feedbackTimerExpiry ∧ s.pump.feedback.due
      (s.cfg.feedbackTime * 1000) = true ∧ s.pump.state = .stopping ∧ s.pump.runFb.active = true ∧ cause = .contactorStuck) ∨ (c =
      .lossTimerExpiry ∧ s.pump.loss.due 2000 = true ∧ s.pump.state = .starting ∧ cause = .startFail) ∨ (c = .lossTimerExpiry ∧
      s.pump.loss.due 2000 = true ∧ s.pump.state = .running ∧ cause = .runLost) ∨ (c = .strayRunExpiry ∧ s.pump.stray.due
      (s.cfg.feedbackTime * 1000) = true ∧ s.pump.state.strayWatched = true ∧ cause = .contactorStuck)) :=
  ⟨(feedingBack (op .starting)), .feedbackTimerExpiry, .startFail, by decide +kernel⟩

theorem witness_SettledStartRuns :
    ∃ s : State, s.Kept ∧ s.operating = true ∧ s.pump.state = .starting ∧ s.pump.settle.due (s.cfg.startSettle * 1000) = true ∧
      s.lowLowInForce = false ∧ 0 < s.balance.effective :=
  ⟨(settling' (op .starting)), by decide +kernel⟩

theorem witness_DutyStopsFollowTheRule :
    (∃ s : State, s.started = true ∧ s.pump.run.due (s.cfg.minimumRun * 1000) = true ∧ s.pump.state = .running ∧ s.table.isolated = false
      ∧ s.balance.effective < s.table.drawing ∧ (s.table.keysOf [.running]).all (fun k => k.better s.ownKey) = true ∧
      s.pump.spacing.isRunning = false) ∧
    (∃ s : State, s.started = true ∧ s.pump.run.due (s.cfg.minimumRun * 1000) = true ∧ s.pump.state = .running ∧ s.table.isolated = true ∧
      s.balance.demand < s.cfg.isolatedPosition) ∧
    (∃ s : State, s.pump.run.due (s.cfg.minimumRun * 1000) = true ∧ (s.pump.state ≠ .running ∨ (s.table.isolated = false ∧
      (s.table.drawing ≤ s.balance.effective ∨ (s.table.keysOf [.running]).any (fun k => !k.better s.ownKey) = true ∨
      s.pump.spacing.isRunning = true)) ∨ (s.table.isolated = true ∧ s.cfg.isolatedPosition ≤ s.balance.demand))) ∧
    (∃ s : State, s.started = true ∧ s.pump.spacing.due (s.cfg.stopSpacing * 1000) = true ∧ s.pump.run = .reached ∧ s.pump.state =
      .running ∧ s.table.isolated = false ∧ s.balance.effective < s.table.drawing ∧ (s.table.keysOf [.running]).all (fun k => k.better
      s.ownKey) = true) ∧
    (∃ s : State, s.pump.spacing.due (s.cfg.stopSpacing * 1000) = true ∧ (s.pump.state ≠ .running ∨ s.table.isolated = true ∨ s.pump.run ≠
      .reached ∨ s.table.drawing ≤ s.balance.effective ∨ (s.table.keysOf [.running]).any (fun k => !k.better s.ownKey) = true)) :=
  ⟨⟨(running' (surplus (op .running))), by decide +kernel⟩,
    ⟨(running' (isolatedAt 4 (op .running))), by decide +kernel⟩,
    ⟨(running' (op .running)), by decide +kernel⟩,
    ⟨(spaced (surplus (op .running))), by decide +kernel⟩,
    ⟨(spaced (op .running)), by decide +kernel⟩⟩

theorem witness_GrantsAndStaggersStart :
    (∃ s : State, s.window.claim = .holding ∧ s.window.hold.due s.cfg.claimHold = true ∧ s.pump.state = .claiming ∧ s.table.drawing <
      s.balance.effective ∧ s.lowLowInForce = false) ∧
    (∃ s : State, s.Kept ∧ s.operating = true ∧ s.window.claim = .holding ∧ s.window.hold.due s.cfg.claimHold = true ∧ s.pump.state =
      .claiming ∧ s.table.isolated = false ∧ s.balance.effective ≤ s.table.drawing) ∧
    (∃ s : State, s.pump.stagger.due (s.own.val * 5000) = true ∧ s.pump.state = .waiting ∧ s.table.isolated = true ∧
      s.cfg.isolatedPosition ≤ s.balance.demand ∧ 1 ≤ s.balance.effective) ∧
    (∃ s : State, s.pump.stagger.due (s.own.val * 5000) = true ∧ s.pump.state = .waiting ∧ s.table.isolated = true ∧ (s.balance.demand <
      s.cfg.isolatedPosition ∨ s.balance.effective = 0)) :=
  ⟨⟨(claimHeld .holding (op .claiming)), by decide +kernel⟩,
    ⟨(claimHeld .holding (slack .claiming)), by decide +kernel⟩,
    ⟨(staggering (isolatedAt 1 (op .waiting))), by decide +kernel⟩,
    ⟨(staggering (isolatedAt 4 (op .waiting))), by decide +kernel⟩⟩

theorem witness_ResetTripClearsTheLatch :
    (∃ s : State, ∃ src : CommandSource, ∃ cause : TripCause, s.Reaches src ∧ s.pump.state = .tripped ∧ s.pump.latch = some cause ∧
      s.pump.faultContact.active = false ∧ s.pump.runFb.active = false) ∧
    (∃ s : State, ∃ src : CommandSource, s.Reaches src ∧ (s.pump.latch = none ∨ s.pump.faultContact.active = true ∨ s.pump.runFb.active =
      true)) ∧
    (∃ s : State, ∃ address : Byte, ∃ mask : Byte, s.Serves address 6 ∧ s.operating = true ∧ mask.getLsbD s.own.val = false) ∧
    (∃ s : State, ∃ address : Byte, s.Serves address 6 ∧ s.operating = false) ∧
    (∃ s : State, ∃ address : Byte, s.hearsTown = true ∧ address = s.cfg.townAddress ∧ address ≠ 0 ∧ (s.start.phase = .configFault ∨
      s.cfg.remote = false)) ∧
    (∃ s : State, ∃ address : Byte, s.hearsTown = true ∧ address ≠ s.cfg.townAddress) ∧
    (∃ s : State, ∃ mask : Byte, ∃ sender : Station, s.canReceive = true ∧ sender ≠ s.own ∧ (¬ (mask.getLsbD s.own.val = true ∧
      s.cfg.remote = true ∧ s.operating = true))) ∧
    (∃ s : State, s.canReceive = false) :=
  ⟨⟨(latched .startFail (op .tripped)), (.town 10 4 0), .startFail, by decide +kernel⟩,
    ⟨(op .running), (.bayLink 5 255 0), by decide +kernel⟩,
    ⟨(op .running), 10, 3, by decide +kernel⟩,
    ⟨(listening (op .off)), 10, by decide +kernel⟩,
    ⟨(localOnly (op .running)), 10, by decide +kernel⟩,
    ⟨(op .running), 11, by decide +kernel⟩,
    ⟨(op .running), 3, 5, by decide +kernel⟩,
    ⟨(sending (.time 7) (op .running)), by decide +kernel⟩⟩

theorem witness_InhibitAndReleaseHoldThePump :
    (∃ s : State, ∃ src : CommandSource, s.Reaches src ∧ s.pump.inhibit = false) ∧
    (∃ s : State, ∃ src : CommandSource, s.Reaches src ∧ s.pump.inhibit = true) ∧
    (∃ s : State, ∃ src : CommandSource, s.Reaches src ∧ s.pump.inhibit = true ∧ s.pump.state = .inhibited) ∧
    (∃ s : State, ∃ src : CommandSource, s.Reaches src ∧ s.pump.inhibit = true ∧ s.pump.state ≠ .inhibited) ∧
    (∃ s : State, ∃ src : CommandSource, s.Reaches src ∧ s.pump.inhibit = false) ∧
    (∃ s : State, ∃ address : Byte, ∃ mask : Byte, ∃ argument : Byte, ∃ code : CommandCode, ∃ c : Instr, (c = .inhibit (.town address mask
      argument) ∧ code = .inhibit ∨ c = .release (.town address mask argument) ∧ code = .release) ∧ s.Serves address 6 ∧ s.operating =
      true ∧ mask.getLsbD s.own.val = false) ∧
    (∃ s : State, ∃ address : Byte, ∃ mask : Byte, ∃ argument : Byte, ∃ code : CommandCode, ∃ c : Instr, (c = .inhibit (.town address mask
      argument) ∧ code = .inhibit ∨ c = .release (.town address mask argument) ∧ code = .release) ∧ s.Serves address 6 ∧ s.operating =
      false) ∧
    (∃ s : State, ∃ address : Byte, ∃ mask : Byte, ∃ argument : Byte, ∃ code : CommandCode, ∃ c : Instr, (c = .inhibit (.town address mask
      argument) ∧ code = .inhibit ∨ c = .release (.town address mask argument) ∧ code = .release) ∧ s.hearsTown = true ∧ address =
      s.cfg.townAddress ∧ address ≠ 0 ∧ (s.start.phase = .configFault ∨ s.cfg.remote = false)) ∧
    (∃ s : State, ∃ address : Byte, ∃ mask : Byte, ∃ argument : Byte, ∃ code : CommandCode, ∃ c : Instr, (c = .inhibit (.town address mask
      argument) ∧ code = .inhibit ∨ c = .release (.town address mask argument) ∧ code = .release) ∧ s.hearsTown = true ∧ address ≠
      s.cfg.townAddress) ∧
    (∃ s : State, ∃ mask : Byte, ∃ argument : Byte, ∃ sender : Station, ∃ code : CommandCode, ∃ c : Instr, (c = .inhibit (.bayLink sender
      mask argument) ∧ code = .inhibit ∨ c = .release (.bayLink sender mask argument) ∧ code = .release) ∧ s.canReceive = true ∧ sender ≠
      s.own ∧ (¬ (mask.getLsbD s.own.val = true ∧ s.cfg.remote = true ∧ s.operating = true))) ∧
    (∃ s : State, ∃ mask : Byte, ∃ argument : Byte, ∃ sender : Station, ∃ c : Instr, (c = .inhibit (.bayLink sender mask argument) ∨ c =
      .release (.bayLink sender mask argument)) ∧ s.canReceive = false) :=
  ⟨⟨(op .running), (.town 10 4 0), by decide +kernel⟩,
    ⟨(inhibited (op .inhibited)), (.bayLink 5 255 0), by decide +kernel⟩,
    ⟨(inhibited (op .inhibited)), (.town 10 4 0), by decide +kernel⟩,
    ⟨(inhibited (op .stopping)), (.bayLink 5 255 0), by decide +kernel⟩,
    ⟨(op .running), (.town 10 4 0), by decide +kernel⟩,
    ⟨(op .running), 10, 3, 9, .inhibit, (.inhibit (.town 10 3 9)), by decide +kernel⟩,
    ⟨(listening (op .off)), 10, 4, 9, .inhibit, (.inhibit (.town 10 4 9)), by decide +kernel⟩,
    ⟨(localOnly (op .running)), 10, 4, 9, .inhibit, (.inhibit (.town 10 4 9)), by decide +kernel⟩,
    ⟨(op .running), 11, 4, 9, .inhibit, (.inhibit (.town 11 4 9)), by decide +kernel⟩,
    ⟨(op .running), 3, 9, 5, .inhibit, (.inhibit (.bayLink 5 3 9)), by decide +kernel⟩,
    ⟨(sending (.time 7) (op .running)), 4, 9, 5, (.inhibit (.bayLink 5 4 9)), by decide +kernel⟩⟩

theorem witness_RakeCommandsStartAndReset :
    (∃ s : State, ∃ src : CommandSource, s.Reaches src ∧ s.screenRuns = true ∧ s.screen.rake = .rakeIdle ∧ s.screen.rest.isRunning = false
      ∧ s.screen.overload.active = false) ∧
    (∃ s : State, ∃ src : CommandSource, s.Reaches src ∧ s.screenRuns = true ∧ (s.screen.rake ≠ .rakeIdle ∨ s.screen.rest.isRunning =
      true)) ∧
    (∃ s : State, ∃ src : CommandSource, s.Reaches src ∧ s.screenRuns = false) ∧
    (∃ s : State, ∃ src : CommandSource, s.Reaches src ∧ s.screenRuns = true ∧ (s.screen.rake = .jammed ∨ s.screen.rake = .fault) ∧
      s.screen.pendingFlag = false) ∧
    (∃ s : State, ∃ src : CommandSource, s.Reaches src ∧ s.screenRuns = true ∧ (s.screen.rake = .jammed ∨ s.screen.rake = .fault) ∧
      s.screen.pendingFlag = true ∧ s.screen.overload.active = false) ∧
    (∃ s : State, ∃ src : CommandSource, s.Reaches src ∧ (s.screenRuns = false ∨ (s.screen.rake ≠ .jammed ∧ s.screen.rake ≠ .fault))) ∧
    (∃ s : State, ∃ address : Byte, ∃ mask : Byte, ∃ argument : Byte, ∃ code : CommandCode, ∃ c : Instr, (c = .rakeNow (.town address mask
      argument) ∧ code = .rakeNow ∨ c = .resetRake (.town address mask argument) ∧ code = .resetRake) ∧ s.Serves address 6 ∧ s.operating =
      true ∧ mask.getLsbD s.own.val = false) ∧
    (∃ s : State, ∃ address : Byte, ∃ mask : Byte, ∃ argument : Byte, ∃ code : CommandCode, ∃ c : Instr, (c = .rakeNow (.town address mask
      argument) ∧ code = .rakeNow ∨ c = .resetRake (.town address mask argument) ∧ code = .resetRake) ∧ s.Serves address 6 ∧ s.operating =
      false) ∧
    (∃ s : State, ∃ address : Byte, ∃ mask : Byte, ∃ argument : Byte, ∃ code : CommandCode, ∃ c : Instr, (c = .rakeNow (.town address mask
      argument) ∧ code = .rakeNow ∨ c = .resetRake (.town address mask argument) ∧ code = .resetRake) ∧ s.hearsTown = true ∧ address =
      s.cfg.townAddress ∧ address ≠ 0 ∧ (s.start.phase = .configFault ∨ s.cfg.remote = false)) ∧
    (∃ s : State, ∃ address : Byte, ∃ mask : Byte, ∃ argument : Byte, ∃ code : CommandCode, ∃ c : Instr, (c = .rakeNow (.town address mask
      argument) ∧ code = .rakeNow ∨ c = .resetRake (.town address mask argument) ∧ code = .resetRake) ∧ s.hearsTown = true ∧ address ≠
      s.cfg.townAddress) ∧
    (∃ s : State, ∃ mask : Byte, ∃ argument : Byte, ∃ sender : Station, ∃ code : CommandCode, ∃ c : Instr, (c = .rakeNow (.bayLink sender
      mask argument) ∧ code = .rakeNow ∨ c = .resetRake (.bayLink sender mask argument) ∧ code = .resetRake) ∧ s.canReceive = true ∧
      sender ≠ s.own ∧ (¬ (mask.getLsbD s.own.val = true ∧ s.cfg.remote = true ∧ s.operating = true))) ∧
    (∃ s : State, ∃ mask : Byte, ∃ argument : Byte, ∃ sender : Station, ∃ c : Instr, (c = .rakeNow (.bayLink sender mask argument) ∨ c =
      .resetRake (.bayLink sender mask argument)) ∧ s.canReceive = false) :=
  ⟨⟨(raking .rakeIdle screenStation), (.town 10 4 0), by decide +kernel⟩,
    ⟨(raking .forward screenStation), (.bayLink 5 255 0), by decide +kernel⟩,
    ⟨(op .running), (.town 10 4 0), by decide +kernel⟩,
    ⟨(raking .jammed screenStation), (.town 10 4 0), by decide +kernel⟩,
    ⟨(pendingRake (raking .fault screenStation)), (.bayLink 5 255 0), by decide +kernel⟩,
    ⟨(raking .pause screenStation), (.town 10 4 0), by decide +kernel⟩,
    ⟨(op .running), 10, 3, 9, .rakeNow, (.rakeNow (.town 10 3 9)), by decide +kernel⟩,
    ⟨(listening (op .off)), 10, 4, 9, .rakeNow, (.rakeNow (.town 10 4 9)), by decide +kernel⟩,
    ⟨(localOnly (op .running)), 10, 4, 9, .rakeNow, (.rakeNow (.town 10 4 9)), by decide +kernel⟩,
    ⟨(op .running), 11, 4, 9, .rakeNow, (.rakeNow (.town 11 4 9)), by decide +kernel⟩,
    ⟨(op .running), 3, 9, 5, .rakeNow, (.rakeNow (.bayLink 5 3 9)), by decide +kernel⟩,
    ⟨(sending (.time 7) (op .running)), 4, 9, 5, (.rakeNow (.bayLink 5 4 9)), by decide +kernel⟩⟩

theorem witness_SlotsStartTheChosenFrame :
    (∃ s : State, ∃ e : TxEntry, ∃ rest : List TxEntry, ∃ slot : Nat, ∃ p : Nat, s.canReceive = true ∧ s.link.queue = e :: rest ∧ p = (if
      e.attempts = 0 then (((s.own.val : Int) - s.link.lastSender.val - 1) % 8).toNat + 1 else s.own.val + 9) ∧ p ≤ slot ∧ (slot - p) % 16
      = 0 ∧ e.body ≠ .report) ∧
    (∃ s : State, ∃ e : TxEntry, ∃ rest : List TxEntry, ∃ slot : Nat, ∃ p : Nat, s.canReceive = true ∧ s.link.queue = e :: rest ∧ p = (if
      e.attempts = 0 then (((s.own.val : Int) - s.link.lastSender.val - 1) % 8).toNat + 1 else s.own.val + 9) ∧ p ≤ slot ∧ (slot - p) % 16
      = 0 ∧ e.body = .report ∧ rest = []) ∧
    (∃ s : State, ∃ e : TxEntry, ∃ rest : List TxEntry, ∃ slot : Nat, ∃ p : Nat, s.canReceive = true ∧ s.link.queue = e :: rest ∧ p = (if
      e.attempts = 0 then (((s.own.val : Int) - s.link.lastSender.val - 1) % 8).toNat + 1 else s.own.val + 9) ∧ (slot < p ∨ (slot - p) %
      16 ≠ 0)) :=
  ⟨⟨(queued .time (op .running)), { body := .time, attempts := 0, sequence := none }, [], 3, 3, by decide +kernel⟩,
    ⟨(queued .report (op .running)), { body := .report, attempts := 0, sequence := none }, [], 19, 3, by decide +kernel⟩,
    ⟨(queued .time (op .running)), { body := .time, attempts := 0, sequence := none }, [], 4, 3, by decide +kernel⟩⟩

theorem witness_SentFramesLeaveTheQueue :
    (∃ s : State, ∃ body : FrameBody, s.link.sending = some body ∧ s.link.heldOffer = none ∧ (body.cls ≠ 1 ∧ body.cls ≠ 2)) ∧
    (∃ s : State, ∃ body : FrameBody, ∃ b : TxBody, s.link.sending = some body ∧ s.link.heldOffer = some b ∧ (body.cls ≠ 1 ∧ body.cls ≠
      2)) ∧
    (∃ s : State, ∃ body : FrameBody, s.link.sending = some body ∧ s.link.heldOffer = none ∧ body.cls = 1 ∧ s.link.closing = none ∧
      s.window.claim = .pending) ∧
    (∃ s : State, ∃ body : FrameBody, s.link.sending = some body ∧ s.link.heldOffer = none ∧ body.cls = 1 ∧ s.link.closing = none ∧
      s.window.claim ≠ .pending) ∧
    (∃ s : State, ∃ body : FrameBody, ∃ n : Byte, ∃ o : ClaimOutcome, s.link.sending = some body ∧ s.link.heldOffer = none ∧ body.cls = 1
      ∧ s.link.closing = some (n, o)) ∧
    (∃ s : State, ∃ body : FrameBody, s.link.sending = some body ∧ s.link.heldOffer = none ∧ body.cls = 2 ∧ s.link.heldClaim = none) ∧
    (∃ s : State, ∃ body : FrameBody, ∃ n : Byte, ∃ h : Half, s.link.sending = some body ∧ s.link.heldOffer = none ∧ body.cls = 2 ∧
      s.link.heldClaim = some (n, h)) :=
  ⟨⟨(sending (.time 7) (op .running)), (.time 7), by decide +kernel⟩,
    ⟨(offerHeld .time (sending (.time 7) (op .running))), (.time 7), .time, by decide +kernel⟩,
    ⟨(sending (.startClaim 3 0) (claimHeld .pending (op .claiming))), (.startClaim 3 0), by decide +kernel⟩,
    ⟨(sending (.startClaim 3 0) (op .idle)), (.startClaim 3 0), by decide +kernel⟩,
    ⟨(closingClaim (sending (.startClaim 3 0) (claimHeld .pending (op .idle)))), (.startClaim 3 0), 3, .withdrawn, by decide +kernel⟩,
    ⟨(sending (.startDone 3 .started) (op .running)), (.startDone 3 .started), by decide +kernel⟩,
    ⟨(claimBehind (sending (.startDone 3 .started) (op .claiming))), (.startDone 3 .started), 4, 12, by decide +kernel⟩⟩

theorem witness_EchoFailuresCountToFour :
    (∃ s : State, ∃ body : FrameBody, ∃ e : TxEntry, s.started = true ∧ s.QueueInClassOrder ∧ s.link.sending = some body ∧
      s.link.heldOffer = none ∧ e ∈ s.link.queue ∧ e.body.cls = body.cls ∧ s.link.closing = none ∧ e.attempts < 3) ∧
    (∃ s : State, ∃ body : FrameBody, ∃ e : TxEntry, s.started = true ∧ s.QueueInClassOrder ∧ s.link.sending = some body ∧
      s.link.heldOffer = none ∧ e ∈ s.link.queue ∧ e.body.cls = body.cls ∧ s.link.closing = none ∧ 3 ≤ e.attempts ∧ (body.cls ≠ 1 ∧
      body.cls ≠ 2)) ∧
    (∃ s : State, ∃ body : FrameBody, ∃ e : TxEntry, s.started = true ∧ s.QueueInClassOrder ∧ s.link.sending = some body ∧
      s.link.heldOffer = none ∧ e ∈ s.link.queue ∧ e.body.cls = body.cls ∧ s.link.closing = none ∧ 3 ≤ e.attempts ∧ body.cls = 2) ∧
    (∃ s : State, ∃ body : FrameBody, ∃ e : TxEntry, s.started = true ∧ s.QueueInClassOrder ∧ s.link.sending = some body ∧
      s.link.heldOffer = none ∧ e ∈ s.link.queue ∧ e.body.cls = body.cls ∧ s.link.closing = none ∧ 3 ≤ e.attempts ∧ body.cls = 1 ∧
      s.window.claim ≠ .pending) ∧
    (∃ s : State, ∃ body : FrameBody, ∃ e : TxEntry, s.started = true ∧ s.QueueInClassOrder ∧ s.link.sending = some body ∧
      s.link.heldOffer = none ∧ e ∈ s.link.queue ∧ e.body.cls = body.cls ∧ s.link.closing = none ∧ 3 ≤ e.attempts ∧ body.cls = 1 ∧
      s.window.claim = .pending ∧ s.pump.state ≠ .claiming) ∧
    (∃ s : State, ∃ body : FrameBody, ∃ e : TxEntry, s.started = true ∧ s.QueueInClassOrder ∧ s.link.sending = some body ∧
      s.link.heldOffer = none ∧ e ∈ s.link.queue ∧ e.body.cls = body.cls ∧ s.link.closing = none ∧ 3 ≤ e.attempts ∧ body.cls = 1 ∧
      s.window.claim = .pending ∧ s.pump.state = .claiming) ∧
    (∃ s : State, ∃ body : FrameBody, ∃ e : TxEntry, ∃ w : Byte × ClaimOutcome, s.started = true ∧ s.QueueInClassOrder ∧ s.link.sending =
      some body ∧ s.link.heldOffer = none ∧ e ∈ s.link.queue ∧ e.body.cls = body.cls ∧ s.link.closing = some w ∧ body.cls = 1) ∧
    (∃ s : State, ∃ body : FrameBody, ∃ e : TxEntry, ∃ w : Byte × ClaimOutcome, s.started = true ∧ s.QueueInClassOrder ∧ s.link.sending =
      some body ∧ s.link.heldOffer = none ∧ e ∈ s.link.queue ∧ e.body.cls = body.cls ∧ s.link.closing = some w ∧ body.cls ≠ 1) ∧
    (∃ s : State, ∃ body : FrameBody, ∃ b : TxBody, s.link.sending = some body ∧ s.link.heldOffer = some b) :=
  ⟨⟨(sending (.time 7) (queued .time (op .running))), (.time 7), { body := .time, attempts := 0, sequence := none }, by decide +kernel⟩,
    ⟨(sending (.time 7) (tried 3 (queued .time (op .running)))), (.time 7), { body := .time, attempts := 3, sequence := none },
      by decide +kernel⟩,
    ⟨(sending (.startDone 3 .failed) (tried 3 (queued (.startDone 3 .failed) (op .running)))), (.startDone 3 .failed),
      { body := .startDone 3 .failed, attempts := 3, sequence := none }, by decide +kernel⟩,
    ⟨(sending (.startClaim 3 0) (tried 3 (queued (.startClaim 3 0) (op .idle)))), (.startClaim 3 0),
      { body := .startClaim 3 0, attempts := 3, sequence := none }, by decide +kernel⟩,
    ⟨(sending (.startClaim 3 0) (tried 3 (queued (.startClaim 3 0) (claimHeld .pending (op .off))))), (.startClaim 3 0),
      { body := .startClaim 3 0, attempts := 3, sequence := none }, by decide +kernel⟩,
    ⟨(sending (.startClaim 3 0) (tried 3 (queued (.startClaim 3 0) (claimHeld .pending (op .claiming))))), (.startClaim 3 0),
      { body := .startClaim 3 0, attempts := 3, sequence := none }, by decide +kernel⟩,
    ⟨(closingClaim (sending (.startClaim 3 0) (tried 1 (queued (.startClaim 3 0) (claimHeld .pending (op .off)))))), (.startClaim 3 0),
      { body := .startClaim 3 0, attempts := 1, sequence := none }, (3, .withdrawn), by decide +kernel⟩,
    ⟨(closingClaim (sending (.time 7) (queued .time (op .running)))), (.time 7), { body := .time, attempts := 0, sequence := none }, (3,
      .withdrawn), by decide +kernel⟩,
    ⟨(offerHeld .time (sending (.time 7) (queued .time (op .running)))), (.time 7), .time, by decide +kernel⟩⟩

theorem witness_LinkTimersRun :
    (∃ s : State, s.started = true ∧ s.link.report.due s.cfg.reportInterval = true) ∧
    (∃ s : State, s.started = true) ∧
    (∃ s : State, s.started = true ∧ s.link.duplicate.due 30000 = true ∧ s.start.phase ≠ .configFault ∧ s.cfg.houseSize ≠ 1) ∧
    (∃ s : State, s.started = true ∧ s.link.duplicate.due 30000 = true ∧ (s.start.phase = .configFault ∨ s.cfg.houseSize = 1) ∧
      s.table.isolated = true) :=
  ⟨⟨(reporting (op .running)), by decide +kernel⟩,
    ⟨(op .running), by decide +kernel⟩,
    ⟨(duplicated (op .running)), by decide +kernel⟩,
    ⟨(houseOfOne (duplicated (isolatedAt 1 (op .lockout)))), by decide +kernel⟩⟩

theorem witness_DiscardedAndOwnFrames :
    (∃ s : State, ∃ bytes : List Byte, ∃ framing : Bool, s.canReceive = true ∧ (framing = true ∨ bytes.length < 5 ∨ 30 < bytes.length ∨
      crc bytes ≠ 0)) ∧
    (∃ s : State, s.canReceive = true ∧ s.link.duplicate.isRunning = true) ∧
    (∃ s : State, s.canReceive = true ∧ s.link.duplicate.isRunning = false) :=
  ⟨⟨(op .running), (withCheck [4, 5, 4, 0, 0, 0, 0]), true, by decide +kernel⟩,
    ⟨(duplicated (op .running)), by decide +kernel⟩,
    ⟨(op .running), by decide +kernel⟩⟩

theorem witness_ReportsFillTheTable :
    ∃ s : State, ∃ sender : Station, s.TakesFrom sender :=
  ⟨(op .tripped), 5, by decide +kernel⟩

theorem witness_PeersClaimAndRelease :
    (∃ s : State, ∃ sender : Station, s.TakesFrom sender ∧ s.window.view = .free) ∧
    (∃ s : State, ∃ sender : Station, ∃ hours : Half, ∃ holder : Station, ∃ known : Option Byte, ∃ best : DutyKey, ∃ timer : Timer,
      s.TakesFrom sender ∧ s.window.view = .held holder known best timer ∧ (sender = holder ∨ (hours.toNat < (best).hours ∨ (hours.toNat =
      (best).hours ∧ sender.val < (best).station.val)))) ∧
    (∃ s : State, ∃ sender : Station, ∃ hours : Half, ∃ holder : Station, ∃ known : Option Byte, ∃ best : DutyKey, ∃ timer : Timer,
      s.TakesFrom sender ∧ s.window.view = .held holder known best timer ∧ sender ≠ holder ∧ (¬ (hours.toNat < (best).hours ∨ (hours.toNat
      = (best).hours ∧ sender.val < (best).station.val)))) ∧
    (∃ s : State, ∃ sender : Station, ∃ hours : Half, s.TakesFrom sender ∧ s.window.view = .own ∧ (s.window.claim = .pending ∨
      s.window.claim = .holding) ∧ (hours.toNat < ((s.window.key.getD s.ownKey)).hours ∨ (hours.toNat = ((s.window.key.getD
      s.ownKey)).hours ∧ sender.val < ((s.window.key.getD s.ownKey)).station.val))) ∧
    (∃ s : State, ∃ sender : Station, ∃ hours : Half, s.TakesFrom sender ∧ s.window.view = .own ∧ ((s.window.claim ≠ .pending ∧
      s.window.claim ≠ .holding) ∨ ¬ (hours.toNat < ((s.window.key.getD s.ownKey)).hours ∨ (hours.toNat = ((s.window.key.getD
      s.ownKey)).hours ∧ sender.val < ((s.window.key.getD s.ownKey)).station.val)))) ∧
    (∃ s : State, ∃ sender : Station, ∃ number : Byte, ∃ holder : Station, ∃ known : Option Byte, ∃ best : DutyKey, ∃ timer : Timer,
      s.TakesFrom sender ∧ s.window.view = .held holder known best timer ∧ sender = holder ∧ (known = none ∨ known = some number)) ∧
    (∃ s : State, ∃ sender : Station, ∃ number : Byte, ∃ holder : Station, ∃ known : Option Byte, ∃ best : DutyKey, ∃ timer : Timer,
      s.TakesFrom sender ∧ s.window.view = .held holder known best timer ∧ (sender ≠ holder ∨ (known ≠ none ∧ known ≠ some number))) ∧
    (∃ s : State, ∃ sender : Station, s.TakesFrom sender ∧ (s.window.view = .free ∨ s.window.view = .own)) :=
  ⟨⟨(op .running), 5, by decide +kernel⟩,
    ⟨(viewHeld (op .running)), 6, 1, 5, (some 9), someKey, (.running 20000), by decide +kernel⟩,
    ⟨(viewHeld (op .running)), 6, 3, 5, (some 9), someKey, (.running 20000), by decide +kernel⟩,
    ⟨(claimHeld .holding (ran 36000 (op .claiming))), 5, 9, by decide +kernel⟩,
    ⟨(claimHeld .granted (op .starting)), 5, 9, by decide +kernel⟩,
    ⟨(viewHeld (op .running)), 5, 9, 5, (some 9), someKey, (.running 20000), by decide +kernel⟩,
    ⟨(viewHeld (op .running)), 5, 8, 5, (some 9), someKey, (.running 20000), by decide +kernel⟩,
    ⟨(op .running), 5, by decide +kernel⟩⟩

theorem witness_TheClockIsSet :
    (∃ s : State, ∃ address : Byte, s.Serves address 7) ∧
    (∃ s : State, ∃ address : Byte, s.hearsTown = true ∧ address = 0 ∧ s.cfg.townAddress ≠ 0 ∧ s.barred 7 = none) ∧
    (∃ s : State, ∃ sender : Station, s.canReceive = true ∧ sender ≠ s.own) :=
  ⟨⟨(op .running), 10, by decide +kernel⟩,
    ⟨(op .running), 0, by decide +kernel⟩,
    ⟨(op .running), 5, by decide +kernel⟩⟩

theorem witness_EntriesAge :
    (∃ s : State, ∃ peer : Station, s.working = true ∧ (s.table.entry peer).state = .fresh ∧ (s.table.entry peer).age.due (3 *
      s.cfg.reportInterval) = true) ∧
    (∃ s : State, ∃ peer : Station, ∃ r : Report, ∃ heard : Stamp, s.working = true ∧ (s.table.entry peer).state = .stale ∧ (s.table.entry
      peer).age.due (10 * s.cfg.reportInterval) = true ∧ (s.table.entry peer).last = some r ∧ (s.table.entry peer).lastHeard = some heard)
      ∧
    (∃ s : State, ∃ peer : Station, s.working = true ∧ (s.table.entry peer).state = .lost ∧ (s.table.entry peer).release.due
      (s.cfg.lostRelease * 1000) = true) :=
  ⟨⟨(withPeer .fresh (op .running)), 5, by decide +kernel⟩,
    ⟨(withPeer .stale (op .running)), 5, peerReport, someStamp, by decide +kernel⟩,
    ⟨(withPeer .lost (op .running)), 5, by decide +kernel⟩⟩

theorem witness_SilenceIsolates :
    (∃ s : State, s.working = true ∧ s.table.silence.due (10 * s.cfg.reportInterval) = true ∧ 2 ≤ s.cfg.houseSize) ∧
    (∃ s : State, s.table.silence.due (10 * s.cfg.reportInterval) = true ∧ s.cfg.houseSize < 2) :=
  ⟨⟨(silentHouse (op .claiming)), by decide +kernel⟩,
    ⟨(houseOfOne (silentHouse (op .running))), by decide +kernel⟩⟩

theorem witness_PatienceAndTimeoutClaim :
    (∃ s : State, s.window.patience.due (s.cfg.patience * 1000) = true ∧ s.pump.state = .waiting ∧ s.operating = true ∧ s.table.isolated =
      false ∧ s.window.view = .free) ∧
    (∃ s : State, s.window.patience.due (s.cfg.patience * 1000) = true ∧ (s.pump.state ≠ .waiting ∨ s.operating = false ∨ s.table.isolated
      = true ∨ s.window.view ≠ .free)) ∧
    (∃ s : State, ∃ holder : Station, ∃ known : Option Byte, ∃ best : DutyKey, ∃ timer : Timer, s.started = true ∧ s.window.view = .held
      holder known best timer ∧ timer.due (s.cfg.windowLimit * 1000) = true) :=
  ⟨⟨(patient (op .waiting)), by decide +kernel⟩,
    ⟨(viewHeld (patient (op .waiting))), by decide +kernel⟩,
    ⟨(viewHeld (op .running)), 5, (some 9), someKey, (.running 20000), by decide +kernel⟩⟩

theorem witness_RakeTimersDriveTheCycle :
    (∃ s : State, s.started = true ∧ s.screen.camCheck.due 2000 = true ∧ s.screen.rake = .forward ∧ s.screen.cam.active = true) ∧
    (∃ s : State, s.screen.camCheck.due 2000 = true ∧ s.screen.rake = .forward ∧ s.screen.cam.active = false) ∧
    (∃ s : State, s.screen.camCheck.due 2000 = true ∧ s.screen.rake ≠ .forward) ∧
    (∃ s : State, s.screen.reverse.due (s.cfg.reverseTime * 1000) = true ∧ s.screen.rake = .clearing) ∧
    (∃ s : State, s.screen.pause.due 5000 = true ∧ s.screen.rake = .pause ∧ s.screen.camCheck ≠ .reached ∧ s.screen.overload.active =
      false) ∧
    (∃ s : State, s.screen.pause.due 5000 = true ∧ s.screen.rake = .pause ∧ s.screen.camCheck ≠ .reached ∧ s.screen.overload.active = true
      ∧ s.screen.overloads < 2) ∧
    (∃ s : State, s.screen.pause.due 5000 = true ∧ s.screen.rake = .pause ∧ s.screen.camCheck = .reached ∧ s.screen.cam.active = false ∧
      s.screen.overload.active = false) ∧
    (∃ s : State, s.started = true ∧ s.screen.cycle.due (s.cfg.cycleTimeout * 1000) = true ∧ (s.screen.rake = .forward ∨ s.screen.rake =
      .clearing ∨ s.screen.rake = .pause)) ∧
    (∃ s : State, s.screen.rest.due (s.cfg.rest * 1000) = true ∧ (s.screen.rake ≠ .rakeIdle ∨ s.screen.pendingFlag = false)) ∧
    (∃ s : State, s.screen.rest.due (s.cfg.rest * 1000) = true ∧ s.screen.rake = .rakeIdle ∧ s.screen.pendingFlag = true ∧
      s.screen.overload.active = false) ∧
    (∃ s : State, s.screen.interval.canExpire (s.cfg.rakeInterval * 60000) = true ∧ 0 < s.table.drawing ∧ s.screen.rake = .rakeIdle ∧
      s.screen.rest.isRunning = false ∧ s.screen.overload.active = false) ∧
    (∃ s : State, s.screen.interval.canExpire (s.cfg.rakeInterval * 60000) = true ∧ 0 < s.table.drawing ∧ s.screen.rake ≠ .rakeOff ∧
      (s.screen.rake ≠ .rakeIdle ∨ s.screen.rest.isRunning = true)) :=
  ⟨⟨(camStands (raking .forward screenStation)), by decide +kernel⟩,
    ⟨(raking .forward screenStation), by decide +kernel⟩,
    ⟨(raking .pause screenStation), by decide +kernel⟩,
    ⟨(raking .clearing screenStation), by decide +kernel⟩,
    ⟨(raking .pause screenStation), by decide +kernel⟩,
    ⟨(overloaded (raking .pause screenStation)), by decide +kernel⟩,
    ⟨(checkDue (raking .pause screenStation)), by decide +kernel⟩,
    ⟨(raking .clearing screenStation), by decide +kernel⟩,
    ⟨(resting (raking .rakeIdle screenStation)), by decide +kernel⟩,
    ⟨(pendingRake (resting (raking .rakeIdle screenStation))), by decide +kernel⟩,
    ⟨(drawn (raking .rakeIdle screenStation)), by decide +kernel⟩,
    ⟨(drawn (raking .pause screenStation)), by decide +kernel⟩⟩

theorem witness_FetchEmptiesTheQueue :
    ∃ s : State, ∃ address : Byte, ∃ toggle : Bool, ∃ records : List EventRecord, s.Serves address 1 ∧ (records = if s.town.sent = true ∧
      toggle ≠ s.town.toggle then s.markValid.events.records.drop 1 else s.markValid.events.records) :=
  ⟨(logged (op .running)), 10, true, [], by decide +kernel⟩

theorem witness_TownReadsAreAnswered :
    (∃ s : State, ∃ address : Byte, ∃ page : Option Byte, ∃ items : List Byte, s.Serves address 2 ∧ s.markValid.statusPage (page.getD
      0).toNat = some items) ∧
    (∃ s : State, ∃ address : Byte, ∃ page : Option Byte, s.Serves address 2 ∧ 3 < (page.getD 0).toNat) ∧
    (∃ s : State, ∃ address : Byte, s.Serves address 3) ∧
    (∃ s : State, ∃ address : Byte, ∃ index : Byte, ∃ r : SpillRecord, s.Serves address 4 ∧ s.spill.list[index.toNat]? = some r) ∧
    (∃ s : State, ∃ address : Byte, ∃ index : Byte, s.Serves address 4 ∧ s.spill.list.length ≤ index.toNat) ∧
    (∃ s : State, ∃ address : Byte, s.Serves address 8) :=
  ⟨⟨(op .running), 10, (some 3), [], by decide +kernel⟩,
    ⟨(op .running), 10, (some 4), by decide +kernel⟩,
    ⟨(op .running), 10, by decide +kernel⟩,
    ⟨(spillIn .spilling weirStation), 10, 0, spillRecord, by decide +kernel⟩,
    ⟨(op .running), 10, 0, by decide +kernel⟩,
    ⟨(op .running), 10, by decide +kernel⟩⟩

theorem witness_TownAcknowledges :
    (∃ s : State, ∃ address : Byte, ∃ point : Byte, s.Serves address 5 ∧ (point.toNat < 25 ∨ point = 255)) ∧
    (∃ s : State, ∃ address : Byte, ∃ point : Byte, s.Serves address 5 ∧ 25 ≤ point.toNat ∧ point ≠ 255) :=
  ⟨⟨(alerting (op .running)), 10, 24, by decide +kernel⟩,
    ⟨(op .running), 10, 25, by decide +kernel⟩⟩

theorem witness_MessagesAreChecked :
    (∃ s : State, ∃ bytes : List Byte, ∃ framing : Bool, s.hearsTown = true ∧ (bytes.length < 6 ∨ framing = true ∨ crc bytes ≠ 0)) ∧
    (∃ s : State, ∃ bytes : List Byte, ∃ address : Byte, ∃ kind : Byte, ∃ flags : Byte, ∃ n : Byte, ∃ rest : List Byte, s.hearsTown = true
      ∧ 6 ≤ bytes.length ∧ crc bytes = 0 ∧ bytes = address :: kind :: flags :: n :: rest ∧ address ≠ s.cfg.townAddress ∧ (address ≠ 0 ∨
      kind ≠ 7)) ∧
    (∃ s : State, ∃ bytes : List Byte, ∃ address : Byte, ∃ kind : Byte, ∃ flags : Byte, ∃ n : Byte, ∃ rest : List Byte, s.hearsTown = true
      ∧ 6 ≤ bytes.length ∧ crc bytes = 0 ∧ bytes = address :: kind :: flags :: n :: rest ∧ address = s.cfg.townAddress ∧ address ≠ 0 ∧ 200
      < n.toNat) ∧
    (∃ s : State, ∃ bytes : List Byte, ∃ address : Byte, ∃ kind : Byte, ∃ flags : Byte, ∃ n : Byte, ∃ rest : List Byte, s.hearsTown = true
      ∧ 6 ≤ bytes.length ∧ crc bytes = 0 ∧ bytes = address :: kind :: flags :: n :: rest ∧ address = s.cfg.townAddress ∧ address ≠ 0 ∧
      n.toNat ≤ 200 ∧ (n.toNat + 6 ≠ bytes.length ∨ kind = 0 ∨ 8 < kind.toNat)) ∧
    (∃ s : State, ∃ bytes : List Byte, ∃ address : Byte, ∃ kind : Byte, ∃ flags : Byte, ∃ n : Byte, ∃ rest : List Byte, s.hearsTown = true
      ∧ 6 ≤ bytes.length ∧ crc bytes = 0 ∧ bytes = address :: kind :: flags :: n :: rest ∧ address = s.cfg.townAddress ∧ address ≠ 0 ∧
      n.toNat + 6 = bytes.length ∧ n.toNat ≤ 200 ∧ s.start.phase = .configFault ∧ (kind = 3 ∨ kind = 5 ∨ kind = 6 ∨ kind = 7)) ∧
    (∃ s : State, ∃ bytes : List Byte, ∃ address : Byte, ∃ kind : Byte, ∃ flags : Byte, ∃ n : Byte, ∃ rest : List Byte, s.hearsTown = true
      ∧ 6 ≤ bytes.length ∧ crc bytes = 0 ∧ bytes = address :: kind :: flags :: n :: rest ∧ address = s.cfg.townAddress ∧ address ≠ 0 ∧
      n.toNat + 6 = bytes.length ∧ n.toNat ≤ 200 ∧ s.start.phase ≠ .configFault ∧ s.cfg.remote = false ∧ (kind = 6 ∨ kind = 7 ∨ kind = 8))
      ∧
    (∃ s : State, ∃ bytes : List Byte, ∃ address : Byte, ∃ kind : Byte, ∃ flags : Byte, ∃ n : Byte, ∃ rest : List Byte, s.hearsTown = true
      ∧ 6 ≤ bytes.length ∧ crc bytes = 0 ∧ bytes = address :: kind :: flags :: n :: rest ∧ address = s.cfg.townAddress ∧ address ≠ 0 ∧
      n.toNat + 6 = bytes.length ∧ n.toNat ≤ 200 ∧ s.start.phase = .configFault ∧ s.start.settings = .configFault s.own ∧ kind = 8) ∧
    (∃ s : State, ∃ bytes : List Byte, ∃ address : Byte, ∃ kind : Byte, ∃ flags : Byte, ∃ n : Byte, ∃ rest : List Byte, s.hearsTown = true
      ∧ 6 ≤ bytes.length ∧ crc bytes = 0 ∧ bytes = address :: kind :: flags :: n :: rest ∧ address = s.cfg.townAddress ∧ address ≠ 0 ∧
      n.toNat + 6 = bytes.length ∧ n.toNat ≤ 200 ∧ s.barred kind.toNat = none ∧ (((kind = 1 ∨ kind = 3 ∨ kind = 8) ∧ n ≠ 0) ∨ (kind = 2 ∧
      1 < n.toNat) ∨ ((kind = 4 ∨ kind = 5) ∧ n ≠ 1) ∨ (kind = 6 ∧ (n ≠ 3 ∨ rest.getD 1 0 = 0 ∨ 5 < (rest.getD 1 0).toNat)) ∨ (kind = 7 ∧
      n ≠ 4))) ∧
    (∃ s : State, ∃ bytes : List Byte, ∃ address : Byte, ∃ kind : Byte, ∃ flags : Byte, ∃ n : Byte, ∃ rest : List Byte, s.hearsTown = true
      ∧ 6 ≤ bytes.length ∧ crc bytes = 0 ∧ bytes = address :: kind :: flags :: n :: rest ∧ address = 0 ∧ kind = 7 ∧ (200 < n.toNat ∨
      n.toNat + 6 ≠ bytes.length ∨ s.start.phase = .configFault ∨ s.cfg.remote = false ∨ n ≠ 4)) :=
  ⟨⟨(op .running), [10, 1, 0, 0, 9], false, by decide +kernel⟩,
    ⟨(op .running), (withCheck [11, 1, 0, 0]), 11, 1, 0, 0, (halfBytes (crc [11, 1, 0, 0])), by decide +kernel⟩,
    ⟨(op .running), (withCheck [10, 1, 0, 201]), 10, 1, 0, 201, (halfBytes (crc [10, 1, 0, 201])), by decide +kernel⟩,
    ⟨(op .running), (withCheck [10, 9, 0, 0]), 10, 9, 0, 0, (halfBytes (crc [10, 9, 0, 0])), by decide +kernel⟩,
    ⟨faultedStation, (withCheck [202, 3, 0, 0]), 202, 3, 0, 0, (halfBytes (crc [202, 3, 0, 0])), by decide +kernel⟩,
    ⟨(localOnly (op .running)), (withCheck [10, 8, 0, 0]), 10, 8, 0, 0, (halfBytes (crc [10, 8, 0, 0])), by decide +kernel⟩,
    ⟨faultedStation, (withCheck [202, 8, 0, 0]), 202, 8, 0, 0, (halfBytes (crc [202, 8, 0, 0])), by decide +kernel⟩,
    ⟨(op .running), (withCheck [10, 6, 0, 3, 4, 6, 0]), 10, 6, 0, 3, ([4, 6, 0] ++ halfBytes (crc [10, 6, 0, 3, 4, 6, 0])),
      by decide +kernel⟩,
    ⟨(op .running), (withCheck [0, 7, 0, 3, 1, 2, 3]), 0, 7, 0, 3, ([1, 2, 3] ++ halfBytes (crc [0, 7, 0, 3, 1, 2, 3])),
      by decide +kernel⟩⟩

theorem witness_AnnunciatorFollowsRawChanges :
    (∃ (s : State) (p : AlarmPoint), s.started = true ∧ s.rawOf p ≠ true ∧ s.alarms.points[pointIndex p].ann = .normal) ∧
    (∃ (s : State) (p : AlarmPoint), s.started = true ∧ s.rawOf p ≠ true ∧ s.alarms.points[pointIndex p].ann = .returned) ∧
    (∃ (s : State) (p : AlarmPoint), s.started = true ∧ s.rawOf p ≠ false ∧ s.alarms.points[pointIndex p].ann = .alert) ∧
    (∃ (s : State) (p : AlarmPoint), s.started = true ∧ s.rawOf p ≠ false ∧ s.alarms.points[pointIndex p].ann = .standing) ∧
    (∃ (s : State) (p : AlarmPoint), s.started = true ∧ s.rawOf p = true) :=
  ⟨⟨op .off, .configWrite, by decide +kernel⟩, ⟨(alerting (op .off)).deliver .configWrite false, .configWrite, by decide +kernel⟩,
    ⟨alerting (op .off), .configWrite, by decide +kernel⟩, ⟨(alerting (op .off)).ackAll 2, .configWrite, by decide +kernel⟩,
    ⟨alerting (op .off), .configWrite, by decide +kernel⟩⟩

theorem witness_OverflowKeepsTheLastPlace :
    (∃ q : EventQueue, 64 ≤ q.records.length) ∧ (∃ q : EventQueue, q.records.length ≤ 63 ∧ q.overflow = 0) ∧
    (∃ q : EventQueue, q.records.length = 63 ∧ 0 < q.overflow) ∧ (∃ q : EventQueue, q.records.length ≤ 62 ∧ 0 < q.overflow) :=
  ⟨⟨{ records := List.replicate 64 (record 7), counter := 0, overflow := 2 }, by decide +kernel⟩, ⟨.reset, by decide +kernel⟩,
    ⟨{ records := List.replicate 63 (record 7), counter := 0, overflow := 1 }, by decide +kernel⟩,
    ⟨{ records := List.replicate 62 (record 7), counter := 0, overflow := 65535 }, by decide +kernel⟩⟩

theorem witness_WeirFlowByTheWholeRoot : (0 : Int) < 120 ∧ IsWholeRoot (100 * (min (120 : Int) 3000).toNat) 109 := by
  unfold IsWholeRoot
  decide

theorem witness_MedianAndVolumeStayBetween :
    medianLevel [1497, 1510, 1488, 1502] = some 1500 ∧
    testSettings.volumeTable.Pairwise (fun a b => a.1 < b.1 ∧ a.2 ≤ b.2) ∧ testSettings.volumeTable.head? = some (0, 0) ∧
    testSettings.volumeTable.getLast? = some (3000, 260000) := by decide +kernel

theorem witness_BandDemandSettles :
    testSettings.bands.Pairwise (fun a b => a.1 < b.1 ∧ a.2 < b.2) ∧ (∀ b ∈ testSettings.bands, b.2 < b.1) ∧
    4 ≤ testSettings.bands.length := by decide +kernel

theorem witness_AcceptedImagesAreInRange :
    ∃ (station : Station) (reads : List (Option (List Byte))) (g : Settings), judgeImage station reads = .accepted g :=
  ⟨_, _, _, testImage_accepted⟩

/-- A pump in RUNNING whose low-low float comes into force: the contactor opens and every invariant still holds. -/
def lowWell : State := (floatDue (op .running)).withPending [.floatDebounceExpiry .lowLow]
theorem witness_TheContactorStaysSafe :
    ∃ s t : State, s.Kept ∧ step s = .next t ∧ s.pump.contactor = true ∧ t.lowLowInForce = true ∧ t.pump.contactor = false :=
  ⟨lowWell, stepped lowWell, by decide +kernel, rfl, by decide +kernel, by decide +kernel, by decide +kernel⟩

theorem witness_TheRecordsStayInOrder :
    ∃ s t : State, s.RelaysFollow ∧ s.QueueNumbered ∧ s.spill.ListKept ∧ step s = .next t ∧ t ≠ s :=
  ⟨lowWell, stepped lowWell, by decide +kernel, by decide +kernel, by decide +kernel, rfl, by decide +kernel⟩

theorem witness_TheFormsStayWhole :
    ∃ s t : State, s.ViewOwnsClaim ∧ s.QueueInClassOrder ∧ s.OwnEntryEmpty ∧ s.RakeOutputsFollow ∧ s.chanW.WindowWhole ∧
      s.chanX.WindowWhole ∧ step s = .next t ∧ t ≠ s :=
  ⟨lowWell, stepped lowWell, by decide +kernel, by decide +kernel, by decide +kernel, by decide +kernel, by decide +kernel,
    by decide +kernel, rfl, by decide +kernel⟩

end Sys2Proof.Tests
end

