-- ==== Sys2Proof/Proofs/WeirFlow.lean ====
section
/-! The weir flow (R141): the bitwise square root is the greatest whole root of every argument the clamped head can give it. -/

namespace Sys2Proof.Machine

/-- The whole root of R141 is the library's, so there is exactly one for each number. -/
theorem isWholeRoot_iff_eq_sqrt {n r : Nat} : IsWholeRoot n r ↔ r = Nat.sqrt n :=
  Nat.eq_sqrt.symm

/-- The loop's invariant: the root lies between `s` and `s + 2 ^ k`, and testing one bit halves that interval. -/
theorem isWholeRoot_sqrtBits {n k s : Nat} (low : s * s ≤ n) (high : n < (s + 2 ^ k) * (s + 2 ^ k)) :
    IsWholeRoot n (sqrtBits n k s) := by
  induction k generalizing s with
  | zero => exact ⟨low, high⟩
  | succ k ih =>
    have halves : s + 2 ^ (k + 1) = s + 2 ^ k + 2 ^ k := by omega
    rw [halves] at high
    rw [sqrtBits]
    split
    case isTrue fits => exact ih fits high
    case isFalse exceeds => exact ih low (Nat.lt_of_not_le exceeds)

theorem isWholeRoot_wholeSqrt {n : Nat} (small : n < 2 ^ 20) : IsWholeRoot n (wholeSqrt n) :=
  isWholeRoot_sqrtBits (Nat.zero_le n) (by omega)

/-- R141's clamp of the head keeps the root's argument at 300,000 or less. -/
theorem hundredHeads_lt (h : Int) : 100 * (min h 3000).toNat < 2 ^ 20 := by
  omega

theorem weirFlow_of_nonpos (km : Nat) {h : Int} (dry : h ≤ 0) : weirFlow km h = 0 :=
  if_pos dry

theorem weirFlow_of_pos (km : Nat) {h : Int} (wet : 0 < h) :
    weirFlow km h = min 65535 (km * (min h 3000).toNat * wholeSqrt (100 * (min h 3000).toNat) / 316230) :=
  if_neg (Int.not_le.mpr wet)

/-- Settles O52: the model's root is a whole root of the clamped head, and a whole root is unique. -/
theorem weirFlowByTheWholeRoot : Obligations.WeirFlowByTheWholeRoot := by
  intro km h
  have root := isWholeRoot_wholeSqrt (hundredHeads_lt h)
  refine ⟨weirFlow_of_nonpos km, fun _ => ⟨_, root⟩, fun wet s isRoot => ?_⟩
  have same : wholeSqrt (100 * (min h 3000).toNat) = s :=
    (isWholeRoot_iff_eq_sqrt.mp root).trans (isWholeRoot_iff_eq_sqrt.mp isRoot).symm
  rw [weirFlow_of_pos km wet, same]

end Sys2Proof.Machine
end

section
/-! Alarm points and the event queue: what a delivered raw condition leaves in its point and in the others (R148, R149), and what the
queue does with an event that passes the mask (R156, R157). -/

namespace Sys2Proof.Machine

/-! ## A point of the alarm block -/

/-- The point set holds what it was given (R153). -/
@[simp] theorem Alarms.withPoint_point_self (lamp : Word) (i : Fin 25) (p : PointState) (a : Alarms) :
    (a.withPoint lamp i p).points[i] = p :=
  Vector.getElem_set_self i.isLt

/-- Every other point is as before. -/
theorem Alarms.withPoint_point_of_ne (lamp : Word) {i j : Fin 25} (p : PointState) (a : Alarms) (other : j ≠ i) :
    (a.withPoint lamp i p).points[j] = a.points[j] :=
  Vector.getElem_set_ne i.isLt j.isLt (fun same => other (Fin.ext same.symm))

@[simp] theorem Alarms.withPoint_ack (lamp : Word) (i : Fin 25) (p : PointState) (a : Alarms) :
    (a.withPoint lamp i p).ack = a.ack := rfl

/-- The ALARM_CHANGE a new point state may offer leaves the alarm block alone. -/
@[simp] theorem State.setPoint_alarms (i : Fin 25) (p : PointState) (cause : Nat) (s : State) :
    (s.setPoint i p cause).alarms = s.alarms.withPoint s.lampMask i p := by
  obtain ⟨q, moved⟩ := State.setPoint_eq i p cause s
  rw [moved]
  rfl

/-! ## A delivered raw condition (R149) -/

theorem State.deliver_of_held {s : State} {p : AlarmPoint} {raw : Bool} (held : s.rawOf p = raw) : s.deliver p raw = s :=
  if_neg fun change => change.2 held

/-- The alarm block after a raw condition that differs: one point is replaced, and its annunciator state follows the table. -/
theorem State.deliver_alarms_of_change {s : State} {p : AlarmPoint} {raw : Bool} (started : s.started = true)
    (change : s.rawOf p ≠ raw) :
    (s.deliver p raw).alarms =
      s.alarms.withPoint s.lampMask (pointIndex p) { raw := raw, ann := s.alarms.points[pointIndex p].ann.onRaw raw } := by
  rw [State.deliver, if_pos ⟨started, change⟩, State.setPoint_alarms]

/-- Every point but the one delivered, and the acknowledge input, are as before: of every delivery, one without effect too. -/
theorem State.deliver_pointsBut (s : State) (p : AlarmPoint) (raw : Bool) : s.PointsBut (s.deliver p raw) [p] := by
  unfold State.deliver
  split
  case isTrue =>
    rw [State.PointsBut, State.setPoint_alarms]
    exact ⟨fun i others => Alarms.withPoint_point_of_ne _ _ _ (by simpa using others), rfl⟩
  case isFalse => exact ⟨fun _ _ => rfl, rfl⟩

/-- From the end of LOADING the point holds the raw condition delivered, whether it held it before or not. -/
theorem State.deliver_delivers {s : State} (p : AlarmPoint) (raw : Bool) (started : s.started = true) :
    s.Delivers (s.deliver p raw) p raw := by
  refine ⟨?_, State.deliver_pointsBut s p raw⟩
  by_cases held : s.rawOf p = raw
  case pos => rw [State.deliver_of_held held, held]
  case neg => rw [State.rawOf, State.deliver_alarms_of_change started held, Alarms.withPoint_point_self]

/-- A raw condition that differs takes its point's annunciator state one row of R149's table on. -/
theorem State.deliver_ann_of_change {s : State} {p : AlarmPoint} {raw : Bool} (started : s.started = true)
    (change : s.rawOf p ≠ raw) :
    (s.deliver p raw).alarms.points[pointIndex p].ann = s.alarms.points[pointIndex p].ann.onRaw raw := by
  rw [State.deliver_alarms_of_change started change, Alarms.withPoint_point_self]

/-- Settles O50: the point takes the raw condition and the state `onRaw` gives it, whose four rows that move are R149's. -/
theorem annunciatorFollowsRawChanges : Obligations.AnnunciatorFollowsRawChanges := by
  intro s p raw started
  refine ⟨State.deliver_of_held, fun change => ?_⟩
  have moves := State.deliver_ann_of_change started change
  refine ⟨State.deliver_delivers p raw started, ?_, ?_, ?_, ?_⟩
  · intro rise normal
    rw [moves, rise, normal, Annunciator.onRaw]
  · intro rise returned
    rw [moves, rise, returned, Annunciator.onRaw]
  · intro fall alert
    rw [moves, fall, alert, Annunciator.onRaw]
  · intro fall standing
    rw [moves, fall, standing, Annunciator.onRaw]

/-! ## An event that passes the mask (R157) -/

section TakeIn

variable {q : EventQueue} (own : Station) (r : EventRecord)

theorem EventQueue.takeIn_of_full (full : 64 ≤ q.records.length) :
    q.takeIn own r = { q with overflow := satInc16 q.overflow } :=
  if_pos full

theorem EventQueue.takeIn_of_none_lost (room : q.records.length ≤ 63) (nothingLost : q.overflow = 0) : q.takeIn own r = q.push r := by
  rw [EventQueue.takeIn, if_neg (by omega), if_pos nothingLost]

theorem EventQueue.takeIn_of_one_place (one : q.records.length = 63) (lost : 0 < q.overflow) :
    q.takeIn own r = q.pushOverflow { seconds := r.time, sync := r.sync } own (satInc16 q.overflow) := by
  rw [EventQueue.takeIn, if_neg (by omega), if_neg (by omega), if_pos one]

theorem EventQueue.takeIn_of_two_places (two : q.records.length ≤ 62) (lost : 0 < q.overflow) :
    q.takeIn own r = (q.pushOverflow { seconds := r.time, sync := r.sync } own q.overflow).push r := by
  rw [EventQueue.takeIn, if_neg (by omega), if_neg (by omega), if_neg (by omega)]

end TakeIn

/-- Two records taken in one after the other join the tail in that order, with consecutive numbers (R156). -/
theorem EventQueue.push_push (first second : EventRecord) (q : EventQueue) :
    (q.push first).push second =
      { q with
        records := q.records ++ [{ first with sequence := q.counter }, { second with sequence := q.counter + 1 }]
        counter := q.counter + 1 + 1 } := by
  simp only [EventQueue.push, List.append_assoc, List.cons_append, List.nil_append]

/-- Settles O51: one clause for each branch of the queue, by the room left and the overflow count. -/
theorem overflowKeepsTheLastPlace : Obligations.OverflowKeepsTheLastPlace := by
  intro own r q lost
  refine ⟨?full, ?noneLost, ?onePlace, ?twoPlaces⟩
  case full => exact EventQueue.takeIn_of_full own r
  case noneLost => exact EventQueue.takeIn_of_none_lost own r
  case onePlace => exact EventQueue.takeIn_of_one_place own r
  case twoPlaces =>
    intro two held
    rw [EventQueue.takeIn_of_two_places own r two held, EventQueue.pushOverflow, EventQueue.push_push]

end Sys2Proof.Machine
end

section
/-! What every command keeps of the forms of the blocks: the relays and the summary, the event queue, the spill list, the window view, the
transmit queue, the own entry, the rake outputs and the averaging windows. One relation says all of it, so that each operation of the model
is looked at once (R75, R143, R151, R152, R156, sections 1.1, 5.1, 6.1, 7.4). -/

namespace Sys2Proof.Machine

/-- What an operation inside one start state keeps: the start-up unit, the pins and the waiting commands stay, nothing begins to be sent, and
each form the blocks had before they have after. -/
structure State.Orderly (s t : State) : Prop where
  start : t.start = s.start
  pins : t.pins = s.pins
  pending : t.pending = s.pending
  sending : s.link.sending = none → t.link.sending = none
  relays : s.RelaysFollow → t.RelaysFollow
  numbered : s.QueueNumbered → t.QueueNumbered
  spills : s.spill.ListKept → t.spill.ListKept
  view : s.ViewOwnsClaim → t.ViewOwnsClaim
  classes : s.QueueInClassOrder → t.QueueInClassOrder
  ownEntry : s.OwnEntryEmpty → t.OwnEntryEmpty
  outputs : s.RakeOutputsFollow → t.RakeOutputsFollow
  windows : s.chanW.WindowWhole ∧ s.chanX.WindowWhole → t.chanW.WindowWhole ∧ t.chanX.WindowWhole

namespace State.Orderly

variable {s t u : State}

theorem refl (s : State) : s.Orderly s :=
  ⟨rfl, rfl, rfl, id, id, id, id, id, id, id, id, id⟩

theorem trans (h : s.Orderly t) (k : t.Orderly u) : s.Orderly u where
  start := k.start.trans h.start
  pins := k.pins.trans h.pins
  pending := k.pending.trans h.pending
  sending := k.sending ∘ h.sending
  relays := k.relays ∘ h.relays
  numbered := k.numbered ∘ h.numbered
  spills := k.spills ∘ h.spills
  view := k.view ∘ h.view
  classes := k.classes ∘ h.classes
  ownEntry := k.ownEntry ∘ h.ownEntry
  outputs := k.outputs ∘ h.outputs
  windows := k.windows ∘ h.windows

/-- An operation that acts in one case alone. -/
theorem ite {p : Prop} [Decidable p] (h : p → s.Orderly t) (k : ¬ p → s.Orderly u) : s.Orderly (if p then t else u) := by
  split
  case isTrue hp => exact h hp
  case isFalse hp => exact k hp

end State.Orderly

/-! ## Updates of one block -/

namespace State

theorem withClock_orderly (c : Clock) (s : State) : s.Orderly (s.withClock c) :=
  ⟨rfl, rfl, rfl, id, id, id, id, id, id, id, id, id⟩

theorem withBalance_orderly (b : Balance) (s : State) : s.Orderly (s.withBalance b) :=
  ⟨rfl, rfl, rfl, id, id, id, id, id, id, id, id, id⟩

theorem withFloats_orderly (f : Floats) (s : State) : s.Orderly (s.withFloats f) :=
  ⟨rfl, rfl, rfl, id, id, id, id, id, id, id, id, id⟩

theorem withPump_orderly (p : Pump) (s : State) : s.Orderly (s.withPump p) :=
  ⟨rfl, rfl, rfl, id, id, id, id, id, id, id, id, id⟩

theorem withTown_orderly (t : Town) (s : State) : s.Orderly (s.withTown t) :=
  ⟨rfl, rfl, rfl, id, id, id, id, id, id, id, id, id⟩

/-- The acknowledge input's filter is no part of the relays. -/
theorem withAck_orderly (f : Filter) (s : State) : s.Orderly (s.withAlarms { s.alarms with ack := f }) :=
  ⟨rfl, rfl, rfl, id, id, id, id, id, id, id, id, id⟩

theorem withChan_orderly (ch : ChannelId) {c : Channel} {s : State} (whole : (s.chan ch).WindowWhole → c.WindowWhole) :
    s.Orderly (s.withChan ch c) := by
  cases ch with
  | w => exact ⟨rfl, rfl, rfl, id, id, id, id, id, id, id, id, fun h => ⟨whole h.1, h.2⟩⟩
  | x => exact ⟨rfl, rfl, rfl, id, id, id, id, id, id, id, id, fun h => ⟨h.1, whole h.2⟩⟩

/-- The port changes, its queue in class order and nothing new on the line. -/
theorem withLink_orderly {l : Link} {s : State} (idle : s.link.sending = none → l.sending = none)
    (ordered : s.QueueInClassOrder → (l.queue.map (fun e => e.body.cls)).Pairwise (· < ·)) : s.Orderly (s.withLink l) :=
  ⟨rfl, rfl, rfl, idle, id, id, id, id, ordered, id, id, id⟩

/-- The port changes outside its queue and the line. -/
theorem withLink_orderly_of_same {l : Link} {s : State} (sending : l.sending = s.link.sending := by rfl)
    (queue : l.queue = s.link.queue := by rfl) :
    s.Orderly (s.withLink l) :=
  withLink_orderly (fun h => sending.trans h) (fun h => by rw [queue]; exact h)

theorem withWindow_orderly {w : Window} {s : State} (owns : s.ViewOwnsClaim → (w.view = .own ↔ w.claim ≠ .none)) :
    s.Orderly (s.withWindow w) :=
  ⟨rfl, rfl, rfl, id, id, id, id, owns, id, id, id, id⟩

/-- The start window changes outside its view and its claim. -/
theorem withWindow_orderly_of_same {w : Window} {s : State} (view : w.view = s.window.view := by rfl)
    (claim : w.claim = s.window.claim := by rfl) :
    s.Orderly (s.withWindow w) :=
  withWindow_orderly fun h => by rw [view, claim]; exact h

theorem withScreen_orderly {u : Screen} {s : State}
    (outputs : s.RakeOutputsFollow → u.forwardOut = (u.rake == .forward) ∧ u.reverseOut = (u.rake == .clearing)) :
    s.Orderly (s.withScreen u) :=
  ⟨rfl, rfl, rfl, id, id, id, id, id, id, id, outputs, id⟩

/-- The screen unit changes outside the rake and its outputs. -/
theorem withScreen_orderly_of_same {u : Screen} {s : State} (rake : u.rake = s.screen.rake := by rfl)
    (forward : u.forwardOut = s.screen.forwardOut := by rfl) (reverse : u.reverseOut = s.screen.reverseOut := by rfl) : s.Orderly (s.withScreen u) :=
  withScreen_orderly fun h => by rw [rake, forward, reverse]; exact h

theorem withSpill_orderly {m : SpillMonitor} {s : State} (kept : s.spill.ListKept → m.ListKept) : s.Orderly (s.withSpill m) :=
  ⟨rfl, rfl, rfl, id, id, id, kept, id, id, id, id, id⟩

theorem withEvents_orderly {q : EventQueue} {s : State}
    (numbered : s.QueueNumbered → q.records.length ≤ 64 ∧ numberedTo q.counter q.records = true) : s.Orderly (s.withEvents q) :=
  ⟨rfl, rfl, rfl, id, id, numbered, id, id, id, id, id, id⟩

/-- The table changes, and the entries that had to be EMPTY are. -/
theorem withTable_orderly {v : PeerTable} {s : State} (empty : s.OwnEntryEmpty → (s.withTable v).OwnEntryEmpty) :
    s.Orderly (s.withTable v) :=
  ⟨rfl, rfl, rfl, id, id, id, id, id, id, empty, id, id⟩

/-- The table changes outside its entries. -/
theorem withTable_orderly_of_same {v : PeerTable} {s : State} (entries : v.entries = s.table.entries := by rfl) :
    s.Orderly (s.withTable v) :=
  withTable_orderly fun h => by
    have same : ∀ p : Station, v.entry p = s.table.entry p := fun p => by rw [PeerTable.entry, entries, PeerTable.entry]
    exact ⟨(congrArg PeerEntry.state (same _)).trans h.1, fun l p => (congrArg PeerEntry.state (same p)).trans (h.2 l p)⟩

end State

/-! ## The event queue (R156) -/

/-- A record that takes the counter's value continues the numbers. -/
theorem numberedTo_append (r : EventRecord) {counter : Half} {records : List EventRecord} (h : numberedTo counter records = true) :
    numberedTo (counter + 1) (records ++ [{ r with sequence := counter }]) = true := by
  induction records with
  | nil => simp [numberedTo]
  | cons a rest ih =>
    cases rest with
    | nil => simpa [numberedTo] using h
    | cons b rest =>
      simp only [numberedTo, Bool.and_eq_true] at h
      simp only [List.cons_append, numberedTo, Bool.and_eq_true]
      exact ⟨h.1, ih h.2⟩

/-- Without its oldest record the queue is still numbered. -/
theorem numberedTo_tail {counter : Half} {records : List EventRecord} (h : numberedTo counter records = true) :
    numberedTo counter (records.drop 1) = true := by
  cases records with
  | nil => rfl
  | cons a rest =>
    cases rest with
    | nil => rfl
    | cons b rest => simp only [numberedTo, Bool.and_eq_true] at h; exact h.2

/-- Records taken in are numbered on, and the queue holds at most 64 (R156, R157). -/
theorem EventQueue.takeIn_numbered (own : Station) (r : EventRecord) {q : EventQueue} (few : q.records.length ≤ 64)
    (numbered : numberedTo q.counter q.records = true) :
    (q.takeIn own r).records.length ≤ 64 ∧ numberedTo (q.takeIn own r).counter (q.takeIn own r).records = true := by
  by_cases full : 64 ≤ q.records.length
  · rw [EventQueue.takeIn_of_full own r full]; exact ⟨few, numbered⟩
  · by_cases lost : q.overflow = 0
    · rw [EventQueue.takeIn_of_none_lost own r (by omega) lost]
      exact ⟨by simp [EventQueue.push]; omega, numberedTo_append r numbered⟩
    · by_cases one : q.records.length = 63
      · rw [EventQueue.takeIn_of_one_place own r one (by omega)]
        exact ⟨by simp [EventQueue.pushOverflow, EventQueue.push, one], numberedTo_append _ numbered⟩
      · rw [EventQueue.takeIn_of_two_places own r (by omega) (by omega)]
        exact ⟨by simp [EventQueue.pushOverflow, EventQueue.push]; omega, numberedTo_append r (numberedTo_append _ numbered)⟩

namespace State

theorem offerFrom_orderly (source : Station) (kind : EventKind) (subject : Nat) (values : List Word) (s : State) :
    s.Orderly (s.offerFrom source kind subject values) :=
  .ite (fun _ => withEvents_orderly fun h => EventQueue.takeIn_numbered _ _ h.1 h.2) (fun _ => .refl s)

theorem offer_orderly (kind : EventKind) (subject : Nat) (values : List Word) (s : State) : s.Orderly (s.offer kind subject values) :=
  offerFrom_orderly ..

end State

/-! ## The relays and the summary (R151, R152) -/

/-- A bit of a flag byte is the flag. -/
theorem flagByte_getLsbD (f : Nat → Bool) (g : Fin 8) : (flagByte f).getLsbD g.val = f g.val := by
  have bits : ∀ (b0 b1 b2 b3 b4 b5 b6 b7 : Bool) (g : Fin 8),
      (BitVec.ofNat 8 (flagBit b0 0 + flagBit b1 1 + flagBit b2 2 + flagBit b3 3 + flagBit b4 4 + flagBit b5 5 + flagBit b6 6
        + flagBit b7 7)).getLsbD g.val = [b0, b1, b2, b3, b4, b5, b6, b7][g.val] := by decide
  rw [flagByte, bits]
  fin_cases g <;> rfl

namespace State

/-- Refreshed relays are those of the points. -/
theorem refresh_relaysFollow (a : Alarms) (s : State) : (s.withAlarms (a.refresh s.lampMask)).RelaysFollow :=
  ⟨rfl, rfl, fun g => flagByte_getLsbD _ g⟩

theorem setPoint_orderly (i : Fin 25) (p : PointState) (cause : Nat) (s : State) : s.Orderly (s.setPoint i p cause) := by
  have moved : s.Orderly (s.withAlarms (s.alarms.withPoint s.lampMask i p)) :=
    ⟨rfl, rfl, rfl, id, fun _ => refresh_relaysFollow _ s, id, id, id, id, id, id, id⟩
  exact .ite (fun _ => moved) (fun _ => moved.trans (offer_orderly ..))

theorem deliver_orderly (p : AlarmPoint) (raw : Bool) (s : State) : s.Orderly (s.deliver p raw) :=
  .ite (fun _ => setPoint_orderly ..) (fun _ => .refl s)

theorem ackPoint_orderly (cause : Nat) (s : State) (i : Fin 25) : s.Orderly (s.ackPoint cause i) :=
  .ite (fun _ => .refl s) (fun _ => setPoint_orderly ..)

theorem ackAll_orderly (cause : Nat) (s : State) : s.Orderly (s.ackAll cause) := by
  have all : ∀ (is : List (Fin 25)) (s : State), s.Orderly (is.foldl (ackPoint cause) s) := fun is => by
    induction is with
    | nil => exact fun s => .refl s
    | cons i is ih => exact fun s => (ackPoint_orderly cause s i).trans (ih _)
  exact all _ s

end State

/-! ## The transmit queue (R75, R76) -/

/-- A frame enters at its class's place, so the queue stays in class order, and no class is new but the frame's own. -/
theorem upsert_classes (b : TxBody) (queue : List TxEntry) :
    ((queue.map (fun e => e.body.cls)).Pairwise (· < ·) → ((upsert b queue).map (fun e => e.body.cls)).Pairwise (· < ·)) ∧
      ∀ c ∈ (upsert b queue).map (fun e => e.body.cls), c = b.cls ∨ c ∈ queue.map (fun e => e.body.cls) := by
  induction queue with
  | nil => simp [upsert]
  | cons e rest ih =>
    obtain ⟨sorted, from_⟩ := ih
    unfold upsert
    split
    case isTrue same => exact ⟨fun h => by simpa [← same] using h, fun c hc => by simpa [← same] using hc⟩
    case isFalse other =>
      split
      case isTrue before =>
        refine ⟨fun h => ?_, fun c hc => by simpa using hc⟩
        simp only [List.map_cons, List.pairwise_cons] at h ⊢
        refine ⟨fun c hc => ?_, h⟩
        rcases List.mem_cons.mp hc with rfl | hc
        · exact before
        · exact before.trans (h.1 c hc)
      case isFalse after =>
        simp only [List.map_cons, List.pairwise_cons, List.mem_cons]
        refine ⟨fun h => ⟨fun c hc => ?_, sorted h.2⟩, fun c hc => ?_⟩
        · rcases from_ c hc with rfl | hc
          · omega
          · exact h.1 c hc
        · rcases hc with rfl | hc
          · exact .inr (.inl rfl)
          · exact (from_ c hc).imp_right .inr

theorem upsert_classOrder (b : TxBody) {queue : List TxEntry} (h : (queue.map (fun e => e.body.cls)).Pairwise (· < ·)) :
    ((upsert b queue).map (fun e => e.body.cls)).Pairwise (· < ·) :=
  (upsert_classes b queue).1 h

/-- Entries that leave the queue leave the others in order. -/
theorem filter_classOrder (p : TxEntry → Bool) {queue : List TxEntry} (h : (queue.map (fun e => e.body.cls)).Pairwise (· < ·)) :
    ((queue.filter p).map (fun e => e.body.cls)).Pairwise (· < ·) :=
  h.sublist ((List.filter_sublist).map _)

/-- A change of the entries that leaves each its frame leaves the order. -/
theorem map_classOrder {f : TxEntry → TxEntry} (same : ∀ e, (f e).body = e.body) {queue : List TxEntry}
    (h : (queue.map (fun e => e.body.cls)).Pairwise (· < ·)) : ((queue.map f).map (fun e => e.body.cls)).Pairwise (· < ·) := by
  have classes : (queue.map f).map (fun e => e.body.cls) = queue.map (fun e => e.body.cls) := by simp [same]
  rw [classes]
  exact h

@[simp] theorem Link.offer_sending (b : TxBody) (l : Link) : (l.offer b).sending = l.sending := by
  unfold Link.offer
  split
  · rfl
  · split
    · split <;> rfl
    · rfl

theorem Link.offer_classOrder (b : TxBody) {l : Link} (h : (l.queue.map (fun e => e.body.cls)).Pairwise (· < ·)) :
    ((l.offer b).queue.map (fun e => e.body.cls)).Pairwise (· < ·) := by
  unfold Link.offer
  split
  · exact h
  · split
    · split
      · exact h
      · exact upsert_classOrder _ h
    · exact upsert_classOrder _ h

@[simp] theorem Link.drop_sending (cls : Nat) (l : Link) : (l.drop cls).sending = l.sending := rfl

theorem Link.drop_classOrder (cls : Nat) {l : Link} (h : (l.queue.map (fun e => e.body.cls)).Pairwise (· < ·)) :
    ((l.drop cls).queue.map (fun e => e.body.cls)).Pairwise (· < ·) :=
  filter_classOrder _ h

@[simp] theorem Link.withdrawClaim_sending (l : Link) : l.withdrawClaim.sending = l.sending := by
  unfold Link.withdrawClaim; split <;> rfl

theorem Link.withdrawClaim_classOrder {l : Link} (h : (l.queue.map (fun e => e.body.cls)).Pairwise (· < ·)) :
    (l.withdrawClaim.queue.map (fun e => e.body.cls)).Pairwise (· < ·) := by
  unfold Link.withdrawClaim
  split
  · exact h
  · exact Link.drop_classOrder 1 h

namespace State

theorem offerFrame_orderly (b : TxBody) (s : State) : s.Orderly (s.offerFrame b) :=
  withLink_orderly (fun h => by simpa using h) (fun h => Link.offer_classOrder b h)

theorem queueReport_orderly (s : State) : s.Orderly s.queueReport :=
  .ite (fun _ => withLink_orderly (fun h => by simpa using h) (fun h => Link.offer_classOrder _ h)) (fun _ => .refl s)

end State

end Sys2Proof.Machine
end

section
/-! What the sequencer's transitions keep of the forms of the blocks (R46, R50 to R65, R105, R106, R117). -/

namespace Sys2Proof.Machine

namespace State

/-! ## The claim -/

theorem endClaim_orderly (s : State) : s.Orderly s.endClaim :=
  withWindow_orderly fun _ => by simp

theorem closeClaim_orderly (outcome : ClaimOutcome) (s : State) : s.Orderly (s.closeClaim outcome) := by
  unfold closeClaim
  split
  · exact .refl s
  · exact .ite (fun _ => withLink_orderly_of_same)
      (fun _ => s.endClaim_orderly.trans
        (withLink_orderly (fun h => by simpa using h) fun h => Link.withdrawClaim_classOrder h))
  · exact s.endClaim_orderly.trans (offerFrame_orderly ..)
  · exact s.endClaim_orderly.trans (offerFrame_orderly ..)

theorem closeOwnClaim_orderly (outcome : ClaimOutcome) (s : State) : s.Orderly (s.closeOwnClaim outcome) :=
  .ite (fun _ => closeClaim_orderly ..) (fun _ => .refl s)

/-! ## The transitions -/

theorem withCounts_orderly (s : State) : s.Orderly s.withCounts :=
  .ite (fun _ => (withTable_orderly_of_same).trans (withBalance_orderly ..)) (fun _ => .refl s)

theorem withDemand_orderly (s : State) : s.Orderly s.withDemand :=
  .ite (fun _ => withBalance_orderly ..) (fun _ => .refl s)

theorem evalRisk_orderly (s : State) : s.Orderly s.evalRisk := deliver_orderly ..

theorem enter_orderly (st : PumpState) (s : State) : s.Orderly (s.enter st) := by
  unfold enter
  exact ((((withPump_orderly _ s).trans (withWindow_orderly_of_same)).trans (queueReport_orderly _)).trans
    (withCounts_orderly _)).trans (evalRisk_orderly _)

theorem trip_orderly (cause : TripCause) (s : State) : s.Orderly (s.trip cause) := by
  have shown (l : State) : l.Orderly (if cause = .pumpFault then l else l.deliver (tripPoint cause) true) :=
    .ite (fun _ => .refl l) (fun _ => deliver_orderly ..)
  exact ((((withPump_orderly _ s).trans (shown _)).trans (closeOwnClaim_orderly ..)).trans (enter_orderly ..)).trans (offer_orderly ..)

theorem enterRest_orderly (st : PumpState) (s : State) : s.Orderly (s.enterRest st) :=
  (enter_orderly st s).trans (.ite (fun _ => trip_orderly ..) (fun _ => .refl _))

theorem completeStop_orderly (s : State) : s.Orderly s.completeStop :=
  .ite (fun _ => enterRest_orderly ..) (fun _ => enterRest_orderly ..)

theorem offerStopped_orderly (cause : StopCause) (s : State) : s.Orderly (s.offerStopped cause) := offer_orderly ..

theorem stopPump_orderly (cause : StopCause) (s : State) : s.Orderly (s.stopPump cause) := by
  unfold stopPump
  exact (((closeOwnClaim_orderly .withdrawn s).trans (enter_orderly ..)).trans (offerStopped_orderly cause _)).trans
    (.ite (fun _ => .refl _) (fun _ => completeStop_orderly _))

theorem enterStarting_orderly (viaClaim : Bool) (s : State) : s.Orderly (s.enterStarting viaClaim) := by
  unfold enterStarting
  exact (withWindow_orderly_of_same).trans (enter_orderly ..)

theorem openClaim_orderly (s : State) : s.Orderly s.openClaim := by
  have opened (w : Window) (view : w.view = .own) (claim : w.claim = .pending) : s.Orderly (s.withWindow w) :=
    withWindow_orderly fun _ => by simp [view, claim]
  exact ((opened _ (by rfl) (by rfl)).trans (offerFrame_orderly ..)).trans (enter_orderly ..)

theorem evalClaim_orderly (s : State) : s.Orderly s.evalClaim :=
  .ite (fun _ => openClaim_orderly s) (fun _ => .refl s)

theorem beginStagger_orderly (s : State) : s.Orderly s.beginStagger :=
  .ite (fun _ => enterStarting_orderly ..) (fun _ => withPump_orderly ..)

theorem enterWaiting_orderly (s : State) : s.Orderly s.enterWaiting :=
  (enter_orderly .waiting s).trans
    (.ite (fun _ => .ite (fun _ => beginStagger_orderly _) (fun _ => evalClaim_orderly _)) (fun _ => enter_orderly ..))

theorem enterIdle_orderly (s : State) : s.Orderly s.enterIdle :=
  (enter_orderly .idle s).trans (.ite (fun _ => enterWaiting_orderly _) (fun _ => .refl _))

theorem endLockout_orderly (s : State) : s.Orderly s.endLockout :=
  .ite (fun _ => enterIdle_orderly s) (fun _ => .refl s)

theorem checkLockout_orderly (s : State) : s.Orderly s.checkLockout :=
  .ite (fun _ => enterIdle_orderly s) (fun _ => .refl s)

theorem immediateStop_orderly (s : State) : s.Orderly s.immediateStop :=
  .ite (fun _ => .ite (fun _ => stopPump_orderly ..) (fun _ => .ite (fun _ => stopPump_orderly ..) (fun _ => .refl s))) (fun _ => .refl s)

theorem dutyStop_orderly (s : State) : s.Orderly s.dutyStop :=
  .ite (fun _ => stopPump_orderly ..) (fun _ => .refl s)

theorem onDemand_orderly (s : State) : s.Orderly s.onDemand := by
  unfold onDemand
  split
  · exact .ite (fun _ => enterWaiting_orderly s) (fun _ => .refl s)
  · exact .ite (fun _ => .refl s) (fun _ => enter_orderly ..)
  · exact (immediateStop_orderly s).trans (dutyStop_orderly _)
  · exact .refl s

theorem handOn_orderly (before after : State) : after.Orderly (before.handOn after) :=
  (State.Orderly.ite (fun _ => onDemand_orderly after) (fun _ => .refl after)).trans (evalRisk_orderly _)

theorem recount_orderly (s : State) : s.Orderly s.recount := (withCounts_orderly s).trans (handOn_orderly ..)

theorem redemand_orderly (s : State) : s.Orderly s.redemand :=
  ((withDemand_orderly s).trans (withCounts_orderly _)).trans (handOn_orderly ..)

theorem onIsolation_orderly (s : State) : s.Orderly s.onIsolation := by
  unfold onIsolation
  split
  · split
    · exact .ite (fun _ => beginStagger_orderly s) (fun _ => enter_orderly ..)
    · exact (closeOwnClaim_orderly .withdrawn s).trans (enterIdle_orderly _)
    · exact .refl s
  · split
    · exact (withPump_orderly _ s).trans (.ite (fun _ => evalClaim_orderly _) (fun _ => enter_orderly ..))
    · exact .refl s

theorem setIsolated_orderly (flag : Bool) (cause : IsolationCause) (s : State) : s.Orderly (s.setIsolated flag cause) := by
  have marked : s.Orderly (s.withTable { s.table with isolated := flag, cause := cause }) := withTable_orderly_of_same
  exact .ite (fun _ => marked)
    (fun _ => ((marked.trans (recount_orderly _)).trans (onIsolation_orderly _)).trans (deliver_orderly ..))

/-! ## The trip latch, the inhibit flag and the selector -/

theorem clearLatch_orderly (s : State) : s.Orderly s.clearLatch := by
  unfold clearLatch
  split
  · exact .refl s
  · exact (withPump_orderly _ s).trans (.ite (fun _ => .refl _) (fun _ => deliver_orderly ..))

theorem resetTrip_orderly (s : State) : s.Orderly s.resetTrip :=
  .ite (fun _ => (clearLatch_orderly s).trans (.ite (fun _ => completeStop_orderly _) (fun _ => .refl _))) (fun _ => .refl s)

theorem inhibitPump_orderly (s : State) : s.Orderly s.inhibitPump := by
  unfold inhibitPump
  refine .ite (fun _ => .refl s) (fun _ => ?_)
  have flagged : s.Orderly (s.withPump { s.pump with inhibit := true }) := withPump_orderly _ s
  refine flagged.trans ?_
  dsimp only
  split
  · exact enterRest_orderly ..
  · exact enterRest_orderly ..
  · exact enterRest_orderly ..
  · exact (closeOwnClaim_orderly ..).trans (enterRest_orderly ..)
  · exact stopPump_orderly ..
  · exact stopPump_orderly ..
  · exact .refl _

theorem releasePump_orderly (s : State) : s.Orderly s.releasePump :=
  .ite (fun _ => (withPump_orderly _ s).trans (.ite (fun _ => enterRest_orderly ..) (fun _ => .refl _))) (fun _ => .refl s)

theorem leaveAuto_orderly (st : PumpState) (s : State) : s.Orderly (s.leaveAuto st) :=
  ((closeOwnClaim_orderly .withdrawn s).trans (enter_orderly ..)).trans
    (.ite (fun _ => offerStopped_orderly ..) (fun _ => .refl _))

theorem enterAuto_orderly (old : Position) (s : State) : s.Orderly (s.enterAuto old) :=
  (State.Orderly.ite (fun _ => clearLatch_orderly s) (fun _ => .refl s)).trans
    (.ite (fun _ => enter_orderly ..) (fun _ => .ite (fun _ => trip_orderly ..)
      (fun _ => .ite (fun _ => enterRest_orderly ..) (fun _ => enterRest_orderly ..))))

theorem setPosition_orderly (pos : Position) (s : State) : s.Orderly (s.setPosition pos) := by
  refine .ite (fun _ => .refl s) (fun _ => (withPump_orderly _ s).trans (.ite (fun _ => ?_) (fun _ => .refl _)))
  split
  · exact leaveAuto_orderly ..
  · exact leaveAuto_orderly ..
  · exact enter_orderly ..
  · exact enter_orderly ..
  · exact enterAuto_orderly ..
  · exact .refl _

theorem takeOff_orderly (s : State) : s.Orderly s.takeOff :=
  ((withPump_orderly _ s).trans (deliver_orderly ..)).trans (setPosition_orderly ..)

theorem settleOff_orderly (s : State) : s.Orderly s.settleOff :=
  .ite (fun _ => takeOff_orderly s) (fun _ => .refl s)

end State

end Sys2Proof.Machine
end

section
/-! What the blocks' own operations keep of the forms of the blocks: the balance unit, the inputs, the level channels, the screen unit, the
spill monitor and the clock (chapters 1, 2, 7, 8, 11). -/

namespace Sys2Proof.Machine

/-! ## The averaging window (R6 to R9, R12) -/

namespace Channel

theorem takeValid_whole (g : ChannelSettings) (level : Int) (q : SampleQuality) {c : Channel} (whole : c.WindowWhole) :
    (c.takeValid g level q).WindowWhole := by
  unfold takeValid
  split
  case isTrue => exact .inr (by simp [fill])
  case isFalse filled =>
    have eight : c.samples.length = 8 := whole.resolve_left filled
    split
    · split
      · exact whole
      · exact .inr (by simp [fill])
    · exact .inr (by simp [join, eight])

theorem recover_whole {c : Channel} (whole : c.WindowWhole) : c.recover.WindowWhole := by
  unfold recover
  split
  · exact whole
  · exact .inl rfl

theorem faultSample_samples (g : ChannelSettings) (c : Channel) : (c.faultSample g).samples = c.samples := by
  unfold faultSample
  split
  · split <;> rfl
  · rfl

theorem classified_whole (g : ChannelSettings) (conversion : Int) {c : Channel} (whole : c.WindowWhole) :
    (c.classified g conversion).WindowWhole := by
  unfold classified
  split
  · rw [WindowWhole, faultSample_samples]; exact whole
  · exact takeValid_whole _ _ _ (recover_whole whole)

theorem settle_samples (g : ChannelSettings) (c : Channel) : (c.settle g).samples = c.samples := by
  unfold settle; split <;> rfl

theorem checkEvent_samples (g : ChannelSettings) (conversion : Int) (c : Channel) : (c.checkEvent g conversion).samples = c.samples := by
  unfold checkEvent; split <;> rfl

/-- A sample event leaves the window empty or with eight levels, by the channel's phase (R1). -/
theorem sample_whole (g : ChannelSettings) (conversion : Int) {c : Channel} (whole : c.WindowWhole) :
    (c.sample g conversion).WindowWhole := by
  unfold sample
  split
  · exact whole
  · rw [WindowWhole, settle_samples]; exact whole
  · split
    · exact whole
    · exact classified_whole g conversion whole
  · rw [WindowWhole, checkEvent_samples]; exact whole

theorem offer_whole {c : Channel} (whole : c.WindowWhole) : c.offer.WindowWhole := whole

end Channel

/-! ## The spill list (R137 to R143) -/

namespace SpillMonitor

/-- The list of a monitor with a record whose state says whether it is open. -/
theorem list_of_working {m : SpillMonitor} {r : SpillRecord} (working : m.working = some r) :
    m.list = m.closed ++ (if r.isOpen then [r] else []) := by
  rw [list, working]

theorem list_of_none {m : SpillMonitor} (working : m.working = none) : m.list = m.closed := by
  rw [list, working, List.append_nil]

/-- The list, the closed records, the number and the fit of the working record are all that the list's order reads. -/
theorem listKept_congr {m n : SpillMonitor} (numbers : n.list.map SpillRecord.number = m.list.map SpillRecord.number)
    (closed : n.closed = m.closed) (number : n.number = m.number) (fits : n.recordFits = m.recordFits) (kept : m.ListKept) :
    n.ListKept := by
  obtain ⟨few, ascending, below, allClosed, fit⟩ := kept
  have bounds : ∀ k ∈ n.list.map SpillRecord.number, k ≤ n.number := by
    rw [numbers, number]
    exact fun k hk => by obtain ⟨r, hr, rfl⟩ := List.mem_map.mp hk; exact below r hr
  refine ⟨?_, numbers ▸ ascending, fun r hr => bounds _ (List.mem_map_of_mem hr), closed ▸ allClosed, fits ▸ fit⟩
  have sizes := congrArg List.length numbers
  simp only [List.length_map] at sizes
  omega

/-- A working record with its number and its openness as before. -/
theorem listKept_of_record {m n : SpillMonitor} {r r' : SpillRecord} (working : m.working = some r) (working' : n.working = some r')
    (record : r'.number = r.number ∧ r'.isOpen = r.isOpen) (closed : n.closed = m.closed) (number : n.number = m.number)
    (state : n.state = m.state) (kept : m.ListKept) : n.ListKept := by
  obtain ⟨sameNumber, sameOpen⟩ := record
  refine listKept_congr ?_ closed number ?_ kept
  · rw [list_of_working working, list_of_working working', closed, sameOpen]
    split <;> simp [sameNumber]
  · cases before : m.state <;> simp [recordFits, state, before, working, working', sameNumber, sameOpen, number]

theorem account_listKept (g : Settings) (opening : Bool) {m : SpillMonitor} (kept : m.ListKept) : (m.account g opening).ListKept := by
  unfold account
  split
  case h_1 => exact kept
  case h_2 r working =>
    refine listKept_of_record (m := m) working rfl ?_ rfl rfl rfl kept
    cases head : m.head <;> exact ⟨by simp [SpillRecord.account], by simp [SpillRecord.account]⟩

/-- The record enters the list with the next number and the list has room for it (R138, R143). -/
theorem confirm_listKept {m : SpillMonitor} {r : SpillRecord} (working : m.working = some r) (state : m.state = .confirming)
    (kept : m.ListKept) : (m.confirm r).ListKept := by
  obtain ⟨few, ascending, below, allClosed, fit⟩ := kept
  have shut : r.isOpen = false := by simpa [recordFits, state, working] using fit
  have list_eq : m.list = m.closed := by simp [list_of_working working, shut]
  rw [list_eq] at few ascending below
  by_cases wrap : m.number = 65535
  · simp [ListKept, list, confirm, wrap, makeRoom, recordFits]
  · have sub : (makeRoom m.closed).Sublist m.closed := by
      unfold makeRoom; split
      · exact List.drop_sublist 1 _
      · exact .refl _
    have room : (makeRoom m.closed).length ≤ 15 := by
      unfold makeRoom; split
      · rw [List.length_drop]; omega
      · omega
    have up : ∀ a ∈ makeRoom m.closed, a.number < m.number + 1 := fun a ha => Nat.lt_succ_of_le (below a (sub.subset ha))
    simp only [ListKept, list, confirm, wrap, if_false, if_true, recordFits, beq_self_eq_true, Bool.and_self]
    refine ⟨by rw [List.length_append]; exact Nat.succ_le_succ room, ?_, ?_, fun a ha => allClosed a (sub.subset ha), trivial⟩
    · rw [List.map_append, List.pairwise_append]
      refine ⟨ascending.sublist (sub.map _), List.pairwise_singleton _ _, ?_⟩
      intro k ha l hb
      obtain ⟨a, inList, rfl⟩ := List.mem_map.mp ha
      rw [List.mem_singleton.mp hb]
      exact up a inList
    · intro a ha
      rcases List.mem_append.mp ha with ha | ha
      · exact (up a ha).le
      · rw [List.mem_singleton.mp ha]

/-- Without its provisional record the monitor keeps its list. -/
theorem discard_listKept {m n : SpillMonitor} {r : SpillRecord} (working : m.working = some r) (shut : r.isOpen = false)
    (none_ : n.working = none) (state : n.state = .none) (closed : n.closed = m.closed) (number : n.number = m.number)
    (kept : m.ListKept) : n.ListKept := by
  obtain ⟨few, ascending, below, allClosed, -⟩ := kept
  have list_eq : m.list = m.closed := by simp [list_of_working working, shut]
  rw [list_eq] at few ascending below
  rw [ListKept, list_of_none none_, closed, number]
  exact ⟨few, ascending, below, allClosed, by simp [recordFits, state, none_]⟩

/-- The working record leaves for the closed ones with its number (R140, R135). -/
theorem shut_listKept {m n : SpillMonitor} {r r' : SpillRecord} (working : m.working = some r) (isOpen : r.isOpen = true)
    (none_ : n.working = none) (state : n.state = .none) (closed : n.closed = m.closed ++ [r'])
    (record : r'.number = r.number ∧ r'.isOpen = false) (number : n.number = m.number) (kept : m.ListKept) : n.ListKept := by
  obtain ⟨few, ascending, below, allClosed, -⟩ := kept
  obtain ⟨sameNumber, shut⟩ := record
  have list_eq : m.list = m.closed ++ [r] := by simp [list_of_working working, isOpen]
  rw [list_eq] at few ascending below
  rw [ListKept, list_of_none none_, closed, number]
  refine ⟨by simpa using few, by simpa [sameNumber] using ascending, ?_, ?_, by simp [recordFits, state, none_]⟩
  · intro a ha
    rcases List.mem_append.mp ha with ha | ha
    · exact below a (List.mem_append_left _ ha)
    · rw [List.mem_singleton.mp ha, sameNumber]; exact below r (by simp)
  · intro a ha
    rcases List.mem_append.mp ha with ha | ha
    · exact allClosed a ha
    · rw [List.mem_singleton.mp ha]; exact shut

/-- A provisional record is opened beside the list (R137). -/
theorem open_listKept {m n : SpillMonitor} {r : SpillRecord} (idle : m.state = .none) (working : n.working = some r)
    (shut : r.isOpen = false) (state : n.state = .confirming) (closed : n.closed = m.closed) (number : n.number = m.number)
    (kept : m.ListKept) : n.ListKept := by
  obtain ⟨few, ascending, below, allClosed, fit⟩ := kept
  have none_ : m.working = none := by
    cases hw : m.working with
    | none => rfl
    | some r => simp [recordFits, idle, hw] at fit
  rw [list_of_none none_] at few ascending below
  have list_eq : n.list = m.closed := by simp [list_of_working working, shut, closed]
  rw [ListKept, list_eq, closed, number]
  exact ⟨few, ascending, below, allClosed, by simp [recordFits, state, working, shut]⟩

theorem open_of_spilling {m : SpillMonitor} {r : SpillRecord} (working : m.working = some r)
    (state : m.state = .spilling ∨ m.state = .ending) (kept : m.ListKept) : r.isOpen = true ∧ r.number = m.number := by
  obtain ⟨-, -, -, -, fit⟩ := kept
  rcases state with state | state <;> simpa [recordFits, state, working] using fit

/-- An open working record stays so from SPILLING to ENDING and back (R139). -/
theorem listKept_of_open {m n : SpillMonitor} {r r' : SpillRecord} (working : m.working = some r) (working' : n.working = some r')
    (record : r'.number = r.number ∧ r'.isOpen = r.isOpen) (closed : n.closed = m.closed) (number : n.number = m.number)
    (before : m.state = .spilling ∨ m.state = .ending) (after : n.state = .spilling ∨ n.state = .ending) (kept : m.ListKept) :
    n.ListKept := by
  obtain ⟨isOpen, newest⟩ := open_of_spilling working before kept
  refine listKept_congr ?_ closed number ?_ kept
  · rw [list_of_working working, list_of_working working', closed, record.2]
    split <;> simp [record.1]
  · rcases before with before | before <;> rcases after with after | after <;>
      simp [recordFits, before, after, working, working', record.1, record.2, number]

/-- The state rules of a tick keep the list (R137 to R139). -/
theorem rules_listKept (g : Settings) (stamp : Stamp) (head : Option Int) {m : SpillMonitor} (kept : m.ListKept) :
    (m.rules g stamp head).ListKept := by
  unfold rules
  split
  case h_1 _ _ state =>
    split
    · exact open_listKept state rfl rfl rfl rfl rfl kept
    · exact kept
  case h_2 h r state working =>
    have shut : r.isOpen = false := by simpa [recordFits, state, working] using kept.2.2.2.2
    have counted : ({ m with confirmCount := m.confirmCount + 1 } : SpillMonitor).ListKept := kept
    split
    · dsimp only
      split
      · exact confirm_listKept working state counted
      · exact counted
    · exact discard_listKept working shut rfl rfl rfl rfl kept
  case h_3 state working =>
    split
    · exact listKept_of_open working rfl ⟨rfl, rfl⟩ rfl rfl (.inl state) (.inr rfl) kept
    · exact kept
  case h_4 state working =>
    split
    · exact kept
    · exact listKept_of_open working rfl ⟨rfl, rfl⟩ rfl rfl (.inr state) (.inl rfl) kept
  case h_5 => exact kept

theorem close_listKept (g : Settings) {m : SpillMonitor} (kept : m.ListKept) : (m.close g).ListKept := by
  unfold close
  split
  case h_1 r state working =>
    split
    · exact shut_listKept working (open_of_spilling working (.inr state) kept).1 rfl rfl rfl ⟨rfl, rfl⟩ rfl kept
    · exact kept
  case h_2 => exact kept

theorem tick_listKept (g : Settings) (stamp : Stamp) (head : Option Int) {m : SpillMonitor} (kept : m.ListKept) :
    (m.tick g stamp head).ListKept := by
  have headed : ({ m with head := head } : SpillMonitor).ListKept := kept
  exact close_listKept g (account_listKept g _ (rules_listKept g stamp head headed))

/-- A town restart keeps the closed records and closes the open one (R135). -/
theorem restart_listKept (stamp : Stamp) {m : SpillMonitor} (kept : m.ListKept) : (m.restart stamp).ListKept := by
  have fit := kept.2.2.2.2
  have keptClosed (none_ : m.list = m.closed) (d : Nat) :
      ({ SpillMonitor.reset with number := m.number, closed := m.closed, discards := d } : SpillMonitor).ListKept := by
    obtain ⟨few, ascending, below, allClosed, -⟩ := kept
    rw [none_] at few ascending below
    rw [ListKept, list_of_none rfl]
    exact ⟨few, ascending, below, allClosed, rfl⟩
  unfold restart
  dsimp only
  split
  case h_1 state =>
    refine keptClosed ?_ 1
    cases hw : m.working with
    | none => exact list_of_none hw
    | some r =>
      have shut : r.isOpen = false := by simpa [recordFits, state, hw] using fit
      simp [list_of_working hw, shut]
  case h_2 state working =>
    exact shut_listKept working (open_of_spilling working (.inl state) kept).1 rfl rfl rfl ⟨rfl, rfl⟩ rfl kept
  case h_3 state working =>
    exact shut_listKept working (open_of_spilling working (.inr state) kept).1 rfl rfl rfl ⟨rfl, rfl⟩ rfl kept
  case h_4 notConfirming notSpilling notEnding =>
    refine keptClosed (list_of_none ?_) 0
    cases hw : m.working with
    | none => rfl
    | some r =>
      cases state : m.state with
      | none => simp [recordFits, state, hw] at fit
      | confirming => exact absurd state notConfirming
      | spilling => exact absurd hw (notSpilling r state)
      | ending => exact absurd hw (notEnding r state)

end SpillMonitor

end Sys2Proof.Machine
end

section
/-! What the commands keep of the forms of the blocks, chapter by chapter; the commands that leave the start state or begin a transmission
are apart. -/

namespace Sys2Proof.Machine

namespace State

/-! ## The balance unit and the floats (chapter 2) -/

theorem compareLevel_orderly (s : State) : s.Orderly s.compareLevel := by
  have agree : s.Orderly ((s.withBalance { s.balance with disagree := .stopped }).deliver .levelDisagree false) :=
    (withBalance_orderly _ s).trans (deliver_orderly ..)
  unfold compareLevel
  split
  · exact .ite (fun _ => .ite (fun _ => withBalance_orderly _ s) (fun _ => .refl s)) (fun _ => agree)
  · exact agree

theorem onWSample_orderly (s : State) : s.Orderly s.onWSample :=
  .ite (fun _ => (((withBalance_orderly _ s).trans (compareLevel_orderly _)).trans (deliver_orderly ..)).trans (redemand_orderly _))
    (fun _ => .refl s)

theorem offerBalanceLow_orderly (before : Balance) (outflow : Nat) (s : State) : s.Orderly (s.offerBalanceLow before outflow) := by
  unfold offerBalanceLow
  split
  · exact .ite (fun _ => offer_orderly ..) (fun _ => .refl s)
  · exact .refl s

theorem lowLowStop_orderly (s : State) : s.Orderly s.lowLowStop :=
  .ite (fun _ => stopPump_orderly ..) (fun _ => .refl s)

/-! ## The inputs -/

theorem feed_orderly (pin : Pin) (v : Bool) (s : State) : s.Orderly (s.feed pin v) := by
  have pump : s.Orderly (if s.started then s.withPump (s.pump.feed pin v) else s) := .ite (fun _ => withPump_orderly _ s) (fun _ => .refl s)
  have floats : s.Orderly (if s.working then s.withFloats (s.floats.feed pin v) else s) :=
    .ite (fun _ => withFloats_orderly _ s) (fun _ => .refl s)
  cases pin with
  | dhh | dll => exact floats
  | drun | dflt | dsh | dsa => exact pump
  | dcam | dovl => exact .ite (fun _ => withScreen_orderly_of_same) (fun _ => .refl s)
  | dgen => exact .ite (fun _ => withTable_orderly_of_same) (fun _ => .refl s)
  | dack => exact .ite (fun _ => withAck_orderly _ s) (fun _ => .refl s)

/-! ## The spill monitor and the clock (chapters 8 and 11) -/

theorem offerSpillEvents_orderly (before : SpillState) (s : State) : s.Orderly (s.offerSpillEvents before) := by
  unfold offerSpillEvents
  split
  · exact offer_orderly ..
  · exact offer_orderly ..
  · exact .refl s

theorem monitorTick_orderly (s : State) : s.Orderly s.monitorTick := by
  refine .ite (fun _ => ?_) (fun _ => .refl s)
  have offered : s.Orderly ((s.withSpill (s.spill.tick s.cfg s.stamp s.spillHead)).offerSpillEvents s.spill.state) :=
    (withSpill_orderly fun kept => SpillMonitor.tick_listKept _ _ _ kept).trans (offerSpillEvents_orderly ..)
  exact offered.trans ((State.Orderly.ite (fun _ => .refl _) (fun _ => checkLockout_orderly _)).trans (deliver_orderly ..))

theorem countRun_orderly (s : State) : s.Orderly s.countRun :=
  .ite (fun _ => (withPump_orderly _ s).trans (evalClaim_orderly _)) (fun _ => withPump_orderly _ s)

theorem secondTick_orderly (s : State) : s.Orderly s.secondTick :=
  ((withClock_orderly _ s).trans (countRun_orderly _)).trans (monitorTick_orderly _)

theorem setClock_orderly (source : Station) (subject : Nat) (seconds : Word) (s : State) : s.Orderly (s.setClock source subject seconds) :=
  (withClock_orderly _ s).trans (offerFrom_orderly ..)

/-! ## The screen unit (chapter 7) -/

/-- The outputs follow the rake through every change of the screen unit that enters a rake state. -/
theorem enterRake_orderly {u : Screen} {s : State} (r : RakeState) (rake : u.rake = r := by rfl)
    (forward : u.forwardOut = (r == .forward) := by rfl) (reverse : u.reverseOut = (r == .clearing) := by rfl) :
    s.Orderly (s.withScreen u) :=
  withScreen_orderly fun _ => ⟨by rw [rake, forward], by rw [rake, reverse]⟩

theorem jamRake_orderly (s : State) : s.Orderly s.jamRake :=
  ((enterRake_orderly .jammed).trans (deliver_orderly ..)).trans (offer_orderly ..)

theorem faultRake_orderly (cause : RakeFaultCause) (s : State) : s.Orderly (s.faultRake cause) :=
  ((enterRake_orderly .fault).trans (deliver_orderly ..)).trans (offer_orderly ..)

theorem countOverload_orderly (s : State) : s.Orderly (s.withScreen s.screen.countOverload) := withScreen_orderly_of_same

theorem overloadForward_orderly (s : State) : s.Orderly s.overloadForward :=
  (countOverload_orderly s).trans (.ite (fun _ => jamRake_orderly _) (fun _ => enterRake_orderly .clearing))

theorem startCycle_orderly (cause : RakeCause) (s : State) : s.Orderly (s.startCycle cause) := by
  have begun (u : Screen) (h : u.rake = .forward ∧ u.forwardOut = true ∧ u.reverseOut = false) : s.Orderly (s.withScreen u) :=
    enterRake_orderly .forward h.1 h.2.1 h.2.2
  exact (begun _ ⟨by rfl, by rfl, by rfl⟩).trans (.ite (fun _ => overloadForward_orderly _) (fun _ => .refl _))

theorem trigger_orderly (cause : RakeCause) (s : State) : s.Orderly (s.trigger cause) :=
  .ite (fun _ => startCycle_orderly cause s) (fun _ => withScreen_orderly_of_same)

theorem startPending_orderly (s : State) : s.Orderly s.startPending :=
  .ite (fun _ => startCycle_orderly _ s) (fun _ => .refl s)

theorem checkCam_orderly (s : State) : s.Orderly s.checkCam :=
  .ite (fun _ => faultRake_orderly _ s) (fun _ => withScreen_orderly_of_same)

theorem onXSample_orderly (s : State) : s.Orderly s.onXSample := by
  refine .ite (fun _ => ?_) (fun _ => .refl s)
  dsimp only
  generalize nextCondition s.cfg s.screen.condition s.differential = condition
  have judged : s.Orderly
      ((s.withScreen { s.screen with delta := s.differential, condition := condition, limit := conditionLimit s.cfg condition }).deliver
        .screenBlinded (condition == .blinded)).recount :=
    (State.Orderly.trans (withScreen_orderly_of_same) (deliver_orderly ..)).trans (recount_orderly _)
  exact .ite (fun _ => judged.trans (trigger_orderly ..)) (fun _ => judged)

theorem rakeNow_orderly (s : State) : s.Orderly s.rakeNow := .ite (fun _ => trigger_orderly ..) (fun _ => .refl s)

theorem resetRake_orderly (s : State) : s.Orderly s.resetRake := by
  have idle (u : Screen) (h : u.rake = .rakeIdle ∧ u.forwardOut = false ∧ u.reverseOut = false) : s.Orderly (s.withScreen u) :=
    enterRake_orderly .rakeIdle h.1 h.2.1 h.2.2
  exact .ite
    (fun _ => (((idle _ ⟨by rfl, by rfl, by rfl⟩).trans (deliver_orderly ..)).trans (deliver_orderly ..)).trans (startPending_orderly _))
    (fun _ => .refl s)

/-! ## The level channels (chapter 1) -/

theorem sampleChannel_orderly (ch : ChannelId) (conversion : Int) (s : State) : s.Orderly (s.sampleChannel ch conversion) := by
  have users (t : State) : t.Orderly (t.offerLevel ch) := by
    cases ch with
    | w => exact onWSample_orderly t
    | x => exact onXSample_orderly t
  have sampled : s.Orderly (s.withChan ch ((s.chan ch).sample (s.cfg.channel ch) conversion).offer) :=
    withChan_orderly ch fun whole => Channel.offer_whole (Channel.sample_whole _ _ whole)
  exact .ite (fun _ => .refl s)
    (fun _ => ((sampled.trans (deliver_orderly ..)).trans (deliver_orderly ..)).trans (users _))

/-! ## Commands to this station (R164) -/

theorem handCommand_orderly (code : CommandCode) (s : State) : s.Orderly (s.handCommand code) := by
  cases code with
  | resetTrip => exact resetTrip_orderly s
  | inhibit => exact inhibitPump_orderly s
  | release => exact releasePump_orderly s
  | rakeNow => exact rakeNow_orderly s
  | resetRake => exact resetRake_orderly s

theorem applyCommand_orderly (source : Station) (route : Nat) (code : CommandCode) (s : State) :
    s.Orderly (s.applyCommand source route code) :=
  (handCommand_orderly code s).trans (offerFrom_orderly ..)

theorem serveCommand_orderly (mask : Byte) (code : CommandCode) (argument : Byte) (s : State) :
    s.Orderly (s.serveCommand mask code argument) := by
  have applied : s.Orderly (if s.masked mask then s.applyCommand s.own 0 code else s) :=
    .ite (fun _ => applyCommand_orderly ..) (fun _ => .refl s)
  exact .ite (fun _ => applied.trans (offerFrame_orderly ..)) (fun _ => applied)

theorem frameCommand_orderly (sender : Station) (mask : Byte) (code : CommandCode) (s : State) :
    s.Orderly (s.frameCommand sender mask code) :=
  .ite (fun _ => applyCommand_orderly ..) (fun _ => .refl s)

/-! ## The start window (chapter 6) -/

theorem unclaimed_of_view {s : State} (other : s.window.view ≠ .own) (h : s.ViewOwnsClaim) : s.window.claim = .none :=
  Decidable.byContradiction fun claim => other (h.mpr claim)

theorem freeWindow_orderly {s : State} (other : s.window.view ≠ .own) : s.Orderly s.freeWindow :=
  withWindow_orderly fun h => by simpa using unclaimed_of_view other h

theorem holdWindow_orderly (holder : Station) (number : Option Byte) (best : DutyKey) {s : State}
    (unclaimed : s.ViewOwnsClaim → s.window.claim = .none) : s.Orderly (s.holdWindow holder number best) :=
  withWindow_orderly fun h => by simpa using unclaimed h

/-- With nothing on the line a claim that is closed is ended at once. -/
theorem closeClaim_unclaimed (outcome : ClaimOutcome) {s : State} (quiet : s.link.sending = none) :
    (s.closeClaim outcome).window.claim = .none := by
  unfold closeClaim
  split
  case h_1 none_ => exact none_
  case h_2 => rw [if_neg (by simp [Link.sendingClass, quiet])]; rfl
  case h_3 => rfl
  case h_4 => rfl

theorem withdrawTo_orderly (holder : Station) (number : Option Byte) (best : DutyKey) {s : State} (quiet : s.link.sending = none) :
    s.Orderly (s.withdrawTo holder number best) := by
  have held : s.Orderly ((s.closeClaim .withdrawn).holdWindow holder number best) :=
    (closeClaim_orderly .withdrawn s).trans (holdWindow_orderly _ _ _ fun _ => closeClaim_unclaimed _ quiet)
  exact held.trans (.ite (fun _ => enterWaiting_orderly _) (fun _ => .refl _))

theorem observeClaim_orderly (sender : Station) (number : Byte) (hours : Half) {s : State} (quiet : s.link.sending = none) :
    s.Orderly (s.observeClaim sender number hours) := by
  unfold observeClaim
  split
  case h_1 free => exact holdWindow_orderly _ _ _ (unclaimed_of_view (by simp [free]))
  case h_2 held => exact .ite (fun _ => holdWindow_orderly _ _ _ (unclaimed_of_view (by simp [held]))) (fun _ => .refl s)
  case h_3 => exact .ite (fun _ => withdrawTo_orderly _ _ _ quiet) (fun _ => .refl s)

theorem observeDone_orderly (sender : Station) (number : Byte) (s : State) : s.Orderly (s.observeDone sender number) := by
  unfold observeDone
  split
  case h_1 held => exact .ite (fun _ => (freeWindow_orderly (by simp [held])).trans (evalClaim_orderly _)) (fun _ => .refl s)
  case h_2 => exact .refl s

theorem viewReport_orderly (sender : Station) (r : Report) {s : State} (quiet : s.link.sending = none) :
    s.Orderly (s.viewReport sender r) := by
  unfold viewReport
  split
  case h_1 free => exact .ite (fun _ => holdWindow_orderly _ _ _ (unclaimed_of_view (by simp [free]))) (fun _ => .refl s)
  case h_2 held => exact .ite (fun _ => freeWindow_orderly (by simp [held])) (fun _ => .refl s)
  case h_3 => exact .ite (fun _ => withdrawTo_orderly _ _ _ quiet) (fun _ => .refl s)

theorem observeReport_orderly (sender : Station) (r : Report) {s : State} (quiet : s.link.sending = none) :
    s.Orderly (s.observeReport sender r) :=
  (viewReport_orderly sender r quiet).trans (evalClaim_orderly _)

theorem observeLost_orderly (peer : Station) (s : State) : s.Orderly (s.observeLost peer) := by
  unfold observeLost
  split
  case h_1 held => exact .ite (fun _ => (freeWindow_orderly (by simp [held])).trans (evalClaim_orderly _)) (fun _ => .refl s)
  case h_2 => exact .refl s

theorem claimSent_orderly (s : State) : s.Orderly s.claimSent :=
  .ite (fun pending => withWindow_orderly fun h => by simpa using h.mpr (by simp [pending])) (fun _ => .refl s)

theorem claimDropped_orderly (s : State) : s.Orderly s.claimDropped :=
  .ite (fun _ => .ite (fun _ => (endClaim_orderly s).trans (enterWaiting_orderly _)) (fun _ => endClaim_orderly s)) (fun _ => .refl s)

/-! ## The peer table (chapter 5) -/

/-- A new entry for a peer: the own entry is not touched, and no part in LOADING has a peer. -/
theorem withEntry_orderly {p : Station} {e : PeerEntry} {s : State}
    (peer : (s.table.entry s.own).state = .empty → p ≠ s.own)
    (started : (∀ q : Station, (s.table.entry q).state = .empty) → s.start.phase ≠ .loading) (v : PeerTable)
    (entries : v.entries = (s.table.withEntry p e).entries) : s.Orderly (s.withTable v) :=
  withTable_orderly fun h => by
    have other : p ≠ s.own := peer h.1
    refine ⟨?_, fun loading => absurd loading (started (h.2 loading))⟩
    have same : v.entry s.own = s.table.entry s.own := by
      simp only [PeerTable.entry, entries, PeerTable.withEntry]
      exact Vector.getElem_set_ne p.isLt s.own.isLt (fun eq => other (Fin.ext eq))
    exact (congrArg PeerEntry.state same).trans h.1

/-- A new entry in the place of one that is not EMPTY. -/
theorem withEntry_orderly_of_known {p : Station} {e : PeerEntry} {s : State} (known : (s.table.entry p).state ≠ .empty) :
    s.Orderly (s.withTable (s.table.withEntry p e)) :=
  withEntry_orderly (fun own same => known (by rw [same]; exact own)) (fun all => absurd (all p) known) _ rfl

theorem storeReport_orderly {sender : Station} (r : Report) {s : State} (other : sender ≠ s.own) (working : s.working = true) :
    s.Orderly (s.storeReport sender r) := by
  have stored (v : PeerTable) (entries : v.entries = (s.table.withEntry sender ((s.table.entry sender).store s.stamp r)).entries) :
      s.Orderly (s.withTable v) :=
    withEntry_orderly (fun _ => other) (fun _ loading => by simp [State.working, loading] at working) v entries
  exact .ite (fun _ => (stored _ (by rfl)).trans (withPump_orderly ..)) (fun _ => stored _ (by rfl))

theorem endIsolation_orderly (s : State) : s.Orderly s.endIsolation := .ite (fun _ => setIsolated_orderly ..) (fun _ => .refl s)

theorem stopRule_orderly (s : State) : s.Orderly s.stopRule := .ite (fun _ => .refl s) (fun _ => dutyStop_orderly s)

theorem offerPeerEvents_orderly (peer : Station) (before : PeerEntry) (r : Report) (s : State) :
    s.Orderly (s.offerPeerEvents peer before r) := by
  have alarm (old : Report) : s.Orderly (s.offerPeerAlarm peer old r) := .ite (fun _ => .refl s) (fun _ => offerFrom_orderly ..)
  have ended (t : State) (w : Option WeirSection) : t.Orderly (t.offerPeerSpillEnd peer w) := by
    cases w with
    | none => exact .refl t
    | some w => exact offerFrom_orderly ..
  refine .ite (fun _ => ?_) (fun _ => .refl s)
  split
  · exact offerFrom_orderly ..
  · exact (alarm _).trans (ended ..)
  · exact .refl s

theorem takeReport_orderly {sender : Station} (r : Report) {s : State} (other : sender ≠ s.own) (working : s.working = true)
    (quiet : s.link.sending = none) : s.Orderly (s.takeReport sender r) := by
  have told : s.Orderly (((((s.storeReport sender r).recount).stopRule).checkLockout.endIsolation).offerPeerEvents sender
      (s.table.entry sender) r) :=
    (((((storeReport_orderly r other working).trans (recount_orderly _)).trans (stopRule_orderly _)).trans
      (checkLockout_orderly _)).trans (endIsolation_orderly _)).trans (offerPeerEvents_orderly ..)
  exact told.trans (observeReport_orderly sender r (told.sending quiet))

theorem offerPeerLost_orderly (peer : Station) (s : State) : s.Orderly (s.offerPeerLost peer) := by
  unfold offerPeerLost
  split
  · exact offerFrom_orderly ..
  · exact .refl s

/-! ## The Bay Link port (chapter 4) -/

theorem heardOwn_orderly (s : State) : s.Orderly s.heardOwn := by
  have timed : s.Orderly (s.withLink { s.link with duplicate := .start }) := withLink_orderly_of_same
  exact .ite (fun _ => timed) (fun _ => (timed.trans (deliver_orderly ..)).trans (setIsolated_orderly ..))

theorem handFrame_orderly {sender : Station} (body : FrameBody) {s : State} (other : sender ≠ s.own) (quiet : s.link.sending = none) :
    s.Orderly (s.handFrame sender body) := by
  cases body with
  | report r => exact .ite (fun working => takeReport_orderly r other working quiet) (fun _ => .refl s)
  | startClaim number hours => exact .ite (fun _ => observeClaim_orderly _ _ _ quiet) (fun _ => .refl s)
  | startDone number outcome => exact .ite (fun _ => observeDone_orderly ..) (fun _ => .refl s)
  | time seconds => exact setClock_orderly ..
  | command mask code argument => exact frameCommand_orderly ..

theorem goodFrame_orderly (sender : Station) (body : FrameBody) {s : State} (quiet : s.link.sending = none) :
    s.Orderly (s.goodFrame sender body) := by
  have heard : s.Orderly (s.withLink { s.link with lastSender := sender }) := withLink_orderly_of_same
  exact .ite (fun _ => heard.trans (heardOwn_orderly _)) (fun other => heard.trans (handFrame_orderly body other (heard.sending quiet)))

theorem quiet_of_canReceive {s : State} (h : s.canReceive = true) : s.link.sending = none := by
  simp only [canReceive, Bool.and_eq_true, Option.isNone_iff_eq_none] at h
  exact h.2

theorem receive_orderly (sender : Station) (body : FrameBody) (s : State) : s.Orderly (s.receive sender body) :=
  .ite (fun h => goodFrame_orderly sender body (quiet_of_canReceive h)) (fun _ => .refl s)

theorem hearFrame_orderly (bytes : List Byte) (framingError : Bool) {s : State} (quiet : s.link.sending = none) :
    s.Orderly (s.hearFrame bytes framingError) := by
  unfold hearFrame
  split
  · exact goodFrame_orderly _ _ quiet
  · exact withLink_orderly_of_same

theorem releaseOffer_orderly (s : State) : s.Orderly s.releaseOffer := by
  unfold releaseOffer
  split
  · exact State.Orderly.trans (withLink_orderly_of_same) (offerFrame_orderly ..)
  · exact .refl s

theorem releaseClaim_orderly (s : State) : s.Orderly (s.withLink s.link.releaseClaim) := by
  unfold Link.releaseClaim
  split
  · exact withLink_orderly id (fun h => upsert_classOrder _ h)
  · exact .refl s

theorem tellSent_orderly (body : FrameBody) (s : State) : s.Orderly (s.tellSent body) := by
  have waited : s.Orderly (s.withLink { s.link with closing := none }) := withLink_orderly_of_same
  unfold tellSent
  split
  · exact ((waited.trans (endClaim_orderly _)).trans (offerFrame_orderly ..)).trans (evalClaim_orderly _)
  · exact claimSent_orderly s
  · exact releaseClaim_orderly s
  · exact .refl s

theorem frameSent_orderly (own : Station) (body : FrameBody) (s : State) : s.Orderly (s.withLink (s.link.frameSent own body)) :=
  withLink_orderly (fun _ => rfl) (fun h => Link.drop_classOrder _ h)

theorem attemptFailed_orderly (body : FrameBody) (s : State) : s.Orderly (s.withLink (s.link.attemptFailed body)) :=
  withLink_orderly (fun _ => rfl) (fun h => map_classOrder (fun e => by split <;> rfl) h)

theorem giveUp_orderly (body : FrameBody) (s : State) : s.Orderly (s.withLink (s.link.giveUp body)) := by
  unfold Link.giveUp
  split
  · exact withLink_orderly id (fun h => map_classOrder (fun e => by split <;> rfl) h)
  · exact withLink_orderly id (fun h => Link.drop_classOrder _ h)

theorem attemptLimit_orderly (body : FrameBody) (s : State) : s.Orderly (s.attemptLimit body) :=
  .ite (fun _ => (giveUp_orderly body s).trans (deliver_orderly ..)) (fun _ => .refl s)

theorem tellFailed_orderly (body : FrameBody) (s : State) : s.Orderly (s.tellFailed body) := by
  have dropped : s.Orderly (s.withLink { (s.link.drop 1) with closing := none }) :=
    withLink_orderly id (fun h => Link.drop_classOrder 1 h)
  unfold tellFailed
  split
  · exact (dropped.trans (endClaim_orderly _)).trans (evalClaim_orderly _)
  · exact .ite (fun _ => .refl s) (fun _ => claimDropped_orderly s)
  · exact .refl s

/-! ## The Town Line port (chapter 10) -/

theorem answer_orderly (address : Byte) (kind : Nat) (toggle : Bool) (payload : List Byte) (s : State) :
    s.Orderly (s.answer address kind toggle payload) := withTown_orderly _ s

theorem fetchQueue_orderly (toggle : Bool) (s : State) : s.Orderly (s.withEvents (s.fetchQueue toggle)) :=
  withEvents_orderly fun h => by
    unfold fetchQueue
    split
    · have few := h.1
      exact ⟨by rw [List.length_drop]; omega, numberedTo_tail h.2⟩
    · exact h

theorem serve_orderly (address : Byte) (r : TownRequest) (s : State) : s.Orderly (s.serve address r) := by
  cases r with
  | fetch toggle =>
    unfold serve serveFetch
    dsimp only
    split
    · exact ((fetchQueue_orderly toggle s).trans (withTown_orderly ..)).trans (answer_orderly ..)
    · exact ((fetchQueue_orderly toggle s).trans (withTown_orderly ..)).trans (answer_orderly ..)
  | status page =>
    unfold serve serveStatus
    dsimp only
    split <;> exact answer_orderly ..
  | house => exact answer_orderly ..
  | spills index =>
    unfold serve serveSpills
    dsimp only
    split <;> exact answer_orderly ..
  | ack point =>
    unfold serve serveAck
    dsimp only
    split
    · exact (ackPoint_orderly ..).trans (answer_orderly ..)
    · exact .ite (fun _ => (ackAll_orderly ..).trans (answer_orderly ..)) (fun _ => answer_orderly ..)
  | command mask code argument =>
    exact .ite (fun _ => (serveCommand_orderly ..).trans (answer_orderly ..)) (fun _ => answer_orderly ..)
  | time seconds => exact ((setClock_orderly ..).trans (offerFrame_orderly ..)).trans (answer_orderly ..)
  | restart => exact (withTown_orderly _ s).trans (answer_orderly ..)

theorem serveValid_orderly (address : Byte) (kind : Nat) (toggle : Bool) (r : Option TownRequest) (s : State) :
    s.Orderly (s.serveValid address kind toggle r) := by
  unfold serveValid
  split
  · exact answer_orderly ..
  · exact serve_orderly ..
  · exact answer_orderly ..

theorem markValid_orderly (s : State) : s.Orderly s.markValid := (withTown_orderly _ s).trans (deliver_orderly ..)

theorem noAnswer_orderly (s : State) : s.Orderly s.noAnswer := withTown_orderly _ s

theorem request_orderly (address : Byte) (r : TownRequest) (s : State) : s.Orderly (s.request address r) :=
  .ite (fun _ => .ite (fun _ => (markValid_orderly s).trans (serveValid_orderly ..)) (fun _ => noAnswer_orderly s)) (fun _ => .refl s)

theorem judgeRequest_orderly (address : Byte) (kind n : Nat) (toggle : Bool) (size : Nat) (payload : List Byte) (s : State) :
    s.Orderly (s.judgeRequest address kind n toggle size payload) :=
  .ite (fun _ => answer_orderly ..) (fun _ => .ite (fun _ => answer_orderly ..)
    (fun _ => .ite (fun _ => answer_orderly ..) (fun _ => serveValid_orderly ..)))

theorem hearMessage_orderly (bytes : List Byte) (framingError : Bool) (s : State) : s.Orderly (s.hearMessage bytes framingError) := by
  refine .ite (fun _ => noAnswer_orderly s) (fun _ => ?_)
  split
  · exact .ite (fun _ => (markValid_orderly s).trans (judgeRequest_orderly ..)) (fun _ => noAnswer_orderly s)
  · exact noAnswer_orderly s

theorem takeCommand_orderly (src : CommandSource) (code : CommandCode) (s : State) : s.Orderly (s.takeCommand src code) := by
  cases src with
  | town address mask argument => exact request_orderly ..
  | bayLink sender mask argument => exact receive_orderly ..

end State

end Sys2Proof.Machine
end

section
/-! Every command completes, and what it keeps: the ordinary commands as one lemma by the rows of the table, the others one by one. With it the
statements about all commands and all steps (O3, O58, O59) are settled. -/

namespace Sys2Proof

/-- The commands that stay in their start state, leave the pins alone and begin no transmission: all rows but six. -/
def Instr.ordinary : Instr → Bool
  | .fullStart => false
  | .loadingEnd _ _ _ _ _ => false
  | .listeningEnd => false
  | .townRestart => false
  | .inputLevelChange _ _ => false
  | .transmitSlot _ => false
  | _ => true

end Sys2Proof

namespace Sys2Proof.Machine

namespace State

theorem withChan_orderly_of_same (ch : ChannelId) {c : Channel} {s : State} (samples : c.samples = (s.chan ch).samples := by rfl) :
    s.Orderly (s.withChan ch c) :=
  withChan_orderly ch fun h => by rw [Channel.WindowWhole, samples]; exact h

theorem takeAck_orderly (v : Bool) (s : State) : s.Orderly (s.takeAck v) := withAck_orderly _ s

/-- Every ordinary command answers a next state that keeps the frame and the forms. -/
theorem exec_orderly {c : Instr} (ordinary : c.ordinary = true) (s : State) : ∃ t, exec c s = .next t ∧ s.Orderly t := by
  cases c with
  | fullStart | loadingEnd | listeningEnd | townRestart | inputLevelChange | transmitSlot => simp [Instr.ordinary] at ordinary
  | secondsClockTick => exact ⟨_, rfl, secondTick_orderly s⟩
  | spillConfirm => exact ⟨_, rfl, .ite (fun _ => secondTick_orderly s) (fun _ => .refl s)⟩
  | spillClose => exact ⟨_, rfl, .ite (fun _ => secondTick_orderly s) (fun _ => .refl s)⟩
  | runHoursRise => exact ⟨_, rfl, .ite (fun _ => secondTick_orderly s) (fun _ => .refl s)⟩
  | hoursWriteComplete acknowledged =>
    refine ⟨_, rfl, ?_⟩
    split
    · exact (withPump_orderly _ s).trans (deliver_orderly ..)
    · exact .refl s
  | sampleEvent ch conversion => exact ⟨_, rfl, sampleChannel_orderly ..⟩
  | settlingEnd ch => exact ⟨_, rfl, .ite (fun _ => sampleChannel_orderly ..) (fun _ => .refl s)⟩
  | checkEnd ch => exact ⟨_, rfl, .ite (fun _ => sampleChannel_orderly ..) (fun _ => .refl s)⟩
  | checkTimerExpiry ch => exact ⟨_, rfl, .ite (fun _ => withChan_orderly_of_same ch) (fun _ => .refl s)⟩
  | faultHoldExpiry ch => exact ⟨_, rfl, .ite (fun _ => withChan_orderly_of_same ch) (fun _ => .refl s)⟩
  | disagreeTimerExpiry => exact ⟨_, rfl, .ite (fun _ => (withBalance_orderly _ s).trans (deliver_orderly ..)) (fun _ => .refl s)⟩
  | balanceEvent =>
    exact ⟨_, rfl, .ite
      (fun _ => (((withBalance_orderly _ s).trans (offerBalanceLow_orderly ..)).trans (withBalance_orderly ..)).trans (redemand_orderly _))
      (fun _ => .refl s)⟩
  | invalidHoldExpiry => exact ⟨_, rfl, .ite (fun _ => (withBalance_orderly _ s).trans (redemand_orderly _)) (fun _ => .refl s)⟩
  | floatDebounceExpiry f =>
    exact ⟨_, rfl, .ite
      (fun _ => (((((withFloats_orderly _ s).trans (deliver_orderly ..)).trans (deliver_orderly ..)).trans (lowLowStop_orderly _)).trans
        (redemand_orderly _)).trans (immediateStop_orderly _))
      (fun _ => .refl s)⟩
  | runFbFilterExpiry =>
    exact ⟨_, rfl, .ite
      (fun _ => ((withPump_orderly _ s).trans (.ite (fun _ => completeStop_orderly _) (fun _ => .refl _))).trans (recount_orderly _))
      (fun _ => .refl s)⟩
  | faultContactDebounceExpiry =>
    exact ⟨_, rfl, .ite
      (fun _ => ((withPump_orderly _ s).trans (deliver_orderly ..)).trans (.ite (fun _ => trip_orderly ..) (fun _ => .refl _)))
      (fun _ => .refl s)⟩
  | selectorContactDebounceExpiry c =>
    refine ⟨_, rfl, .ite (fun _ => ?_) (fun _ => .refl s)⟩
    have taken : s.Orderly (s.settleOff.withPump
        (s.settleOff.pump.withContact c ((s.pump.contact c).take (s.pins.level (contactPin c))))) :=
      (settleOff_orderly s).trans (withPump_orderly ..)
    refine taken.trans ?_
    dsimp only
    split
    · exact ((withPump_orderly ..).trans (deliver_orderly ..)).trans (setPosition_orderly ..)
    · exact (withPump_orderly ..).trans (deliver_orderly ..)
  | selectorOffHoldExpiry => exact ⟨_, rfl, .ite (fun _ => takeOff_orderly s) (fun _ => .refl s)⟩
  | lockoutEnd => exact ⟨_, rfl, .ite (fun _ => endLockout_orderly s) (fun _ => .refl s)⟩
  | feedbackTimerExpiry =>
    refine ⟨_, rfl, .ite (fun _ => ?_) (fun _ => .refl s)⟩
    split
    · exact trip_orderly ..
    · exact .ite (fun _ => trip_orderly ..) (fun _ => completeStop_orderly s)
    · exact .refl s
  | settleTimerExpiry =>
    exact ⟨_, rfl, .ite
      (fun _ => (((closeOwnClaim_orderly .started s).trans (enter_orderly ..)).trans (offer_orderly ..)).trans (immediateStop_orderly _))
      (fun _ => .refl s)⟩
  | lossTimerExpiry =>
    refine ⟨_, rfl, .ite (fun _ => ?_) (fun _ => .refl s)⟩
    split
    · exact trip_orderly ..
    · exact trip_orderly ..
    · exact .refl s
  | minimumRunReached => exact ⟨_, rfl, .ite (fun _ => (withPump_orderly _ s).trans (dutyStop_orderly _)) (fun _ => .refl s)⟩
  | stopSpacingExpiry => exact ⟨_, rfl, .ite (fun _ => (withPump_orderly _ s).trans (stopRule_orderly _)) (fun _ => .refl s)⟩
  | strayRunExpiry => exact ⟨_, rfl, .ite (fun _ => trip_orderly ..) (fun _ => .refl s)⟩
  | staggerTimerExpiry => exact ⟨_, rfl, .ite (fun _ => enterStarting_orderly ..) (fun _ => .refl s)⟩
  | resetTrip src => exact ⟨_, rfl, takeCommand_orderly ..⟩
  | inhibit src => exact ⟨_, rfl, takeCommand_orderly ..⟩
  | release src => exact ⟨_, rfl, takeCommand_orderly ..⟩
  | rakeNow src => exact ⟨_, rfl, takeCommand_orderly ..⟩
  | resetRake src => exact ⟨_, rfl, takeCommand_orderly ..⟩
  | frameSent =>
    refine ⟨_, rfl, ?_⟩
    split
    · exact ((frameSent_orderly _ _ s).trans (tellSent_orderly ..)).trans (releaseOffer_orderly _)
    · exact .refl s
  | echoFailure =>
    refine ⟨_, rfl, ?_⟩
    split
    · exact (((attemptFailed_orderly _ s).trans (attemptLimit_orderly ..)).trans (tellFailed_orderly ..)).trans (releaseOffer_orderly _)
    · exact .refl s
  | txFailureTimerExpiry =>
    exact ⟨_, rfl, .ite (fun _ => State.Orderly.trans (withLink_orderly_of_same) (deliver_orderly ..)) (fun _ => .refl s)⟩
  | reportTimerExpiry => exact ⟨_, rfl, .ite (fun _ => queueReport_orderly s) (fun _ => .refl s)⟩
  | badFrame bytes framingError =>
    exact ⟨_, rfl, .ite (fun h => hearFrame_orderly _ _ (quiet_of_canReceive h)) (fun _ => .refl s)⟩
  | ownNumberFrame =>
    exact ⟨_, rfl, .ite (fun _ => State.Orderly.trans (withLink_orderly_of_same) (heardOwn_orderly _)) (fun _ => .refl s)⟩
  | duplicateTimerExpiry =>
    exact ⟨_, rfl, .ite
      (fun _ => (State.Orderly.trans (withLink_orderly_of_same) (deliver_orderly ..)).trans
        (.ite (fun _ => setIsolated_orderly ..) (fun _ => .refl _)))
      (fun _ => .refl s)⟩
  | report sender r => exact ⟨_, rfl, receive_orderly ..⟩
  | startClaim sender number hours => exact ⟨_, rfl, receive_orderly ..⟩
  | startDone sender number outcome => exact ⟨_, rfl, receive_orderly ..⟩
  | timeFrame sender seconds => exact ⟨_, rfl, receive_orderly ..⟩
  | entryBecomesStale peer =>
    exact ⟨_, rfl, .ite (fun h => (withEntry_orderly_of_known (by simp [h.1])).trans (recount_orderly _)) (fun _ => .refl s)⟩
  | entryBecomesLost peer =>
    exact ⟨_, rfl, .ite
      (fun h => ((((withEntry_orderly_of_known (by simp [h.1])).trans (recount_orderly _)).trans (checkLockout_orderly _)).trans
        (offerPeerLost_orderly ..)).trans (observeLost_orderly ..))
      (fun _ => .refl s)⟩
  | lostReleaseExpiry peer =>
    exact ⟨_, rfl, .ite (fun h => (withEntry_orderly_of_known (by simp [h.1])).trans (recount_orderly _)) (fun _ => .refl s)⟩
  | peerSilenceExpiry =>
    refine ⟨_, rfl, .ite (fun _ => ?_) (fun _ => .refl s)⟩
    have stopped : s.Orderly (s.withTable { s.table with silence := .reached }) := withTable_orderly_of_same
    exact .ite (fun _ => stopped.trans (setIsolated_orderly ..)) (fun _ => stopped)
  | generatorDebounceExpiry =>
    exact ⟨_, rfl, .ite
      (fun _ => (State.Orderly.trans (withTable_orderly_of_same) (deliver_orderly ..)).trans (recount_orderly _)) (fun _ => .refl s)⟩
  | patienceRunOut =>
    exact ⟨_, rfl, .ite (fun _ => State.Orderly.trans (withWindow_orderly_of_same) (evalClaim_orderly _)) (fun _ => .refl s)⟩
  | claimHoldExpiry =>
    refine ⟨_, rfl, .ite (fun h => .ite (fun _ => ?_) (fun _ => ?_)) (fun _ => .refl s)⟩
    · exact (withWindow_orderly fun owns => by simpa using owns.mpr (by simp [h.1])).trans (enterStarting_orderly ..)
    · exact (closeClaim_orderly ..).trans (enterIdle_orderly _)
  | windowTimerExpiry =>
    refine ⟨_, rfl, ?_⟩
    split
    case h_1 held =>
      exact .ite (fun _ => ((freeWindow_orderly (by simp [held])).trans (offerFrom_orderly ..)).trans (evalClaim_orderly _)) (fun _ => .refl s)
    case h_2 => exact .refl s
  | camFilterExpiry =>
    refine ⟨_, rfl, .ite (fun _ => ?_) (fun _ => .refl s)⟩
    have taken : s.Orderly (s.withScreen { s.screen with cam := s.screen.cam.take s.pins.dcam }) := withScreen_orderly_of_same
    have idle (t : State) (u : Screen) (h : u.rake = .rakeIdle ∧ u.forwardOut = false ∧ u.reverseOut = false) :
        t.Orderly (t.withScreen u) := enterRake_orderly .rakeIdle h.1 h.2.1 h.2.2
    exact .ite (fun _ => (taken.trans (idle _ _ ⟨by rfl, by rfl, by rfl⟩)).trans (offer_orderly ..)) (fun _ => taken)
  | overloadFilterExpiry =>
    refine ⟨_, rfl, .ite (fun _ => ?_) (fun _ => .refl s)⟩
    have taken : s.Orderly (s.withScreen { s.screen with overload := s.screen.overload.take s.pins.dovl }) := withScreen_orderly_of_same
    refine .ite (fun _ => ?_) (fun _ => taken)
    split
    · exact taken.trans (overloadForward_orderly _)
    · exact (taken.trans (countOverload_orderly _)).trans (jamRake_orderly _)
    · exact taken
  | camCheckExpiry =>
    exact ⟨_, rfl, .ite (fun _ => .ite (fun _ => checkCam_orderly s) (fun _ => withScreen_orderly_of_same)) (fun _ => .refl s)⟩
  | reverseTimerExpiry => exact ⟨_, rfl, .ite (fun _ => enterRake_orderly .pause) (fun _ => .refl s)⟩
  | pauseTimerExpiry =>
    refine ⟨_, rfl, .ite (fun _ => ?_) (fun _ => .refl s)⟩
    have resumed : s.Orderly (s.withScreen { (s.screen.enterRake .forward) with pause := .stopped }) := enterRake_orderly .forward
    refine (resumed.trans (.ite (fun _ => checkCam_orderly _) (fun _ => .refl _))).trans
      (.ite (fun _ => overloadForward_orderly _) (fun _ => .refl _))
  | cycleTimeout =>
    exact ⟨_, rfl, .ite (fun _ => State.Orderly.trans (withScreen_orderly_of_same) (faultRake_orderly ..)) (fun _ => .refl s)⟩
  | restTimerExpiry =>
    exact ⟨_, rfl, .ite (fun _ => State.Orderly.trans (withScreen_orderly_of_same) (startPending_orderly _)) (fun _ => .refl s)⟩
  | intervalTimerExpiry =>
    exact ⟨_, rfl, .ite (fun _ => State.Orderly.trans (withScreen_orderly_of_same) (trigger_orderly ..)) (fun _ => .refl s)⟩
  | panelAcknowledge => exact ⟨_, rfl, .ite (fun _ => (takeAck_orderly true s).trans (ackAll_orderly ..)) (fun _ => .refl s)⟩
  | unservedTownMessage bytes framingError overlapping =>
    exact ⟨_, rfl, .ite (fun _ => hearMessage_orderly ..) (fun _ => .refl s)⟩
  | fetch address toggle => exact ⟨_, rfl, request_orderly ..⟩
  | status address page => exact ⟨_, rfl, request_orderly ..⟩
  | house address => exact ⟨_, rfl, request_orderly ..⟩
  | spills address index => exact ⟨_, rfl, request_orderly ..⟩
  | ack address point => exact ⟨_, rfl, request_orderly ..⟩
  | time address seconds => exact ⟨_, rfl, request_orderly ..⟩
  | restart address => exact ⟨_, rfl, request_orderly ..⟩
  | townSilenceExpiry => exact ⟨_, rfl, .ite (fun _ => (withTown_orderly _ s).trans (deliver_orderly ..)) (fun _ => .refl s)⟩
  | firstIdleGap => exact ⟨_, rfl, .ite (fun _ => withLink_orderly_of_same) (fun _ => .refl s)⟩
  | acknowledgeInputReleased => exact ⟨_, rfl, .ite (fun _ => takeAck_orderly false s) (fun _ => .refl s)⟩

end State

end Sys2Proof.Machine
end

section
/-! The six commands that are not ordinary, the idle step, and the statements about every command and every step (O3, O58, O59). -/

namespace Sys2Proof.Machine

namespace State

/-- A step keeps every form the blocks have. -/
structure KeepsForms (s t : State) : Prop where
  relays : s.RelaysFollow → t.RelaysFollow
  numbered : s.QueueNumbered → t.QueueNumbered
  spills : s.spill.ListKept → t.spill.ListKept
  view : s.ViewOwnsClaim → t.ViewOwnsClaim
  classes : s.QueueInClassOrder → t.QueueInClassOrder
  ownEntry : s.OwnEntryEmpty → t.OwnEntryEmpty
  outputs : s.RakeOutputsFollow → t.RakeOutputsFollow
  windows : s.chanW.WindowWhole ∧ s.chanX.WindowWhole → t.chanW.WindowWhole ∧ t.chanX.WindowWhole

theorem KeepsForms.trans {s t u : State} (h : s.KeepsForms t) (k : t.KeepsForms u) : s.KeepsForms u where
  relays := k.relays ∘ h.relays
  numbered := k.numbered ∘ h.numbered
  spills := k.spills ∘ h.spills
  view := k.view ∘ h.view
  classes := k.classes ∘ h.classes
  ownEntry := k.ownEntry ∘ h.ownEntry
  outputs := k.outputs ∘ h.outputs
  windows := k.windows ∘ h.windows

theorem Orderly.forms {s t : State} (h : s.Orderly t) : s.KeepsForms t :=
  ⟨h.relays, h.numbered, h.spills, h.view, h.classes, h.ownEntry, h.outputs, h.windows⟩

/-! ## The starts (R168, R170, R174) -/

theorem reset_relaysFollow : State.reset.RelaysFollow := by decide

theorem reset_viewOwnsClaim : State.reset.ViewOwnsClaim := by decide

theorem reset_ownEntryEmpty : State.reset.OwnEntryEmpty := by decide

theorem reset_listKept : SpillMonitor.reset.ListKept := by decide

/-- The forms of a state that differs from the reset state in the clock, the pins, the spill monitor and the waiting commands alone. -/
theorem keepsForms_of_reset {s : State} (clock : Clock) (pins : Pins) (m : SpillMonitor) (pending : List Instr)
    (kept : s.spill.ListKept → m.ListKept) :
    s.KeepsForms { State.reset with clock := clock, pins := pins, spill := m, pending := pending } where
  relays _ := reset_relaysFollow
  numbered _ := ⟨Nat.zero_le _, rfl⟩
  spills := kept
  view _ := reset_viewOwnsClaim
  classes _ := List.Pairwise.nil
  ownEntry _ := reset_ownEntryEmpty
  outputs _ := ⟨rfl, rfl⟩
  windows _ := ⟨.inl rfl, .inl rfl⟩

/-- Another start state, station number or set of settings is read by the relays' lamp mask and by the own entry alone. -/
theorem withStart_keepsForms {u : StartUnit} {s : State} (lamps : (s.withStart u).lampMask = s.lampMask)
    (ownEntry : s.OwnEntryEmpty → (s.withStart u).OwnEntryEmpty) : s.KeepsForms (s.withStart u) :=
  ⟨fun h => by unfold RelaysFollow; rw [lamps]; exact h, id, id, id, id, ownEntry, id, id⟩

/-- At the end of LOADING the relays are formed anew, whatever they were. -/
theorem beginCommon_keepsForms (st : PumpState) (hours : Option Nat) {u : StartUnit} {s : State} (loading : s.start.phase = .loading)
    (later : u.phase ≠ .loading) : s.KeepsForms ((s.withStart u).beginCommon st hours) where
  relays _ := refresh_relaysFollow _ _
  numbered := id
  spills := id
  view := id
  classes := id
  ownEntry h := ⟨h.2 loading _, fun l => absurd l later⟩
  outputs := id
  windows := id

theorem beginChannels_orderly (g : Settings) (s : State) : s.Orderly (s.beginChannels g) := by
  have w : s.Orderly (s.withChanW .begin) := withChan_orderly .w fun _ => .inl rfl
  exact .ite (fun _ => w) (fun _ => w.trans (withChan_orderly .x fun _ => .inl rfl))

theorem beginBalance_orderly (s : State) : s.Orderly s.beginBalance := (withBalance_orderly _ s).trans (withFloats_orderly ..)

theorem beginScreen_orderly (g : Settings) (s : State) : s.Orderly (s.beginScreen g) :=
  .ite (fun _ => withScreen_orderly_of_same) (fun _ => .refl s)

/-- Entry to LISTENING, from the state with what starts in either start state begun. -/
theorem enterListening_orderly (g : Settings) (hours : Option Nat) (s : State) :
    ((s.withStart { s.start with phase := .listening, settings := g, listening := .start }).beginCommon .startup hours).Orderly
      (s.enterListening g hours) :=
  (((((beginChannels_orderly g _).trans (beginBalance_orderly _)).trans (beginScreen_orderly g _)).trans
    (queueReport_orderly _)).trans (withCounts_orderly _)).trans (deliver_orderly ..)

/-- Entry to CONFIG_FAULT, from the state with what starts in either start state begun. -/
theorem enterConfigFault_orderly (cause offset : Nat) (hours : Option Nat) (s : State) :
    ((s.withStart { s.start with phase := .configFault, settings := .configFault s.own, listening := .stopped }).beginCommon
      .unconfigured hours).Orderly (s.enterConfigFault cause offset hours) :=
  ((offer_orderly ..).trans (queueReport_orderly _)).trans (deliver_orderly ..)

theorem enterListening_keepsForms (g : Settings) (hours : Option Nat) {s : State} (loading : s.start.phase = .loading) :
    s.KeepsForms (s.enterListening g hours) :=
  (beginCommon_keepsForms _ _ loading (by simp)).trans (enterListening_orderly g hours s).forms

theorem enterConfigFault_keepsForms (cause offset : Nat) (hours : Option Nat) {s : State} (loading : s.start.phase = .loading) :
    s.KeepsForms (s.enterConfigFault cause offset hours) :=
  (beginCommon_keepsForms _ _ loading (by simp)).trans (enterConfigFault_orderly cause offset hours s).forms

theorem leaveStartup_orderly (s : State) : s.Orderly s.leaveStartup := by
  unfold leaveStartup
  split
  · exact enter_orderly ..
  · exact enter_orderly ..
  · exact enterRest_orderly ..

theorem openRake_orderly (s : State) : s.Orderly s.openRake :=
  .ite (fun _ => (enterRake_orderly .rakeIdle).trans (startPending_orderly _)) (fun _ => .refl s)

/-- Entry to OPERATING, from the state with its new phase. -/
theorem opened_orderly (up : State) : up.Orderly up.evalLevelLost.evalRisk.leaveStartup.openRake :=
  (((deliver_orderly ..).trans (evalRisk_orderly _)).trans (leaveStartup_orderly _)).trans (openRake_orderly _)

/-! ## The beginning of a transmission (R70, R78) -/

theorem numberReport_classOrder {l : Link} (h : (l.queue.map (fun e => e.body.cls)).Pairwise (· < ·)) :
    (l.numberReport.queue.map (fun e => e.body.cls)).Pairwise (· < ·) := by
  unfold Link.numberReport
  split
  · split
    · exact h
    · exact map_classOrder (fun e => by split <;> rfl) h
  · exact h

theorem beginAttempt_keepsForms (e : TxEntry) (s : State) : s.KeepsForms (s.beginAttempt e) where
  relays := id
  numbered := id
  spills := id
  view := id
  classes h := by
    unfold beginAttempt
    split
    · exact numberReport_classOrder h
    · exact h
  ownEntry := id
  outputs := id
  windows := id

/-! ## A millisecond -/

theorem advance_entry_state (g : Settings) (t : PeerTable) (p : Station) : ((t.advance g).entry p).state = (t.entry p).state := by
  simp [PeerTable.advance, PeerTable.entry]

theorem advance_view (g : Settings) (w : Window) : (w.advance g).view = .own ↔ w.view = .own := by
  unfold Window.advance WindowView.advance
  cases w.view <;> simp

theorem idle_keepsForms (s : State) : s.KeepsForms s.idle where
  relays := id
  numbered := id
  spills := id
  view h := (advance_view s.cfg s.window).trans h
  classes := id
  ownEntry h := ⟨(advance_entry_state s.cfg s.table s.own).trans h.1, fun l p => (advance_entry_state s.cfg s.table p).trans (h.2 l p)⟩
  outputs := id
  windows := id

/-! ## Every command -/

/-- The commands that are not ordinary keep the forms too. -/
theorem exec_keepsForms (c : Instr) (s : State) : ∃ t, exec c s = .next t ∧ s.KeepsForms t := by
  by_cases ordinary : c.ordinary = true
  case pos =>
    obtain ⟨t, next, orderly⟩ := exec_orderly ordinary s
    exact ⟨t, next, orderly.forms⟩
  cases c
  case fullStart => exact ⟨_, rfl, keepsForms_of_reset _ _ _ _ fun _ => reset_listKept⟩
  case townRestart =>
    refine ⟨_, rfl, ?_⟩
    split
    · exact keepsForms_of_reset _ _ _ _ (SpillMonitor.restart_listKept s.stamp)
    · exact (Orderly.refl s).forms
  case loadingEnd st0 st1 st2 imageReads hoursReads =>
    refine ⟨_, rfl, ?_⟩
    split
    case isTrue loading =>
      have strapped : s.KeepsForms (s.withStart { s.start with station := strapStation st0 st1 st2 }) :=
        withStart_keepsForms rfl fun h => ⟨h.2 loading _, h.2⟩
      dsimp only
      split
      · exact strapped.trans (enterListening_keepsForms _ _ loading)
      · exact strapped.trans (enterConfigFault_keepsForms _ _ _ loading)
    case isFalse => exact (Orderly.refl s).forms
  case listeningEnd =>
    refine ⟨_, rfl, ?_⟩
    split
    case isTrue due =>
      have up : s.KeepsForms (s.withStart { s.start with phase := .operating, listening := .stopped }) :=
        withStart_keepsForms (by simp [lampMask, due.1, cfg]) fun h => ⟨h.1, fun l => nomatch l⟩
      exact up.trans ((opened_orderly _).trans withTable_orderly_of_same).forms
    case isFalse => exact (Orderly.refl s).forms
  case inputLevelChange pin level =>
    have pins : s.KeepsForms (s.withPins (s.pins.set pin level)) := ⟨id, id, id, id, id, id, id, id⟩
    exact ⟨_, rfl, pins.trans (feed_orderly pin level _).forms⟩
  case transmitSlot slot =>
    refine ⟨_, rfl, ?_⟩
    split
    · exact beginAttempt_keepsForms ..
    · exact (Orderly.refl s).forms
  all_goals exact absurd rfl ordinary

/-- Every step keeps every form: the command at the front of the queue, or a millisecond. -/
theorem step_keepsForms {s t : State} (next : step s = .next t) : s.KeepsForms t := by
  unfold step at next
  split at next
  case h_1 c rest _ =>
    obtain ⟨u, run, keeps⟩ := exec_keepsForms c (s.withPending rest)
    obtain rfl : u = t := Host.Outcome.next.inj (run.symm.trans next)
    have front : s.KeepsForms (s.withPending rest) := ⟨id, id, id, id, id, id, id, id⟩
    exact front.trans keeps
  case h_2 =>
    obtain rfl : s.idle = t := Host.Outcome.next.inj next
    exact idle_keepsForms s

end State

/-- Settles O58: each of the three invariants is one of the forms every step keeps. -/
theorem theRecordsStayInOrder : Obligations.TheRecordsStayInOrder :=
  ⟨fun _ _ h next => (State.step_keepsForms next).relays h, fun _ _ h next => (State.step_keepsForms next).numbered h,
    fun _ _ h next => (State.step_keepsForms next).spills h⟩

/-- Settles O59: each of the five invariants is one of the forms every step keeps. -/
theorem theFormsStayWhole : Obligations.TheFormsStayWhole :=
  ⟨fun _ _ h next => (State.step_keepsForms next).view h, fun _ _ h next => (State.step_keepsForms next).classes h,
    fun _ _ h next => (State.step_keepsForms next).ownEntry h, fun _ _ h next => (State.step_keepsForms next).outputs h,
    fun _ _ hw hx next => (State.step_keepsForms next).windows ⟨hw, hx⟩⟩

end Sys2Proof.Machine
end

section
/-! Every command answers a next state and keeps what no command may touch; the expiry of a timer that is not at its limit changes nothing
(O3). -/

namespace Sys2Proof.Machine

namespace State

/-- The expiry of a timer that does not stand at its limit changes nothing: each such command is guarded by the timer (note 1). -/
theorem exec_of_not_atLimit {c : Instr} {s : State} (short : s.atLimit c = false) : exec c s = .next s := by
  cases c
  case windowTimerExpiry =>
    simp only [atLimit] at short
    simp only [exec, execWindowTimerExpiry]
    cases view : s.window.view <;> simp_all [WindowView.isDue]
  case listeningEnd => simp_all [atLimit, exec, execListeningEnd]
  case checkTimerExpiry | faultHoldExpiry => simp_all [atLimit, exec, execCheckTimerExpiry, execFaultHoldExpiry]
  case disagreeTimerExpiry | balanceEvent | invalidHoldExpiry | floatDebounceExpiry =>
    simp_all [atLimit, exec, execDisagreeTimerExpiry, execBalanceEvent, execInvalidHoldExpiry, execFloatDebounceExpiry]
  case runFbFilterExpiry | faultContactDebounceExpiry | selectorContactDebounceExpiry | selectorOffHoldExpiry | lockoutEnd =>
    simp_all [atLimit, exec, execRunFbFilterExpiry, execFaultContactDebounceExpiry, execSelectorContactDebounceExpiry,
      execSelectorOffHoldExpiry, execLockoutEnd]
  case feedbackTimerExpiry | settleTimerExpiry | lossTimerExpiry | minimumRunReached | stopSpacingExpiry | strayRunExpiry
      | staggerTimerExpiry =>
    simp_all [atLimit, exec, execFeedbackTimerExpiry, execSettleTimerExpiry, execLossTimerExpiry, execMinimumRunReached,
      execStopSpacingExpiry, execStrayRunExpiry, execStaggerTimerExpiry]
  case txFailureTimerExpiry | reportTimerExpiry | duplicateTimerExpiry =>
    simp_all [atLimit, exec, execTxFailureTimerExpiry, execReportTimerExpiry, execDuplicateTimerExpiry]
  case entryBecomesStale | entryBecomesLost | lostReleaseExpiry | peerSilenceExpiry | generatorDebounceExpiry =>
    simp_all [atLimit, exec, execEntryBecomesStale, execEntryBecomesLost, execLostReleaseExpiry, execPeerSilenceExpiry,
      execGeneratorDebounceExpiry]
  case patienceRunOut | claimHoldExpiry => simp_all [atLimit, exec, execPatienceRunOut, execClaimHoldExpiry]
  case camFilterExpiry | overloadFilterExpiry | camCheckExpiry | reverseTimerExpiry | pauseTimerExpiry | cycleTimeout | restTimerExpiry
      | intervalTimerExpiry =>
    simp_all [atLimit, exec, execCamFilterExpiry, execOverloadFilterExpiry, execCamCheckExpiry, execReverseTimerExpiry,
      execPauseTimerExpiry, execCycleTimeout, execRestTimerExpiry, execIntervalTimerExpiry]
  case panelAcknowledge | acknowledgeInputReleased | townSilenceExpiry =>
    simp_all [atLimit, exec, execPanelAcknowledge, execAcknowledgeInputReleased, execTownSilenceExpiry]
  all_goals cases short

/-- The waiting commands stay, the pins and the start-up unit's station and settings but for the commands that move them. -/
theorem exec_frame (c : Instr) (s : State) : ∃ t, exec c s = .next t ∧ t.pending = s.pending ∧
    ((∀ pin level, c ≠ .inputLevelChange pin level) → t.pins = s.pins) ∧
    (c ≠ .fullStart → c ≠ .townRestart → (∀ st0 st1 st2 image hours, c ≠ .loadingEnd st0 st1 st2 image hours) →
      t.start.station = s.start.station ∧ t.start.settings = s.start.settings) := by
  by_cases ordinary : c.ordinary = true
  case pos =>
    obtain ⟨t, next, orderly⟩ := exec_orderly ordinary s
    exact ⟨t, next, orderly.pending, fun _ => orderly.pins, fun _ _ _ => by rw [orderly.start]; exact ⟨rfl, rfl⟩⟩
  cases c
  case fullStart => exact ⟨_, rfl, rfl, fun _ => rfl, fun h => absurd rfl h⟩
  case townRestart =>
    refine ⟨_, rfl, ?_⟩
    split
    · exact ⟨rfl, fun _ => rfl, fun _ h => absurd rfl h⟩
    · exact ⟨rfl, fun _ => rfl, fun _ _ _ => ⟨rfl, rfl⟩⟩
  case loadingEnd st0 st1 st2 imageReads hoursReads =>
    refine ⟨_, rfl, ?_⟩
    split
    case isTrue =>
      dsimp only
      split
      · have entered := enterListening_orderly
        exact ⟨(entered _ _ _).pending, fun _ => (entered _ _ _).pins, fun _ _ h => absurd rfl (h _ _ _ _ _)⟩
      · have entered := enterConfigFault_orderly
        exact ⟨(entered _ _ _ _).pending, fun _ => (entered _ _ _ _).pins, fun _ _ h => absurd rfl (h _ _ _ _ _)⟩
    case isFalse => exact ⟨rfl, fun _ => rfl, fun _ _ _ => ⟨rfl, rfl⟩⟩
  case listeningEnd =>
    refine ⟨_, rfl, ?_⟩
    split
    case isTrue =>
      have opened := opened_orderly (s.withStart { s.start with phase := .operating, listening := .stopped })
      have start := opened.start
      refine ⟨opened.pending, fun _ => opened.pins, fun _ _ _ => ?_⟩
      rw [withTable_start, start]
      exact ⟨rfl, rfl⟩
    case isFalse => exact ⟨rfl, fun _ => rfl, fun _ _ _ => ⟨rfl, rfl⟩⟩
  case inputLevelChange pin level =>
    have fed := feed_orderly pin level (s.withPins (s.pins.set pin level))
    exact ⟨_, rfl, fed.pending, fun h => absurd rfl (h pin level),
      fun _ _ _ => ⟨congrArg StartUnit.station fed.start, congrArg StartUnit.settings fed.start⟩⟩
  case transmitSlot slot =>
    refine ⟨_, rfl, ?_⟩
    split <;> exact ⟨rfl, fun _ => rfl, fun _ _ _ => ⟨rfl, rfl⟩⟩
  all_goals exact absurd rfl ordinary

end State

/-- Settles O3: the frame of every command, and the guard of every expiry. -/
theorem everyCommandCompletes : Obligations.EveryCommandCompletes := by
  intro c s
  obtain ⟨t, next, pending, pins, settings⟩ := State.exec_frame c s
  refine ⟨t, next, pending, pins, settings, fun short => ?_⟩
  exact Host.Outcome.next.inj (next.symm.trans (State.exec_of_not_atLimit short))

end Sys2Proof.Machine
end

section
/-! What keeps the contactor safe (R35, R38, R45, R46, R92 to R96): the demand, the counts, R and E are those of the entries and inputs, the
pump is at rest outside OPERATING, and the contactor is closed by STARTING and RUNNING alone, which the low-low float shuts out. -/

namespace Sys2Proof.Machine

/-- Kept without what it says of LOADING. -/
structure State.Sound (s : State) : Prop where
  quiet : s.PumpQuiet
  demand : s.DemandCurrent
  limited : s.DemandLimited
  counts : s.CountsCurrent
  safe : s.ContactorSafe

theorem State.kept_iff (s : State) : s.Kept ↔ s.LoadingAtReset ∧ s.Sound :=
  ⟨fun ⟨reset, quiet, demand, limited, counts, safe⟩ => ⟨reset, quiet, demand, limited, counts, safe⟩,
    fun ⟨reset, quiet, demand, limited, counts, safe⟩ => ⟨reset, quiet, demand, limited, counts, safe⟩⟩

/-- Everything that `Sound` reads is as before. -/
structure State.Calm (s t : State) : Prop where
  phase : t.start.phase = s.start.phase
  settings : t.start.settings = s.start.settings
  row : t.demandRow = s.demandRow
  demand : t.balance.demand = s.balance.demand
  limit : t.balance.limit = s.balance.limit
  effective : t.balance.effective = s.balance.effective
  drawing : t.table.drawing = s.table.drawing
  available : t.table.available = s.table.available
  supply : t.table.supply = s.table.supply
  screenLimit : t.table.screenLimit = s.table.screenLimit
  isolated : t.table.isolated = s.table.isolated
  drawingCount : t.drawingCount = s.drawingCount
  availableCount : t.availableCount = s.availableCount
  houseSupply : t.houseSupply = s.houseSupply
  slim : t.slim = s.slim
  state : t.pump.state = s.pump.state
  contactor : t.pump.contactor = s.pump.contactor
  lowLow : t.lowLowInForce = s.lowLowInForce

namespace State

namespace Calm

variable {s t u : State}

theorem refl (s : State) : s.Calm s :=
  ⟨rfl, rfl, rfl, rfl, rfl, rfl, rfl, rfl, rfl, rfl, rfl, rfl, rfl, rfl, rfl, rfl, rfl, rfl⟩

theorem trans (h : s.Calm t) (k : t.Calm u) : s.Calm u :=
  ⟨k.phase.trans h.phase, k.settings.trans h.settings, k.row.trans h.row, k.demand.trans h.demand, k.limit.trans h.limit,
    k.effective.trans h.effective, k.drawing.trans h.drawing, k.available.trans h.available, k.supply.trans h.supply,
    k.screenLimit.trans h.screenLimit, k.isolated.trans h.isolated, k.drawingCount.trans h.drawingCount,
    k.availableCount.trans h.availableCount, k.houseSupply.trans h.houseSupply, k.slim.trans h.slim, k.state.trans h.state,
    k.contactor.trans h.contactor, k.lowLow.trans h.lowLow⟩

theorem ite {p : Prop} [Decidable p] (h : p → s.Calm t) (k : ¬ p → s.Calm u) : s.Calm (if p then t else u) := by
  split
  case isTrue hp => exact h hp
  case isFalse hp => exact k hp

theorem working (h : s.Calm t) : t.working = s.working := by rw [State.working, h.phase, State.working]

theorem operating (h : s.Calm t) : t.operating = s.operating := by rw [State.operating, h.phase, State.operating]

theorem wanted (h : s.Calm t) : t.wanted = s.wanted := by
  simp only [State.wanted, h.isolated, State.cfg, h.settings, h.demand, h.effective, h.drawing]
  rfl

/-- What is calm keeps each part of soundness. -/
theorem quiet (h : s.Calm t) (k : s.PumpQuiet) : t.PumpQuiet := by rw [PumpQuiet, h.operating, h.state]; exact k

theorem demandCurrent (h : s.Calm t) (k : s.DemandCurrent) : t.DemandCurrent := by
  rw [DemandCurrent, h.working, h.demand, h.row]; exact k

theorem safe (h : s.Calm t) (k : s.ContactorSafe) : t.ContactorSafe := by
  rw [ContactorSafe, ContactorFollows, h.contactor, h.state, h.lowLow]; exact k

theorem sound (h : s.Calm t) (k : s.Sound) : t.Sound where
  quiet := h.quiet k.quiet
  demand := h.demandCurrent k.demand
  limited := by
    rw [DemandLimited, h.working, h.effective, h.demand, h.limit, h.screenLimit, h.available, h.supply, cfg, h.settings]
    exact k.limited
  counts := by
    rw [CountsCurrent, h.working, h.drawing, h.available, h.supply, h.screenLimit, h.drawingCount, h.availableCount, h.houseSupply, h.slim]
    exact k.counts
  safe := h.safe k.safe

end Calm

/-! ## Calm updates -/

theorem withClock_calm (c : Clock) (s : State) : s.Calm (s.withClock c) :=
  ⟨rfl, rfl, rfl, rfl, rfl, rfl, rfl, rfl, rfl, rfl, rfl, rfl, rfl, rfl, rfl, rfl, rfl, rfl⟩

theorem withChan_calm (ch : ChannelId) (c : Channel) (s : State) : s.Calm (s.withChan ch c) := by
  cases ch <;> exact ⟨rfl, rfl, rfl, rfl, rfl, rfl, rfl, rfl, rfl, rfl, rfl, rfl, rfl, rfl, rfl, rfl, rfl, rfl⟩

theorem withLink_calm (l : Link) (s : State) : s.Calm (s.withLink l) :=
  ⟨rfl, rfl, rfl, rfl, rfl, rfl, rfl, rfl, rfl, rfl, rfl, rfl, rfl, rfl, rfl, rfl, rfl, rfl⟩

theorem withWindow_calm (w : Window) (s : State) : s.Calm (s.withWindow w) :=
  ⟨rfl, rfl, rfl, rfl, rfl, rfl, rfl, rfl, rfl, rfl, rfl, rfl, rfl, rfl, rfl, rfl, rfl, rfl⟩

theorem withSpill_calm (m : SpillMonitor) (s : State) : s.Calm (s.withSpill m) :=
  ⟨rfl, rfl, rfl, rfl, rfl, rfl, rfl, rfl, rfl, rfl, rfl, rfl, rfl, rfl, rfl, rfl, rfl, rfl⟩

theorem withAlarms_calm (a : Alarms) (s : State) : s.Calm (s.withAlarms a) :=
  ⟨rfl, rfl, rfl, rfl, rfl, rfl, rfl, rfl, rfl, rfl, rfl, rfl, rfl, rfl, rfl, rfl, rfl, rfl⟩

theorem withEvents_calm (q : EventQueue) (s : State) : s.Calm (s.withEvents q) :=
  ⟨rfl, rfl, rfl, rfl, rfl, rfl, rfl, rfl, rfl, rfl, rfl, rfl, rfl, rfl, rfl, rfl, rfl, rfl⟩

theorem withTown_calm (t : Town) (s : State) : s.Calm (s.withTown t) :=
  ⟨rfl, rfl, rfl, rfl, rfl, rfl, rfl, rfl, rfl, rfl, rfl, rfl, rfl, rfl, rfl, rfl, rfl, rfl⟩

theorem withScreen_calm {u : Screen} {s : State} (limit : u.limit = s.screen.limit := by rfl) : s.Calm (s.withScreen u) :=
  ⟨rfl, rfl, rfl, rfl, rfl, rfl, rfl, rfl, rfl, rfl, rfl, rfl, rfl, rfl, by simp only [slim, withScreen_screen, limit]; rfl,
    rfl, rfl, rfl⟩

theorem withPump_calm {p : Pump} {s : State} (state : p.state = s.pump.state := by rfl)
    (contactor : p.contactor = s.pump.contactor := by rfl) (runFb : p.runFb.active = s.pump.runFb.active := by rfl) :
    s.Calm (s.withPump p) :=
  ⟨rfl, rfl, rfl, rfl, rfl, rfl, rfl, rfl, rfl, rfl, rfl, by simp only [drawingCount, withPump_pump, state, runFb]; rfl,
    by simp only [availableCount, withPump_pump, state]; rfl, rfl, rfl, state, contactor, rfl⟩

/-- The table changes outside its entries, its derived values, the isolated flag and the generator contact's state. -/
theorem withTable_calm {v : PeerTable} {s : State} (entries : v.entries = s.table.entries := by rfl)
    (isolated : v.isolated = s.table.isolated := by rfl) (generator : v.generator.active = s.table.generator.active := by rfl)
    (drawing : v.drawing = s.table.drawing := by rfl) (available : v.available = s.table.available := by rfl)
    (supply : v.supply = s.table.supply := by rfl) (screenLimit : v.screenLimit = s.table.screenLimit := by rfl) :
    s.Calm (s.withTable v) where
  phase := rfl
  settings := rfl
  row := rfl
  demand := rfl
  limit := rfl
  effective := rfl
  drawing := drawing
  available := available
  supply := supply
  screenLimit := screenLimit
  isolated := isolated
  drawingCount := by simp only [drawingCount, PeerTable.count, PeerTable.list, withTable_table, entries]; rfl
  availableCount := by simp only [availableCount, PeerTable.count, PeerTable.list, withTable_table, entries, isolated]; rfl
  houseSupply := by simp only [houseSupply, PeerTable.list, withTable_table, entries, generator]; rfl
  slim := by simp only [slim, PeerTable.list, withTable_table, entries, isolated]; rfl
  state := rfl
  contactor := rfl
  lowLow := rfl

/-- The balance unit changes in what neither D nor the limits read. -/
theorem withBalance_calm {b : Balance} {s : State} (row : (s.withBalance b).demandRow = s.demandRow := by rfl)
    (demand : b.demand = s.balance.demand := by rfl) (limit : b.limit = s.balance.limit := by rfl)
    (effective : b.effective = s.balance.effective := by rfl) : s.Calm (s.withBalance b) :=
  ⟨rfl, rfl, row, demand, limit, effective, rfl, rfl, rfl, rfl, rfl, rfl, rfl, rfl, rfl, rfl, rfl, rfl⟩

theorem withFloats_calm {f : Floats} {s : State} (highHigh : f.highHigh.active = s.floats.highHigh.active := by rfl)
    (lowLow : f.lowLow.active = s.floats.lowLow.active := by rfl) : s.Calm (s.withFloats f) :=
  have low : (s.withFloats f).lowLowInForce = s.lowLowInForce := by simp only [lowLowInForce, withFloats_floats, highHigh, lowLow]
  have high : (s.withFloats f).highHighInForce = s.highHighInForce := by simp only [highHighInForce, withFloats_floats, highHigh, lowLow]
  ⟨rfl, rfl, by rw [demandRow, low, high]; rfl, rfl, rfl, rfl, rfl, rfl, rfl, rfl, rfl, rfl, rfl, rfl, rfl, rfl, rfl, low⟩

theorem offerFrom_calm (source : Station) (kind : EventKind) (subject : Nat) (values : List Word) (s : State) :
    s.Calm (s.offerFrom source kind subject values) := by
  obtain ⟨q, h⟩ := offerFrom_eq source kind subject values s
  rw [h]
  exact withEvents_calm q s

theorem offer_calm (kind : EventKind) (subject : Nat) (values : List Word) (s : State) : s.Calm (s.offer kind subject values) :=
  offerFrom_calm ..

theorem deliver_calm (p : AlarmPoint) (raw : Bool) (s : State) : s.Calm (s.deliver p raw) := by
  obtain ⟨a, q, h⟩ := deliver_eq p raw s
  rw [h]
  exact (withAlarms_calm a s).trans (withEvents_calm q _)

theorem ackPoint_calm (cause : Nat) (s : State) (i : Fin 25) : s.Calm (s.ackPoint cause i) := by
  obtain ⟨a, q, h⟩ := ackPoint_eq cause s i
  rw [h]
  exact (withAlarms_calm a s).trans (withEvents_calm q _)

theorem ackAll_calm (cause : Nat) (s : State) : s.Calm (s.ackAll cause) := by
  obtain ⟨a, q, h⟩ := ackAll_eq cause s
  rw [h]
  exact (withAlarms_calm a s).trans (withEvents_calm q _)

theorem offerFrame_calm (b : TxBody) (s : State) : s.Calm (s.offerFrame b) := withLink_calm _ s

theorem queueReport_calm (s : State) : s.Calm s.queueReport := .ite (fun _ => withLink_calm _ s) (fun _ => .refl s)

theorem endClaim_calm (s : State) : s.Calm s.endClaim := withWindow_calm _ s

theorem closeClaim_calm (outcome : ClaimOutcome) (s : State) : s.Calm (s.closeClaim outcome) := by
  unfold closeClaim
  split
  · exact .refl s
  · exact .ite (fun _ => withLink_calm _ s) (fun _ => (endClaim_calm s).trans (withLink_calm ..))
  · exact (endClaim_calm s).trans (offerFrame_calm ..)
  · exact (endClaim_calm s).trans (offerFrame_calm ..)

theorem closeOwnClaim_calm (outcome : ClaimOutcome) (s : State) : s.Calm (s.closeOwnClaim outcome) :=
  .ite (fun _ => closeClaim_calm ..) (fun _ => .refl s)

theorem evalRisk_calm (s : State) : s.Calm s.evalRisk := deliver_calm ..

/-! ## The counts -/

/-- What the sequencer moves leaves D's row and the floats. -/
theorem Moves.demandRow {s t : State} (h : s.Moves t) : t.demandRow = s.demandRow := by
  unfold State.demandRow State.lowLowInForce State.highHighInForce
  rw [h.floats, h.cfg, h.balance]

theorem Moves.demandCurrent {s t : State} (h : s.Moves t) (k : s.DemandCurrent) : t.DemandCurrent := by
  rw [DemandCurrent, h.working, h.demand, h.demandRow]; exact k

theorem Moves.lowLow {s t : State} (h : s.Moves t) : t.lowLowInForce = s.lowLowInForce := by
  rw [State.lowLowInForce, h.floats, State.lowLowInForce]

/-- The recount leaves what the counts are formed from. -/
theorem withCounts_sources (s : State) : s.withCounts.drawingCount = s.drawingCount ∧ s.withCounts.availableCount = s.availableCount ∧
    s.withCounts.houseSupply = s.houseSupply ∧ s.withCounts.slim = s.slim := by
  unfold withCounts
  split <;> exact ⟨rfl, rfl, rfl, rfl⟩

/-- After a recount the counts, R and E are current, whatever they were (R37, R38, R92 to R96). -/
theorem withCounts_sound {s : State} (quiet : s.PumpQuiet) (demand : s.DemandCurrent) (safe : s.ContactorSafe) : s.withCounts.Sound := by
  have moves := withCounts_moves s
  obtain ⟨drawn, counted, fed, slim⟩ := withCounts_sources s
  refine ⟨?_, moves.demandCurrent demand, fun working => ?_, fun working => ?_, ?_⟩
  · rw [PumpQuiet, moves.operating, withCounts_pump]; exact quiet
  · have now := withCounts_counts (s := s) (by rw [← moves.working]; exact working)
    obtain ⟨_, available, supply, screenLimit, limit, effective⟩ := now
    rw [effective, limit, screenLimit, available, supply, moves.demand, moves.cfg]
    exact ⟨rfl, rfl⟩
  · have now := withCounts_counts (s := s) (by rw [← moves.working]; exact working)
    obtain ⟨drawing, available, supply, screenLimit, -, -⟩ := now
    rw [drawn, counted, fed, slim]
    exact ⟨drawing, available, supply, screenLimit⟩
  · rw [ContactorSafe, ContactorFollows, withCounts_pump, moves.lowLow]; exact safe

end State

end Sys2Proof.Machine
end

section
/-! The sequencer's transitions keep the contactor safe (R46, R50 to R65). -/

namespace Sys2Proof.Machine

namespace State

/-! ## Where the pump can be -/

theorem working_of_operating {s : State} (h : s.operating = true) : s.working = true := by
  simp only [operating] at h
  simp [working, h]

/-- Outside OPERATING the pump is in STARTUP or UNCONFIGURED, so any other state is one of OPERATING (R45). -/
theorem Sound.operating_of_state {s : State} (h : s.Sound) (startup : s.pump.state ≠ .startup) (unconfigured : s.pump.state ≠ .unconfigured) :
    s.operating = true := by
  cases ho : s.operating
  case true => rfl
  case false =>
    rcases h.quiet ho with state | state
    · exact absurd state startup
    · exact absurd state unconfigured

/-- In force, the low-low float makes D 0, so E is 0 and no pump is wanted (R34, R35, R38, R50, R64). -/
theorem Sound.lowLow_of_wanted {s : State} (h : s.Sound) (working : s.working = true) (wanted : s.wanted = true) :
    s.lowLowInForce = false := by
  cases low : s.lowLowInForce
  case false => rfl
  case true =>
    have demand : s.balance.demand = 0 := by rw [h.demand working, demandRow, low]; rfl
    have effective : s.balance.effective = 0 := by
      rw [(h.limited working).1, demand]; simp
    simp [State.wanted, effective] at wanted

/-- A pump whose contactor is open is not kept from its states by the low-low float. -/
theorem Sound.lowLow_of_closed {s : State} (h : s.Sound) (closed : s.pump.state = .starting ∨ s.pump.state = .running) :
    s.lowLowInForce = false := by
  cases low : s.lowLowInForce
  case false => rfl
  case true =>
    have open_ := h.safe.2 low
    rw [h.safe.1] at open_
    rcases closed with state | state <;> simp [state] at open_

/-! ## Entry to a state -/

/-- Entry to a state recounts, and closes the contactor in STARTING and RUNNING alone (R46, R96). -/
theorem enter_sound {st : PumpState} {s : State} (operating : s.operating = true) (demand : s.DemandCurrent)
    (shut : (st == .starting || st == .running) = true → s.lowLowInForce = false := by simp) : (s.enter st).Sound := by
  have moves : s.Moves (((s.withPump (s.pump.enter st)).withWindow
      { s.window with patience := if st = .waiting then .start else .stopped }).queueReport) :=
    (((Moves.refl s).withPump _).withWindow _).trans (queueReport_moves _)
  refine (evalRisk_calm _).sound (withCounts_sound ?_ (moves.demandCurrent demand) ⟨?_, fun low => ?_⟩)
  · intro h
    rw [moves.operating, operating] at h
    cases h
  · rw [ContactorFollows, queueReport_pump]; rfl
  · rw [moves.lowLow] at low
    rw [queueReport_pump, withWindow_pump, withPump_pump, Pump.enter_contactor]
    exact Bool.eq_false_iff.mpr fun closed => by rw [shut closed] at low; cases low

theorem trip_sound (cause : TripCause) {s : State} (operating : s.operating = true) (demand : s.DemandCurrent) : (s.trip cause).Sound := by
  have shown (l : State) : l.Calm (if cause = .pumpFault then l else l.deliver (tripPoint cause) true) :=
    .ite (fun _ => .refl l) (fun _ => deliver_calm ..)
  have calm : s.Calm ((if cause = .pumpFault then s.withPump { s.pump with latch := some cause }
      else (s.withPump { s.pump with latch := some cause }).deliver (tripPoint cause) true).closeOwnClaim .failed) :=
    (Calm.trans (withPump_calm) (shown _)).trans (closeOwnClaim_calm ..)
  exact (offer_calm ..).sound (enter_sound (by rw [calm.operating]; exact operating) (calm.demandCurrent demand))

theorem enterRest_sound {st : PumpState} {s : State} (operating : s.operating = true) (demand : s.DemandCurrent)
    (rest : (st == .starting || st == .running) = true → s.lowLowInForce = false := by simp) : (s.enterRest st).Sound := by
  have moves := enter_moves st s
  unfold enterRest
  dsimp only
  split
  · exact trip_sound _ (by rw [moves.operating]; exact operating) (moves.demandCurrent demand)
  · exact enter_sound operating demand rest

theorem completeStop_sound {s : State} (operating : s.operating = true) (demand : s.DemandCurrent) : s.completeStop.Sound := by
  unfold completeStop
  split
  · exact enterRest_sound operating demand
  · exact enterRest_sound operating demand

theorem stopPump_sound (cause : StopCause) {s : State} (operating : s.operating = true) (demand : s.DemandCurrent) :
    (s.stopPump cause).Sound := by
  have closed := closeOwnClaim_calm .withdrawn s
  have stopping : (((s.closeOwnClaim .withdrawn).enter .stopping).offerStopped cause).Sound :=
    (offer_calm ..).sound (enter_sound (by rw [closed.operating]; exact operating) (closed.demandCurrent demand))
  have moves : s.Moves (((s.closeOwnClaim .withdrawn).enter .stopping).offerStopped cause) :=
    ((closeOwnClaim_moves _ s).trans (enter_moves _ _)).offer _ _ _
  unfold stopPump
  dsimp only
  split
  · exact stopping
  · exact completeStop_sound (by rw [moves.operating]; exact operating) (moves.demandCurrent demand)

theorem enterStarting_sound (viaClaim : Bool) {s : State} (operating : s.operating = true) (demand : s.DemandCurrent)
    (float : s.lowLowInForce = false) : (s.enterStarting viaClaim).Sound := by
  have recorded := withWindow_calm { s.window with viaClaim := viaClaim } s
  exact enter_sound (by rw [recorded.operating]; exact operating) (recorded.demandCurrent demand)
    (fun _ => by rw [recorded.lowLow]; exact float)

theorem openClaim_sound {s : State} (operating : s.operating = true) (demand : s.DemandCurrent) : s.openClaim.Sound := by
  have opened (w : Window) (b : TxBody) : s.Calm ((s.withWindow w).offerFrame b) := (withWindow_calm w s).trans (offerFrame_calm ..)
  exact enter_sound (by rw [(opened _ _).operating]; exact operating) ((opened _ _).demandCurrent demand)

theorem operating_of_mayClaim {s : State} (h : s.mayClaim = true) : s.operating = true := by
  simp only [mayClaim, Bool.and_eq_true] at h
  exact h.1.1.1.2

theorem evalClaim_sound {s : State} (h : s.Sound) : s.evalClaim.Sound := by
  unfold evalClaim
  split
  case isTrue may => exact openClaim_sound (operating_of_mayClaim may) h.demand
  case isFalse => exact h

theorem beginStagger_sound {s : State} (h : s.Sound) (operating : s.operating = true) (wanted : s.wanted = true) :
    s.beginStagger.Sound := by
  unfold beginStagger
  split
  · exact enterStarting_sound _ operating h.demand (h.lowLow_of_wanted (working_of_operating operating) wanted)
  · exact (withPump_calm (s := s)).sound h

theorem enterWaiting_sound {s : State} (operating : s.operating = true) (demand : s.DemandCurrent) : s.enterWaiting.Sound := by
  have waiting : (s.enter .waiting).Sound := enter_sound operating demand
  have still : (s.enter .waiting).operating = true := by rw [(enter_moves _ s).operating]; exact operating
  unfold enterWaiting
  dsimp only
  split
  case isTrue wanted =>
    split
    · exact beginStagger_sound waiting still wanted
    · exact evalClaim_sound waiting
  case isFalse => exact enter_sound still waiting.demand

theorem enterIdle_sound {s : State} (operating : s.operating = true) (demand : s.DemandCurrent) : s.enterIdle.Sound := by
  have idle : (s.enter .idle).Sound := enter_sound operating demand
  unfold enterIdle
  dsimp only
  split
  · exact enterWaiting_sound (by rw [(enter_moves _ s).operating]; exact operating) idle.demand
  · exact idle

theorem endLockout_sound {s : State} (h : s.Sound) : s.endLockout.Sound := by
  unfold endLockout
  split
  case isTrue state => exact enterIdle_sound (h.operating_of_state (by simp [state]) (by simp [state])) h.demand
  case isFalse => exact h

theorem checkLockout_sound {s : State} (h : s.Sound) : s.checkLockout.Sound := by
  unfold checkLockout
  split
  case isTrue state => exact enterIdle_sound (h.operating_of_state (by simp [state.1]) (by simp [state.1])) h.demand
  case isFalse => exact h

theorem immediateStop_sound {s : State} (h : s.Sound) : s.immediateStop.Sound := by
  unfold immediateStop
  split
  case isTrue state =>
    have operating := h.operating_of_state (by simp [state]) (by simp [state])
    split
    · exact stopPump_sound _ operating h.demand
    · split
      · exact stopPump_sound _ operating h.demand
      · exact h
  case isFalse => exact h

theorem dutyStop_sound {s : State} (h : s.Sound) : s.dutyStop.Sound := by
  unfold dutyStop
  generalize (if s.table.isolated then s.isolatedStopHolds else s.stopRuleHolds) = holds
  split
  case isTrue state => exact stopPump_sound _ (h.operating_of_state (by simp [state.1]) (by simp [state.1])) h.demand
  case isFalse => exact h

theorem onDemand_sound {s : State} (h : s.Sound) : s.onDemand.Sound := by
  unfold onDemand
  split
  case h_1 state =>
    split
    · exact enterWaiting_sound (h.operating_of_state (by simp [state]) (by simp [state])) h.demand
    · exact h
  case h_2 state =>
    split
    · exact h
    · exact enter_sound (h.operating_of_state (by simp [state]) (by simp [state])) h.demand
  case h_3 => exact dutyStop_sound (immediateStop_sound h)
  case h_4 => exact h

theorem handOn_sound (before : State) {after : State} (h : after.Sound) : (before.handOn after).Sound := by
  refine (evalRisk_calm _).sound ?_
  split
  · exact onDemand_sound h
  · exact h

/-- A recount needs no count to be current before it. -/
theorem recount_sound {s : State} (quiet : s.PumpQuiet) (demand : s.DemandCurrent) (safe : s.ContactorSafe) : s.recount.Sound :=
  handOn_sound s (withCounts_sound quiet demand safe)

theorem withDemand_moves (s : State) : s.withDemand.start = s.start ∧ s.withDemand.pump = s.pump ∧ s.withDemand.floats = s.floats := by
  unfold withDemand
  split <;> exact ⟨rfl, rfl, rfl⟩

theorem withDemand_current (s : State) : s.withDemand.DemandCurrent := by
  unfold withDemand
  split
  case isTrue => exact fun _ => rfl
  case isFalse idle => exact fun working => absurd working idle

/-- A new D needs neither D nor a count to be current before it. -/
theorem redemand_sound {s : State} (quiet : s.PumpQuiet) (safe : s.ContactorSafe) : s.redemand.Sound := by
  obtain ⟨start, pump, floats⟩ := withDemand_moves s
  refine handOn_sound s (withCounts_sound ?_ (withDemand_current s) ?_)
  · rw [PumpQuiet, State.operating, start, pump]; exact quiet
  · rw [ContactorSafe, ContactorFollows, lowLowInForce, pump, floats]; exact safe

theorem onIsolation_sound {s : State} (h : s.Sound) : s.onIsolation.Sound := by
  unfold onIsolation
  split
  · split
    case h_1 state =>
      have operating := h.operating_of_state (by simp [state]) (by simp [state])
      split
      case isTrue wanted => exact beginStagger_sound h operating wanted
      case isFalse => exact enter_sound operating h.demand
    case h_2 state =>
      have closed := closeOwnClaim_calm .withdrawn s
      exact enterIdle_sound (by rw [closed.operating]; exact h.operating_of_state (by simp [state]) (by simp [state]))
        (closed.demandCurrent h.demand)
    case h_3 => exact h
  · split
    case h_1 state =>
      have plain : s.Calm (s.withPump { s.pump with stagger := .stopped }) := withPump_calm
      dsimp only
      split
      · exact evalClaim_sound (plain.sound h)
      · exact enter_sound (by rw [plain.operating]; exact h.operating_of_state (by simp [state]) (by simp [state]))
          (plain.demandCurrent h.demand)
    case h_2 => exact h

theorem setIsolated_sound (flag : Bool) (cause : IsolationCause) {s : State} (h : s.Sound) : (s.setIsolated flag cause).Sound := by
  unfold setIsolated
  dsimp only
  split
  case isTrue same => exact (withTable_calm (isolated := same.symm)).sound h
  case isFalse => exact (deliver_calm ..).sound (onIsolation_sound (recount_sound h.quiet h.demand h.safe))

/-! ## The trip latch, the inhibit flag and the selector -/

theorem clearLatch_calm (s : State) : s.Calm s.clearLatch := by
  unfold clearLatch
  split
  · exact .refl s
  · exact Calm.trans (withPump_calm) (.ite (fun _ => .refl _) (fun _ => deliver_calm ..))

theorem resetTrip_sound {s : State} (h : s.Sound) : s.resetTrip.Sound := by
  have cleared := (clearLatch_calm s).sound h
  unfold resetTrip
  split
  · dsimp only
    split
    case isTrue state => exact completeStop_sound (cleared.operating_of_state (by simp [state]) (by simp [state])) cleared.demand
    case isFalse => exact cleared
  · exact h

theorem inhibitPump_sound {s : State} (h : s.Sound) : s.inhibitPump.Sound := by
  have flagged : (s.withPump { s.pump with inhibit := true }).Sound := (withPump_calm (s := s)).sound h
  have operating (startup : s.pump.state ≠ .startup) (unconfigured : s.pump.state ≠ .unconfigured) :
      (s.withPump { s.pump with inhibit := true }).operating = true := h.operating_of_state startup unconfigured
  unfold inhibitPump
  split
  · exact h
  · dsimp only
    split
    case h_1 state => exact enterRest_sound (operating (by simp [state]) (by simp [state])) flagged.demand
    case h_2 state => exact enterRest_sound (operating (by simp [state]) (by simp [state])) flagged.demand
    case h_3 state => exact enterRest_sound (operating (by simp [state]) (by simp [state])) flagged.demand
    case h_4 state =>
      have closed := closeOwnClaim_calm .withdrawn (s.withPump { s.pump with inhibit := true })
      exact enterRest_sound (by rw [closed.operating]; exact operating (by simp [state]) (by simp [state]))
        (closed.demandCurrent flagged.demand)
    case h_5 state => exact stopPump_sound _ (operating (by simp [state]) (by simp [state])) flagged.demand
    case h_6 state => exact stopPump_sound _ (operating (by simp [state]) (by simp [state])) flagged.demand
    case h_7 => exact flagged

theorem releasePump_sound {s : State} (h : s.Sound) : s.releasePump.Sound := by
  have flagged : (s.withPump { s.pump with inhibit := false }).Sound := (withPump_calm (s := s)).sound h
  unfold releasePump
  split
  · dsimp only
    split
    case isTrue state =>
      have operating : (s.withPump { s.pump with inhibit := false }).operating = true :=
        h.operating_of_state (by simp [state]) (by simp [state])
      exact enterRest_sound operating flagged.demand
    case isFalse => exact flagged
  · exact h

theorem leaveAuto_sound {st : PumpState} {s : State} (operating : s.operating = true) (demand : s.DemandCurrent)
    (rest : (st == .starting || st == .running) = false := by rfl) : (s.leaveAuto st).Sound := by
  have closed := closeOwnClaim_calm .withdrawn s
  have left : ((s.closeOwnClaim .withdrawn).enter st).Sound :=
    enter_sound (by rw [closed.operating]; exact operating) (closed.demandCurrent demand) (by simp [rest])
  unfold leaveAuto
  dsimp only
  split
  · exact (offer_calm ..).sound left
  · exact left

theorem enterAuto_sound (old : Position) {s : State} (operating : s.operating = true) (demand : s.DemandCurrent) :
    (s.enterAuto old).Sound := by
  have reset : s.Calm (if old = .off ∧ s.mayReset = true then s.clearLatch else s) := .ite (fun _ => clearLatch_calm s) (fun _ => .refl s)
  unfold enterAuto
  dsimp only
  generalize (if old = .off ∧ s.mayReset = true then s.clearLatch else s) = r at reset ⊢
  have still : r.operating = true := by rw [reset.operating]; exact operating
  have current := reset.demandCurrent demand
  split
  · exact enter_sound still current
  · split
    · exact trip_sound _ still current
    · split
      · exact enterRest_sound still current
      · exact enterRest_sound still current

theorem setPosition_sound (pos : Position) {s : State} (h : s.Sound) : (s.setPosition pos).Sound := by
  have moved : (s.withPump { s.pump with position := pos }).Sound := (withPump_calm (s := s)).sound h
  unfold setPosition
  split
  · exact h
  · dsimp only
    split
    case isTrue operating =>
      have still : (s.withPump { s.pump with position := pos }).operating = true := operating
      split
      · exact leaveAuto_sound still moved.demand
      · exact leaveAuto_sound still moved.demand
      · exact enter_sound still moved.demand
      · exact enter_sound still moved.demand
      · exact enterAuto_sound _ still moved.demand
      · exact moved
    case isFalse => exact moved

theorem takeOff_sound {s : State} (h : s.Sound) : s.takeOff.Sound :=
  setPosition_sound _ ((Calm.trans (withPump_calm) (deliver_calm ..)).sound h)

theorem settleOff_sound {s : State} (h : s.Sound) : s.settleOff.Sound := by
  unfold settleOff
  split
  · exact takeOff_sound h
  · exact h

end State

end Sys2Proof.Machine
end

section
/-! The other blocks keep the contactor safe: most of their operations change nothing the contactor depends on, the rest end in a recount. -/

namespace Sys2Proof.Machine

/-- A level that reaches a filter leaves its state, whatever its timer does. -/
@[simp] theorem Filter.feed_active (raw : Bool) (f : Filter) : (f.feed raw).active = f.active := by
  unfold Filter.feed
  split
  · rfl
  · split <;> rfl

namespace State

/-! ## Operations that change nothing the contactor depends on -/

theorem jamRake_calm (s : State) : s.Calm s.jamRake :=
  (Calm.trans (withScreen_calm) (deliver_calm ..)).trans (offer_calm ..)

theorem faultRake_calm (cause : RakeFaultCause) (s : State) : s.Calm (s.faultRake cause) :=
  (Calm.trans (withScreen_calm) (deliver_calm ..)).trans (offer_calm ..)

theorem countOverload_calm (s : State) : s.Calm (s.withScreen s.screen.countOverload) := withScreen_calm

theorem overloadForward_calm (s : State) : s.Calm s.overloadForward :=
  (countOverload_calm s).trans (.ite (fun _ => jamRake_calm _) (fun _ => withScreen_calm))

theorem startCycle_calm (cause : RakeCause) (s : State) : s.Calm (s.startCycle cause) :=
  Calm.trans (withScreen_calm) (.ite (fun _ => overloadForward_calm _) (fun _ => .refl _))

theorem trigger_calm (cause : RakeCause) (s : State) : s.Calm (s.trigger cause) :=
  .ite (fun _ => startCycle_calm cause s) (fun _ => withScreen_calm)

theorem startPending_calm (s : State) : s.Calm s.startPending := .ite (fun _ => startCycle_calm _ s) (fun _ => .refl s)

theorem checkCam_calm (s : State) : s.Calm s.checkCam := .ite (fun _ => faultRake_calm _ s) (fun _ => withScreen_calm)

theorem rakeNow_calm (s : State) : s.Calm s.rakeNow := .ite (fun _ => trigger_calm ..) (fun _ => .refl s)

theorem resetRake_calm (s : State) : s.Calm s.resetRake :=
  .ite (fun _ => (((Calm.trans (withScreen_calm) (deliver_calm ..))).trans (deliver_calm ..)).trans (startPending_calm _)) (fun _ => .refl s)

theorem setClock_calm (source : Station) (subject : Nat) (seconds : Word) (s : State) : s.Calm (s.setClock source subject seconds) :=
  (withClock_calm _ s).trans (offerFrom_calm ..)

theorem offerBalanceLow_calm (before : Balance) (outflow : Nat) (s : State) : s.Calm (s.offerBalanceLow before outflow) := by
  unfold offerBalanceLow
  split
  · exact .ite (fun _ => offer_calm ..) (fun _ => .refl s)
  · exact .refl s

theorem feed_calm (pin : Pin) (v : Bool) (s : State) : s.Calm (s.feed pin v) := by
  cases pin with
  | dhh | dll => exact .ite (fun _ => withFloats_calm (by simp [Floats.feed]) (by simp [Floats.feed])) (fun _ => .refl s)
  | drun | dflt | dsh | dsa => exact .ite (fun _ => withPump_calm (runFb := by simp [Pump.feed])) (fun _ => .refl s)
  | dcam | dovl => exact .ite (fun _ => withScreen_calm) (fun _ => .refl s)
  | dgen => exact .ite (fun _ => withTable_calm (generator := by simp)) (fun _ => .refl s)
  | dack => exact .ite (fun _ => withAlarms_calm _ s) (fun _ => .refl s)

theorem offerSpillEvents_calm (before : SpillState) (s : State) : s.Calm (s.offerSpillEvents before) := by
  unfold offerSpillEvents
  split
  · exact offer_calm ..
  · exact offer_calm ..
  · exact .refl s

theorem freeWindow_calm (s : State) : s.Calm s.freeWindow := withWindow_calm _ s

theorem holdWindow_calm (holder : Station) (number : Option Byte) (best : DutyKey) (s : State) :
    s.Calm (s.holdWindow holder number best) := withWindow_calm _ s

theorem claimSent_calm (s : State) : s.Calm s.claimSent := .ite (fun _ => withWindow_calm _ s) (fun _ => .refl s)

theorem releaseOffer_calm (s : State) : s.Calm s.releaseOffer := by
  unfold releaseOffer
  split
  · exact (withLink_calm _ s).trans (offerFrame_calm ..)
  · exact .refl s

theorem attemptLimit_calm (body : FrameBody) (s : State) : s.Calm (s.attemptLimit body) :=
  .ite (fun _ => (withLink_calm _ s).trans (deliver_calm ..)) (fun _ => .refl s)

theorem offerPeerEvents_calm (peer : Station) (before : PeerEntry) (r : Report) (s : State) : s.Calm (s.offerPeerEvents peer before r) := by
  have alarm (old : Report) : s.Calm (s.offerPeerAlarm peer old r) := .ite (fun _ => .refl s) (fun _ => offerFrom_calm ..)
  have ended (t : State) (w : Option WeirSection) : t.Calm (t.offerPeerSpillEnd peer w) := by
    cases w with
    | none => exact .refl t
    | some w => exact offerFrom_calm ..
  refine .ite (fun _ => ?_) (fun _ => .refl s)
  split
  · exact offerFrom_calm ..
  · exact (alarm _).trans (ended ..)
  · exact .refl s

theorem offerPeerLost_calm (peer : Station) (s : State) : s.Calm (s.offerPeerLost peer) := by
  unfold offerPeerLost
  split
  · exact offerFrom_calm ..
  · exact .refl s

theorem noAnswer_calm (s : State) : s.Calm s.noAnswer := withTown_calm _ s

theorem answer_calm (address : Byte) (kind : Nat) (toggle : Bool) (payload : List Byte) (s : State) :
    s.Calm (s.answer address kind toggle payload) := withTown_calm _ s

theorem markValid_calm (s : State) : s.Calm s.markValid := (withTown_calm _ s).trans (deliver_calm ..)

/-! ## Operations that reach the sequencer -/

/-- A change outside the derived values that leaves D's row, followed by a recount. -/
theorem Sound.recount_of {s t : State} (h : s.Sound) (start : t.start = s.start) (state : t.pump.state = s.pump.state)
    (contactor : t.pump.contactor = s.pump.contactor) (floats : t.floats = s.floats) (balance : t.balance = s.balance) :
    t.recount.Sound := by
  refine recount_sound ?_ ?_ ?_
  · rw [PumpQuiet, State.operating, start, state]; exact h.quiet
  · have demand := h.demand
    rw [DemandCurrent, demandRow, lowLowInForce, highHighInForce, State.working, State.cfg] at demand ⊢
    rw [start, floats, balance]
    exact demand
  · rw [ContactorSafe, ContactorFollows, lowLowInForce, contactor, state, floats]; exact h.safe

/-- A change of the balance unit, of the alarms and of the events, followed by a new D. -/
theorem Sound.redemand_of {s t : State} (h : s.Sound) (start : t.start = s.start) (state : t.pump.state = s.pump.state)
    (contactor : t.pump.contactor = s.pump.contactor) (floats : t.floats = s.floats) : t.redemand.Sound := by
  refine redemand_sound ?_ ?_
  · rw [PumpQuiet, State.operating, start, state]; exact h.quiet
  · rw [ContactorSafe, ContactorFollows, lowLowInForce, contactor, state, floats]; exact h.safe

theorem onWSample_sound {s : State} (h : s.Sound) : s.onWSample.Sound := by
  unfold onWSample
  split
  · refine h.redemand_of ?_ ?_ ?_ ?_
    all_goals unfold evalLevelLost compareLevel; split <;> try split <;> try split
    all_goals simp
  · exact h

theorem onXSample_sound {s : State} (h : s.Sound) : s.onXSample.Sound := by
  unfold onXSample
  split
  · dsimp only
    have judged (u : Screen) (raw : Bool) : (((s.withScreen u).deliver .screenBlinded raw).recount).Sound :=
      h.recount_of (by simp) (by simp) (by simp) (by simp) (by simp)
    split
    · exact (trigger_calm ..).sound (judged _ _)
    · exact judged _ _
  · exact h

theorem sampleChannel_sound (ch : ChannelId) (conversion : Int) {s : State} (h : s.Sound) : (s.sampleChannel ch conversion).Sound := by
  unfold sampleChannel
  split
  · exact h
  · have shown (c : Channel) : (((s.withChan ch c).deliver (faultPoint ch) (c.fault != .clear)).deliver (checkPoint ch) c.checkFlag).Sound :=
      (((withChan_calm ch c s).trans (deliver_calm ..)).trans (deliver_calm ..)).sound h
    cases ch with
    | w => exact onWSample_sound (shown _)
    | x => exact onXSample_sound (shown _)

/-! ## The pump that stops -/

@[simp] theorem trip_pump (cause : TripCause) (s : State) : (s.trip cause).pump = Pump.enter .tripped { s.pump with latch := some cause } := by
  unfold trip
  dsimp only
  split <;> simp

theorem enterRest_pump (st : PumpState) (s : State) : (s.enterRest st).pump =
    if s.pump.faultContact.active then Pump.enter .tripped { s.pump.enter st with latch := some .pumpFault } else s.pump.enter st := by
  unfold enterRest
  simp only [enter_pump, Pump.enter_faultContact]
  split <;> simp

theorem completeStop_pump (s : State) : s.completeStop.pump = (s.enterRest (if s.pump.inhibit then .inhibited else .lockout)).pump := by
  unfold completeStop
  split <;> rfl

theorem offerStopped_pump (cause : StopCause) (s : State) : (s.offerStopped cause).pump = s.pump := offer_pump ..

/-- A pump that has completed its stop is at rest: its contactor is open. -/
theorem completeStop_open (s : State) : s.completeStop.pump.contactor = false ∧ s.completeStop.ContactorFollows := by
  rw [ContactorFollows, completeStop_pump, enterRest_pump]
  split
  · exact ⟨rfl, rfl⟩
  · cases s.pump.inhibit <;> exact ⟨rfl, rfl⟩

/-- A pump that stops opens its contactor at once (R46, R57). -/
theorem stopPump_open (cause : StopCause) (s : State) : (s.stopPump cause).pump.contactor = false ∧ (s.stopPump cause).ContactorFollows := by
  unfold stopPump
  dsimp only
  split
  · rw [ContactorFollows, offerStopped_pump, enter_pump]; exact ⟨rfl, rfl⟩
  · exact completeStop_open _

/-- The low-low float coming into force opens a closed contactor at once (R54, R56). -/
theorem lowLowStop_safe {s : State} (follows : s.ContactorFollows) : s.lowLowStop.ContactorSafe := by
  unfold lowLowStop
  split
  case isTrue => exact ⟨(stopPump_open _ s).2, fun _ => (stopPump_open _ s).1⟩
  case isFalse stays =>
    refine ⟨follows, fun low => ?_⟩
    rw [follows]
    simpa using fun state => stays ⟨low, state⟩

theorem lowLowStop_quiet {s : State} (quiet : s.PumpQuiet) : s.lowLowStop.PumpQuiet := by
  unfold lowLowStop
  split
  case isTrue stops =>
    intro off
    rw [(stopPump_moves _ s).operating] at off
    rcases quiet off with state | state <;> simp [state] at stops
  case isFalse => exact quiet

theorem monitorTick_sound {s : State} (h : s.Sound) : s.monitorTick.Sound := by
  unfold monitorTick
  split
  · have offered := ((withSpill_calm (s.spill.tick s.cfg s.stamp s.spillHead) s).trans (offerSpillEvents_calm s.spill.state _)).sound h
    refine (deliver_calm ..).sound ?_
    split
    · exact offered
    · exact checkLockout_sound offered
  · exact h

theorem countRun_sound {s : State} (h : s.Sound) : s.countRun.Sound := by
  have counted (p : Pump) (state : p.state = s.pump.state) (contactor : p.contactor = s.pump.contactor)
      (runFb : p.runFb = s.pump.runFb) : (s.withPump p).Sound := (withPump_calm state contactor (by rw [runFb])).sound h
  unfold countRun
  dsimp only
  split
  · refine evalClaim_sound (counted _ ?_ ?_ ?_)
    all_goals unfold Pump.writeHours; dsimp only; split <;> rfl
  · exact counted _ rfl rfl rfl

theorem secondTick_sound {s : State} (h : s.Sound) : s.secondTick.Sound :=
  monitorTick_sound (countRun_sound ((withClock_calm _ s).sound h))

theorem withdrawTo_sound (holder : Station) (number : Option Byte) (best : DutyKey) {s : State} (h : s.Sound) :
    (s.withdrawTo holder number best).Sound := by
  have held := (closeClaim_calm .withdrawn s).trans (holdWindow_calm holder number best _)
  unfold withdrawTo
  dsimp only
  split
  case isTrue state =>
    exact enterWaiting_sound (by rw [held.operating]; exact h.operating_of_state (by simp [state]) (by simp [state]))
      (held.demandCurrent h.demand)
  case isFalse => exact held.sound h

theorem observeClaim_sound (sender : Station) (number : Byte) (hours : Half) {s : State} (h : s.Sound) :
    (s.observeClaim sender number hours).Sound := by
  unfold observeClaim
  split
  · exact (holdWindow_calm ..).sound h
  · dsimp only
    split
    · exact (holdWindow_calm ..).sound h
    · exact h
  · dsimp only
    split
    · exact withdrawTo_sound _ _ _ h
    · exact h

theorem observeDone_sound (sender : Station) (number : Byte) {s : State} (h : s.Sound) : (s.observeDone sender number).Sound := by
  unfold observeDone
  split
  · split
    · exact evalClaim_sound ((freeWindow_calm s).sound h)
    · exact h
  · exact h

theorem observeReport_sound (sender : Station) (r : Report) {s : State} (h : s.Sound) : (s.observeReport sender r).Sound := by
  refine evalClaim_sound ?_
  unfold viewReport
  split
  · dsimp only
    split
    · exact (holdWindow_calm ..).sound h
    · exact h
  · dsimp only
    split
    · exact (freeWindow_calm s).sound h
    · exact h
  · dsimp only
    split
    · exact withdrawTo_sound _ _ _ h
    · exact h

theorem observeLost_sound (peer : Station) {s : State} (h : s.Sound) : (s.observeLost peer).Sound := by
  unfold observeLost
  split
  · split
    · exact evalClaim_sound ((freeWindow_calm s).sound h)
    · exact h
  · exact h

theorem claimDropped_sound {s : State} (h : s.Sound) : s.claimDropped.Sound := by
  unfold claimDropped
  split
  · split
    case isTrue state =>
      exact enterWaiting_sound (s := s.endClaim) (h.operating_of_state (by simp [state]) (by simp [state]))
        ((endClaim_calm s).demandCurrent h.demand)
    case isFalse => exact (endClaim_calm s).sound h
  · exact h

theorem stopRule_sound {s : State} (h : s.Sound) : s.stopRule.Sound := by
  unfold stopRule
  split
  · exact h
  · exact dutyStop_sound h

theorem endIsolation_sound {s : State} (h : s.Sound) : s.endIsolation.Sound := by
  unfold endIsolation
  split
  · exact setIsolated_sound _ _ h
  · exact h

theorem takeReport_sound (sender : Station) (r : Report) {s : State} (h : s.Sound) : (s.takeReport sender r).Sound := by
  have stored : (s.storeReport sender r).recount.Sound := by
    refine h.recount_of ?_ ?_ ?_ ?_ ?_
    all_goals unfold storeReport; dsimp only; split <;> rfl
  exact observeReport_sound sender r ((offerPeerEvents_calm ..).sound (endIsolation_sound (checkLockout_sound (stopRule_sound stored))))

theorem handCommand_sound (code : CommandCode) {s : State} (h : s.Sound) : (s.handCommand code).Sound := by
  cases code with
  | resetTrip => exact resetTrip_sound h
  | inhibit => exact inhibitPump_sound h
  | release => exact releasePump_sound h
  | rakeNow => exact (rakeNow_calm s).sound h
  | resetRake => exact (resetRake_calm s).sound h

theorem applyCommand_sound (source : Station) (route : Nat) (code : CommandCode) {s : State} (h : s.Sound) :
    (s.applyCommand source route code).Sound :=
  (offerFrom_calm ..).sound (handCommand_sound code h)

theorem serveCommand_sound (mask : Byte) (code : CommandCode) (argument : Byte) {s : State} (h : s.Sound) :
    (s.serveCommand mask code argument).Sound := by
  have applied : (if s.masked mask then s.applyCommand s.own 0 code else s).Sound := by
    split
    · exact applyCommand_sound _ _ _ h
    · exact h
  unfold serveCommand
  dsimp only
  split
  · exact (offerFrame_calm ..).sound applied
  · exact applied

theorem heardOwn_sound {s : State} (h : s.Sound) : s.heardOwn.Sound := by
  have timed := withLink_calm { s.link with duplicate := .start } s
  unfold heardOwn
  dsimp only
  split
  · exact timed.sound h
  · exact setIsolated_sound _ _ ((deliver_calm ..).sound (timed.sound h))

theorem handFrame_sound (sender : Station) (body : FrameBody) {s : State} (h : s.Sound) : (s.handFrame sender body).Sound := by
  unfold handFrame
  split
  · split
    · exact takeReport_sound _ _ h
    · exact h
  · split
    · exact observeClaim_sound _ _ _ h
    · exact h
  · split
    · exact observeDone_sound _ _ h
    · exact h
  · exact (setClock_calm ..).sound h
  · unfold frameCommand
    split
    · exact applyCommand_sound _ _ _ h
    · exact h

theorem goodFrame_sound (sender : Station) (body : FrameBody) {s : State} (h : s.Sound) : (s.goodFrame sender body).Sound := by
  have heard := (withLink_calm { s.link with lastSender := sender } s).sound h
  unfold goodFrame
  dsimp only
  split
  · exact heardOwn_sound heard
  · exact handFrame_sound _ _ heard

theorem receive_sound (sender : Station) (body : FrameBody) {s : State} (h : s.Sound) : (s.receive sender body).Sound := by
  unfold receive
  split
  · exact goodFrame_sound _ _ h
  · exact h

theorem hearFrame_sound (bytes : List Byte) (framingError : Bool) {s : State} (h : s.Sound) : (s.hearFrame bytes framingError).Sound := by
  unfold hearFrame
  split
  · exact goodFrame_sound _ _ h
  · exact (withLink_calm ..).sound h

theorem tellSent_sound (body : FrameBody) {s : State} (h : s.Sound) : (s.tellSent body).Sound := by
  unfold tellSent
  split
  · exact evalClaim_sound ((((withLink_calm _ s).trans (endClaim_calm _)).trans (offerFrame_calm ..)).sound h)
  · exact (claimSent_calm s).sound h
  · exact (withLink_calm ..).sound h
  · exact h

theorem tellFailed_sound (body : FrameBody) {s : State} (h : s.Sound) : (s.tellFailed body).Sound := by
  unfold tellFailed
  split
  · exact evalClaim_sound (((withLink_calm _ s).trans (endClaim_calm _)).sound h)
  · split
    · exact h
    · exact claimDropped_sound h
  · exact h

theorem serve_sound (address : Byte) (r : TownRequest) {s : State} (h : s.Sound) : (s.serve address r).Sound := by
  cases r with
  | fetch toggle =>
    have taken := withEvents_calm (s.fetchQueue toggle) s
    unfold serve serveFetch
    dsimp only
    split
    · exact ((taken.trans (withTown_calm ..)).trans (answer_calm ..)).sound h
    · exact ((taken.trans (withTown_calm ..)).trans (answer_calm ..)).sound h
  | status page =>
    unfold serve serveStatus
    dsimp only
    split <;> exact (answer_calm ..).sound h
  | house => exact (answer_calm ..).sound h
  | spills index =>
    unfold serve serveSpills
    dsimp only
    split <;> exact (answer_calm ..).sound h
  | ack point =>
    unfold serve serveAck
    dsimp only
    split
    · exact ((ackPoint_calm ..).trans (answer_calm ..)).sound h
    · split
      · exact ((ackAll_calm ..).trans (answer_calm ..)).sound h
      · exact (answer_calm ..).sound h
  | command mask code argument =>
    unfold serve serveCommandRequest
    dsimp only
    split
    · exact (answer_calm ..).sound (serveCommand_sound _ _ _ h)
    · exact (answer_calm ..).sound h
  | time seconds => exact (((setClock_calm ..).trans (offerFrame_calm ..)).trans (answer_calm ..)).sound h
  | restart => exact ((withTown_calm _ s).trans (answer_calm ..)).sound h

theorem serveValid_sound (address : Byte) (kind : Nat) (toggle : Bool) (r : Option TownRequest) {s : State} (h : s.Sound) :
    (s.serveValid address kind toggle r).Sound := by
  unfold serveValid
  split
  · exact (answer_calm ..).sound h
  · exact serve_sound _ _ h
  · exact (answer_calm ..).sound h

theorem request_sound (address : Byte) (r : TownRequest) {s : State} (h : s.Sound) : (s.request address r).Sound := by
  unfold request
  split
  · split
    · exact serveValid_sound _ _ _ _ ((markValid_calm s).sound h)
    · exact (noAnswer_calm s).sound h
  · exact h

theorem hearMessage_sound (bytes : List Byte) (framingError : Bool) {s : State} (h : s.Sound) : (s.hearMessage bytes framingError).Sound := by
  have marked := (markValid_calm s).sound h
  have silent := (noAnswer_calm s).sound h
  unfold hearMessage
  split
  · exact silent
  · split
    · split
      · unfold judgeRequest
        dsimp only
        split
        · exact (answer_calm ..).sound marked
        · split
          · exact (answer_calm ..).sound marked
          · split
            · exact (answer_calm ..).sound marked
            · exact serveValid_sound _ _ _ _ marked
      · exact silent
    · exact silent

theorem takeCommand_sound (src : CommandSource) (code : CommandCode) {s : State} (h : s.Sound) : (s.takeCommand src code).Sound := by
  cases src with
  | town address mask argument => exact request_sound _ _ h
  | bayLink sender mask argument => exact receive_sound _ _ h

end State

end Sys2Proof.Machine
end

section
/-! Every step keeps the contactor safe (O57): the commands of a part that has started, the starts, and the part in LOADING, in which no
command but LOADING_END moves a block. -/

namespace Sys2Proof.Machine

namespace State

/-- A guarded operation. -/
theorem Sound.ite {p : Prop} [Decidable p] {t u : State} (h : p → t.Sound) (k : ¬ p → u.Sound) : (if p then t else u).Sound := by
  split
  case isTrue hp => exact h hp
  case isFalse hp => exact k hp

/-! ## Commands that take several steps -/

theorem runFbFilterExpiry_sound {s : State} (h : s.Sound) :
    (if s.pump.state = .stopping ∧ s.pins.drun = false then (s.withPump (s.pump.onRunFb s.pins.drun)).completeStop
      else s.withPump (s.pump.onRunFb s.pins.drun)).recount.Sound := by
  have state : (s.pump.onRunFb s.pins.drun).state = s.pump.state ∧ (s.pump.onRunFb s.pins.drun).contactor = s.pump.contactor := by
    unfold Pump.onRunFb
    dsimp only
    split <;> split <;> try split <;> try split
    all_goals exact ⟨rfl, rfl⟩
  split
  case isTrue stopping =>
    have operating := h.operating_of_state (by simp [stopping.1]) (by simp [stopping.1])
    have done : (s.withPump (s.pump.onRunFb s.pins.drun)).completeStop.Sound := completeStop_sound operating h.demand
    exact recount_sound done.quiet done.demand done.safe
  case isFalse => exact h.recount_of rfl state.1 state.2 rfl rfl

theorem floatDebounce_sound {s : State} (f : FloatId) (v : Filter) (both : Bool) (h : s.Sound) :
    (((s.withFloats (s.floats.withFilter f v)).deliver (floatPoint f) v.active).deliver .floatConflict
      both).lowLowStop.redemand.immediateStop.Sound := by
  have quiet : (((s.withFloats (s.floats.withFilter f v)).deliver (floatPoint f) v.active).deliver .floatConflict both).PumpQuiet := by
    simp only [PumpQuiet, deliver_operating, deliver_pump, withFloats_operating, withFloats_pump]
    exact h.quiet
  have follows : (((s.withFloats (s.floats.withFilter f v)).deliver (floatPoint f) v.active).deliver .floatConflict
      both).ContactorFollows := by
    simp only [ContactorFollows, deliver_pump, withFloats_pump]
    exact h.safe.1
  exact immediateStop_sound (redemand_sound (lowLowStop_quiet quiet) (lowLowStop_safe follows))

/-! ## Every ordinary command -/

theorem exec_sound {c : Instr} (ordinary : c.ordinary = true) {s : State} (h : s.Sound) : ∃ t, exec c s = .next t ∧ t.Sound := by
  cases c with
  | fullStart | loadingEnd | listeningEnd | townRestart | inputLevelChange | transmitSlot => simp [Instr.ordinary] at ordinary
  | secondsClockTick => exact ⟨_, rfl, secondTick_sound h⟩
  | spillConfirm => exact ⟨_, rfl, .ite (fun _ => secondTick_sound h) (fun _ => h)⟩
  | spillClose => exact ⟨_, rfl, .ite (fun _ => secondTick_sound h) (fun _ => h)⟩
  | runHoursRise => exact ⟨_, rfl, .ite (fun _ => secondTick_sound h) (fun _ => h)⟩
  | hoursWriteComplete acknowledged =>
    refine ⟨_, rfl, ?_⟩
    split
    · exact (Calm.trans (withPump_calm) (deliver_calm ..)).sound h
    · exact h
  | sampleEvent ch conversion => exact ⟨_, rfl, sampleChannel_sound _ _ h⟩
  | settlingEnd ch => exact ⟨_, rfl, .ite (fun _ => sampleChannel_sound _ _ h) (fun _ => h)⟩
  | checkEnd ch => exact ⟨_, rfl, .ite (fun _ => sampleChannel_sound _ _ h) (fun _ => h)⟩
  | checkTimerExpiry ch => exact ⟨_, rfl, .ite (fun _ => (withChan_calm ..).sound h) (fun _ => h)⟩
  | faultHoldExpiry ch => exact ⟨_, rfl, .ite (fun _ => (withChan_calm ..).sound h) (fun _ => h)⟩
  | disagreeTimerExpiry => exact ⟨_, rfl, .ite (fun _ => (Calm.trans (withBalance_calm) (deliver_calm ..)).sound h) (fun _ => h)⟩
  | balanceEvent =>
    have offered (b : Balance) := offerBalanceLow_calm s.balance s.outflow (s.withBalance b)
    refine ⟨_, rfl, .ite (fun _ => h.redemand_of ?_ ?_ ?_ ?_) (fun _ => h)⟩
    all_goals simp only [withBalance_start, withBalance_pump, withBalance_floats]; unfold offerBalanceLow; split <;> try split
    all_goals simp
  | invalidHoldExpiry => exact ⟨_, rfl, .ite (fun _ => h.redemand_of rfl rfl rfl rfl) (fun _ => h)⟩
  | floatDebounceExpiry f => exact ⟨_, rfl, .ite (fun _ => floatDebounce_sound f _ _ h) (fun _ => h)⟩
  | runFbFilterExpiry => exact ⟨_, rfl, .ite (fun _ => runFbFilterExpiry_sound h) (fun _ => h)⟩
  | faultContactDebounceExpiry =>
    refine ⟨_, rfl, .ite (fun _ => ?_) (fun _ => h)⟩
    have taken (f : Filter) (raw : Bool) : s.Calm ((s.withPump { s.pump with faultContact := f }).deliver .pumpFault raw) :=
      Calm.trans (withPump_calm) (deliver_calm ..)
    refine .ite (fun trips => ?_) (fun _ => (taken _ _).sound h)
    have operating := h.operating_of_state (by intro state; simp [state, PumpState.isAuto, PumpState.inDuty] at trips)
      (by intro state; simp [state, PumpState.isAuto, PumpState.inDuty] at trips)
    exact trip_sound _ (by rw [(taken _ _).operating]; exact operating) ((taken _ _).demandCurrent h.demand)
  | selectorContactDebounceExpiry c =>
    refine ⟨_, rfl, .ite (fun _ => ?_) (fun _ => h)⟩
    have contact (f : Filter) (p : Pump) : (p.withContact c f).state = p.state ∧ (p.withContact c f).contactor = p.contactor ∧
        (p.withContact c f).runFb = p.runFb := by cases c <;> exact ⟨rfl, rfl, rfl⟩
    have taken (f : Filter) : (s.settleOff.withPump (s.settleOff.pump.withContact c f)).Sound :=
      (withPump_calm (contact _ _).1 (contact _ _).2.1 (by rw [(contact _ _).2.2])).sound (settleOff_sound h)
    dsimp only
    split
    · exact setPosition_sound _ ((Calm.trans (withPump_calm) (deliver_calm ..)).sound (taken _))
    · exact (Calm.trans (withPump_calm) (deliver_calm ..)).sound (taken _)
  | selectorOffHoldExpiry => exact ⟨_, rfl, .ite (fun _ => takeOff_sound h) (fun _ => h)⟩
  | lockoutEnd => exact ⟨_, rfl, .ite (fun _ => endLockout_sound h) (fun _ => h)⟩
  | feedbackTimerExpiry =>
    refine ⟨_, rfl, .ite (fun _ => ?_) (fun _ => h)⟩
    split
    case h_1 state => exact trip_sound _ (h.operating_of_state (by simp [state]) (by simp [state])) h.demand
    case h_2 state =>
      have operating := h.operating_of_state (by simp [state]) (by simp [state])
      exact .ite (fun _ => trip_sound _ operating h.demand) (fun _ => completeStop_sound operating h.demand)
    case h_3 => exact h
  | settleTimerExpiry =>
    refine ⟨_, rfl, .ite (fun settled => ?_) (fun _ => h)⟩
    have operating := h.operating_of_state (by simp [settled.2]) (by simp [settled.2])
    have closed := closeOwnClaim_calm .started s
    refine immediateStop_sound ((offer_calm ..).sound (enter_sound ?_ (closed.demandCurrent h.demand) fun _ => ?_))
    · rw [closed.operating]; exact operating
    · rw [closed.lowLow]; exact h.lowLow_of_closed (.inl settled.2)
  | lossTimerExpiry =>
    refine ⟨_, rfl, .ite (fun _ => ?_) (fun _ => h)⟩
    split
    case h_1 state => exact trip_sound _ (h.operating_of_state (by simp [state]) (by simp [state])) h.demand
    case h_2 state => exact trip_sound _ (h.operating_of_state (by simp [state]) (by simp [state])) h.demand
    case h_3 => exact h
  | minimumRunReached => exact ⟨_, rfl, .ite (fun _ => dutyStop_sound ((withPump_calm (s := s)).sound h)) (fun _ => h)⟩
  | stopSpacingExpiry => exact ⟨_, rfl, .ite (fun _ => stopRule_sound ((withPump_calm (s := s)).sound h)) (fun _ => h)⟩
  | strayRunExpiry =>
    refine ⟨_, rfl, .ite (fun stray => ?_) (fun _ => h)⟩
    exact trip_sound _ (h.operating_of_state (by intro state; simp [state, PumpState.strayWatched] at stray)
      (by intro state; simp [state, PumpState.strayWatched] at stray)) h.demand
  | staggerTimerExpiry =>
    refine ⟨_, rfl, .ite (fun starts => ?_) (fun _ => h)⟩
    obtain ⟨_, state, _, wanted⟩ := starts
    have operating := h.operating_of_state (by simp [state]) (by simp [state])
    exact enterStarting_sound _ operating h.demand (h.lowLow_of_wanted (working_of_operating operating) wanted)
  | resetTrip src => exact ⟨_, rfl, takeCommand_sound _ _ h⟩
  | inhibit src => exact ⟨_, rfl, takeCommand_sound _ _ h⟩
  | release src => exact ⟨_, rfl, takeCommand_sound _ _ h⟩
  | rakeNow src => exact ⟨_, rfl, takeCommand_sound _ _ h⟩
  | resetRake src => exact ⟨_, rfl, takeCommand_sound _ _ h⟩
  | frameSent =>
    refine ⟨_, rfl, ?_⟩
    split
    · exact (releaseOffer_calm _).sound (tellSent_sound _ ((withLink_calm _ s).sound h))
    · exact h
  | echoFailure =>
    refine ⟨_, rfl, ?_⟩
    split
    · exact (releaseOffer_calm _).sound (tellFailed_sound _ (((withLink_calm _ s).trans (attemptLimit_calm ..)).sound h))
    · exact h
  | txFailureTimerExpiry => exact ⟨_, rfl, .ite (fun _ => ((withLink_calm _ s).trans (deliver_calm ..)).sound h) (fun _ => h)⟩
  | reportTimerExpiry => exact ⟨_, rfl, .ite (fun _ => (queueReport_calm s).sound h) (fun _ => h)⟩
  | badFrame bytes framingError => exact ⟨_, rfl, .ite (fun _ => hearFrame_sound _ _ h) (fun _ => h)⟩
  | ownNumberFrame => exact ⟨_, rfl, .ite (fun _ => heardOwn_sound ((withLink_calm _ s).sound h)) (fun _ => h)⟩
  | duplicateTimerExpiry =>
    have fallen := ((withLink_calm { s.link with duplicate := .stopped } s).trans (deliver_calm .duplicateId false _)).sound h
    exact ⟨_, rfl, .ite (fun _ => .ite (fun _ => setIsolated_sound _ _ fallen) (fun _ => fallen)) (fun _ => h)⟩
  | report sender r => exact ⟨_, rfl, receive_sound _ _ h⟩
  | startClaim sender number hours => exact ⟨_, rfl, receive_sound _ _ h⟩
  | startDone sender number outcome => exact ⟨_, rfl, receive_sound _ _ h⟩
  | timeFrame sender seconds => exact ⟨_, rfl, receive_sound _ _ h⟩
  | entryBecomesStale peer => exact ⟨_, rfl, .ite (fun _ => h.recount_of rfl rfl rfl rfl rfl) (fun _ => h)⟩
  | entryBecomesLost peer =>
    exact ⟨_, rfl, .ite
      (fun _ => observeLost_sound _ ((offerPeerLost_calm ..).sound (checkLockout_sound (h.recount_of rfl rfl rfl rfl rfl)))) (fun _ => h)⟩
  | lostReleaseExpiry peer => exact ⟨_, rfl, .ite (fun _ => h.recount_of rfl rfl rfl rfl rfl) (fun _ => h)⟩
  | peerSilenceExpiry =>
    have stopped : (s.withTable { s.table with silence := .reached }).Sound := (withTable_calm (s := s)).sound h
    exact ⟨_, rfl, .ite (fun _ => .ite (fun _ => setIsolated_sound _ _ stopped) (fun _ => stopped)) (fun _ => h)⟩
  | generatorDebounceExpiry =>
    exact ⟨_, rfl, .ite (fun _ => h.recount_of (by simp) (by simp) (by simp) (by simp) (by simp)) (fun _ => h)⟩
  | patienceRunOut => exact ⟨_, rfl, .ite (fun _ => evalClaim_sound ((withWindow_calm _ s).sound h)) (fun _ => h)⟩
  | claimHoldExpiry =>
    refine ⟨_, rfl, .ite (fun due => ?_) (fun _ => h)⟩
    have operating := h.operating_of_state (by simp [due.2.2]) (by simp [due.2.2])
    refine .ite (fun granted => ?_) (fun _ => ?_)
    · have calm := withWindow_calm { s.window with claim := .granted, hold := .stopped } s
      exact enterStarting_sound _ (by rw [calm.operating]; exact operating) (calm.demandCurrent h.demand) (by rw [calm.lowLow]; exact granted.2)
    · have closed := closeClaim_calm .withdrawn s
      exact enterIdle_sound (by rw [closed.operating]; exact operating) (closed.demandCurrent h.demand)
  | windowTimerExpiry =>
    refine ⟨_, rfl, ?_⟩
    split
    · exact .ite (fun _ => evalClaim_sound (((freeWindow_calm s).trans (offerFrom_calm ..)).sound h)) (fun _ => h)
    · exact h
  | camFilterExpiry =>
    have taken : s.Calm (s.withScreen { s.screen with cam := s.screen.cam.take s.pins.dcam }) := withScreen_calm
    refine ⟨_, rfl, .ite (fun _ => .ite (fun _ => ?_) (fun _ => taken.sound h)) (fun _ => h)⟩
    exact (taken.trans (Calm.trans (withScreen_calm) (offer_calm ..))).sound h
  | overloadFilterExpiry =>
    have taken : s.Calm (s.withScreen { s.screen with overload := s.screen.overload.take s.pins.dovl }) := withScreen_calm
    refine ⟨_, rfl, .ite (fun _ => .ite (fun _ => ?_) (fun _ => taken.sound h)) (fun _ => h)⟩
    split
    · exact (taken.trans (overloadForward_calm _)).sound h
    · exact ((taken.trans (countOverload_calm _)).trans (jamRake_calm _)).sound h
    · exact taken.sound h
  | camCheckExpiry =>
    exact ⟨_, rfl, .ite (fun _ => .ite (fun _ => (checkCam_calm s).sound h) (fun _ => (withScreen_calm (s := s)).sound h)) (fun _ => h)⟩
  | reverseTimerExpiry => exact ⟨_, rfl, .ite (fun _ => (withScreen_calm (s := s)).sound h) (fun _ => h)⟩
  | pauseTimerExpiry =>
    have resumed : s.Calm (s.withScreen { (s.screen.enterRake .forward) with pause := .stopped }) := withScreen_calm
    exact ⟨_, rfl, .ite
      (fun _ => ((resumed.trans (.ite (fun _ => checkCam_calm _) (fun _ => .refl _))).trans
        (.ite (fun _ => overloadForward_calm _) (fun _ => .refl _))).sound h)
      (fun _ => h)⟩
  | cycleTimeout => exact ⟨_, rfl, .ite (fun _ => (Calm.trans (withScreen_calm) (faultRake_calm ..)).sound h) (fun _ => h)⟩
  | restTimerExpiry => exact ⟨_, rfl, .ite (fun _ => (Calm.trans (withScreen_calm) (startPending_calm _)).sound h) (fun _ => h)⟩
  | intervalTimerExpiry => exact ⟨_, rfl, .ite (fun _ => (Calm.trans (withScreen_calm) (trigger_calm ..)).sound h) (fun _ => h)⟩
  | panelAcknowledge => exact ⟨_, rfl, .ite (fun _ => ((withAlarms_calm _ s).trans (ackAll_calm ..)).sound h) (fun _ => h)⟩
  | unservedTownMessage bytes framingError overlapping => exact ⟨_, rfl, .ite (fun _ => hearMessage_sound _ _ h) (fun _ => h)⟩
  | fetch address toggle => exact ⟨_, rfl, request_sound _ _ h⟩
  | status address page => exact ⟨_, rfl, request_sound _ _ h⟩
  | house address => exact ⟨_, rfl, request_sound _ _ h⟩
  | spills address index => exact ⟨_, rfl, request_sound _ _ h⟩
  | ack address point => exact ⟨_, rfl, request_sound _ _ h⟩
  | time address seconds => exact ⟨_, rfl, request_sound _ _ h⟩
  | restart address => exact ⟨_, rfl, request_sound _ _ h⟩
  | townSilenceExpiry => exact ⟨_, rfl, .ite (fun _ => ((withTown_calm _ s).trans (deliver_calm ..)).sound h) (fun _ => h)⟩
  | firstIdleGap => exact ⟨_, rfl, .ite (fun _ => (withLink_calm _ s).sound h) (fun _ => h)⟩
  | acknowledgeInputReleased => exact ⟨_, rfl, .ite (fun _ => (withAlarms_calm _ s).sound h) (fun _ => h)⟩

end State

end Sys2Proof.Machine
end

section
/-! The starts, LOADING and the passing of a millisecond keep the contactor safe, and with them every step does (O57). -/

namespace Sys2Proof.Machine

/-! ## A millisecond -/

@[simp] theorem Timer.advance_hasReached (limit : Nat) (t : Timer) : (t.advance limit).hasReached = t.hasReached := by
  cases t <;> rfl

/-- The entry a millisecond later, as `PeerTable.advance` makes it. -/
def PeerEntry.aged (g : Settings) (e : PeerEntry) : PeerEntry :=
  { e with age := e.age.advance (e.ageLimit g.reportInterval), release := e.release.advance g.releaseTime }

@[simp] theorem PeerTable.advance_list (g : Settings) (t : PeerTable) : (t.advance g).list = t.list.map (PeerEntry.aged g) :=
  Vector.toList_map ..

@[simp] theorem PeerEntry.aged_drawing (g : Settings) (e : PeerEntry) : (e.aged g).drawing = e.drawing := by
  unfold PeerEntry.drawing PeerEntry.aged
  dsimp only
  split <;> simp

@[simp] theorem PeerEntry.aged_seen (g : Settings) (e : PeerEntry) : (e.aged g).seen = e.seen := rfl

@[simp] theorem PeerEntry.aged_available (g : Settings) (e : PeerEntry) : (e.aged g).available = e.available := rfl

@[simp] theorem PeerEntry.aged_slimShare (g : Settings) (lost : Nat) (isolated : Bool) (e : PeerEntry) :
    (e.aged g).slimShare lost isolated = e.slimShare lost isolated := rfl

/-- A count of a property the ageing leaves. -/
theorem PeerTable.advance_count (g : Settings) (t : PeerTable) {p : PeerEntry → Bool} (h : ∀ e, p (e.aged g) = p e) :
    (t.advance g).count p = t.count p := by
  have same : p ∘ PeerEntry.aged g = p := funext h
  rw [PeerTable.count, PeerTable.advance_list, List.filter_map, List.length_map, same, PeerTable.count]

namespace State

theorem idle_calm (s : State) : s.Calm s.idle where
  phase := rfl
  settings := rfl
  row := by
    have hold : (s.balance.advance s.cfg).invalidHold.hasReached = s.balance.invalidHold.hasReached := Timer.advance_hasReached ..
    unfold demandRow
    change (if s.lowLowInForce then 0 else if s.highHighInForce then 8 else if s.balance.level.isSome then _ else
      if (s.balance.advance s.cfg).invalidHold.hasReached then _ else _) = _
    rw [hold]
    rfl
  demand := rfl
  limit := rfl
  effective := rfl
  drawing := rfl
  available := rfl
  supply := rfl
  screenLimit := rfl
  isolated := rfl
  drawingCount := by
    have count := PeerTable.advance_count s.cfg s.table (PeerEntry.aged_drawing s.cfg)
    change _ + (s.table.advance s.cfg).count PeerEntry.drawing = _
    rw [count]
    rfl
  availableCount := by
    have count := PeerTable.advance_count s.cfg s.table (PeerEntry.aged_available s.cfg)
    change (if s.table.isolated then 1 else _ + (s.table.advance s.cfg).count PeerEntry.available) = _
    rw [count]
    rfl
  houseSupply := by
    change (if s.table.generator.active || (s.table.advance s.cfg).list.any _ then Supply.generator else Supply.utility) = _
    rw [PeerTable.advance_list, List.any_map]
    rfl
  slim := by
    change ((s.table.advance s.cfg).list.map _).foldl min _ = _
    rw [PeerTable.advance_list, List.map_map]
    rfl
  state := rfl
  contactor := rfl
  lowLow := rfl

theorem idle_loadingAtReset {s : State} (reset : s.LoadingAtReset) : s.idle.LoadingAtReset := by
  intro loading
  obtain ⟨pump, balance, floats, screen, window, link, table, alarms, events, town, chanW, chanX⟩ := reset loading
  have aged : PeerTable.reset.advance s.cfg = PeerTable.reset := by
    simp [PeerTable.advance, PeerTable.reset, PeerEntry.reset, Timer.advance, Filter.advance, Filter.reset]
  refine ⟨?_, ?_, ?_, ?_, ?_, ?_, ?_, ?_, ?_, ?_, ?_, ?_⟩
  · change s.pump.advance _ _ _ = _; rw [pump]; rfl
  · change s.balance.advance _ = _; rw [balance]; rfl
  · change s.floats.advance _ = _; rw [floats]; rfl
  · have still (g : Settings) (runs : Bool) : Screen.reset.advance g runs = Screen.reset := by cases runs <;> rfl
    change s.screen.advance _ _ = _; rw [screen]; exact still _ _
  · change s.window.advance _ = _; rw [window]; rfl
  · change s.link.advance _ = _; rw [link]; rfl
  · change s.table.advance _ = _; rw [table]; exact aged
  · change ({ s.alarms with ack := s.alarms.ack.advance fastFilter } : Alarms) = _; rw [alarms]; rfl
  · exact events
  · change ({ s.town with silence := s.town.silence.advance _ } : Town) = _; rw [town]; rfl
  · change s.chanW.advance _ = _; rw [chanW]; rfl
  · change s.chanX.advance _ = _; rw [chanX]; rfl

/-! ## LOADING (R168) -/

section Loading

variable {s : State} (loading : s.start.phase = .loading) (reset : s.LoadingAtReset)

include loading

theorem started_of_loading : s.started = false := by simp [started, loading]

theorem working_of_loading : s.working = false := by simp [working, loading]

theorem canReceive_of_loading : s.canReceive = false := by simp [canReceive, started_of_loading loading]

theorem hearsTown_of_loading : s.hearsTown = false := by simp [hearsTown, started_of_loading loading]

theorem request_of_loading (address : Byte) (r : TownRequest) : s.request address r = s := by
  simp [request, hearsTown_of_loading loading]

theorem receive_of_loading (sender : Station) (body : FrameBody) : s.receive sender body = s := by
  simp [receive, canReceive_of_loading loading]

theorem takeCommand_of_loading (src : CommandSource) (code : CommandCode) : s.takeCommand src code = s := by
  cases src with
  | town address mask argument => exact request_of_loading loading _ _
  | bayLink sender mask argument => exact receive_of_loading loading _ _

include reset

/-- In LOADING a second moves the clock alone (note 40). -/
theorem secondTick_of_loading : s.secondTick = s.withClock { s.clock with seconds := s.clock.seconds + 1 } := by
  obtain ⟨pump, -⟩ := reset loading
  have weir : (s.withClock { s.clock with seconds := s.clock.seconds + 1 }).weirRuns = false := by simp [weirRuns, working, loading]
  have counted : (s.withClock { s.clock with seconds := s.clock.seconds + 1 }).countRun =
      s.withClock { s.clock with seconds := s.clock.seconds + 1 } := by
    simp only [countRun, hoursRise, nextRunSeconds, started, withClock_pump, withClock_start, pump, loading]
    exact congrArg (fun p => (s.withClock { s.clock with seconds := s.clock.seconds + 1 }).withPump p) pump.symm
  rw [secondTick, counted, monitorTick, if_neg (by rw [weir]; exact Bool.false_ne_true)]

theorem sampleChannel_of_loading (ch : ChannelId) (conversion : Int) : s.sampleChannel ch conversion = s := by
  obtain ⟨-, -, -, -, -, -, -, -, -, -, chanW, chanX⟩ := reset loading
  cases ch with
  | w => exact if_pos (by rw [chan, chanW]; rfl)
  | x => exact if_pos (by rw [chan, chanX]; rfl)

/-- In LOADING the only ordinary command with an effect is the second of the clock: no timer runs, no frame and no message is taken. -/
theorem exec_of_loading {c : Instr} (ordinary : c.ordinary = true) : exec c s = .next s ∨ exec c s = .next s.secondTick := by
  obtain ⟨pump, balance, floats, screen, window, link, table, alarms, events, town, chanW, chanX⟩ := reset loading
  have entry (p : Station) : s.table.entry p = PeerEntry.reset := by
    rw [table, PeerTable.entry, PeerTable.reset]; exact Vector.getElem_replicate _
  cases c with
  | fullStart | loadingEnd | listeningEnd | townRestart | inputLevelChange | transmitSlot => simp [Instr.ordinary] at ordinary
  | secondsClockTick => exact .inr rfl
  | spillConfirm => exact (ite_eq_or_eq _ _ _).symm.imp (congrArg _) (congrArg _)
  | spillClose => exact (ite_eq_or_eq _ _ _).symm.imp (congrArg _) (congrArg _)
  | runHoursRise => exact (ite_eq_or_eq _ _ _).symm.imp (congrArg _) (congrArg _)
  | hoursWriteComplete acknowledged => left; simp [exec, execHoursWriteComplete, pump, Pump.reset]
  | sampleEvent ch conversion => exact .inl (congrArg _ (sampleChannel_of_loading loading reset _ _))
  | settlingEnd ch => exact .inl (congrArg _ (ite_eq_right_iff.mpr fun _ => sampleChannel_of_loading loading reset _ _))
  | checkEnd ch => exact .inl (congrArg _ (ite_eq_right_iff.mpr fun _ => sampleChannel_of_loading loading reset _ _))
  | resetTrip src | inhibit src | release src | rakeNow src | resetRake src =>
    exact .inl (congrArg _ (takeCommand_of_loading loading _ _))
  | frameSent => left; simp [exec, execFrameSent, link, Link.reset]
  | echoFailure => left; simp [exec, execEchoFailure, link, Link.reset]
  | badFrame bytes framingError => left; simp [exec, execBadFrame, canReceive_of_loading loading]
  | ownNumberFrame => left; simp [exec, execOwnNumberFrame, canReceive_of_loading loading]
  | report | startClaim | startDone | timeFrame => exact .inl (congrArg _ (receive_of_loading loading _ _))
  | unservedTownMessage => left; simp [exec, execUnservedTownMessage, hearsTown_of_loading loading]
  | fetch | status | house | spills | ack | time | restart => exact .inl (congrArg _ (request_of_loading loading _ _))
  | firstIdleGap => left; simp [exec, execFirstIdleGap, started_of_loading loading]
  | checkTimerExpiry ch | faultHoldExpiry ch =>
    exact .inl (exec_of_not_atLimit (by cases ch <;> simp [atLimit, chan, chanW, chanX, Channel.reset]))
  | disagreeTimerExpiry | balanceEvent | invalidHoldExpiry => exact .inl (exec_of_not_atLimit (by simp [atLimit, balance, Balance.reset]))
  | floatDebounceExpiry f =>
    exact .inl (exec_of_not_atLimit (by cases f <;> simp [atLimit, floats, Floats.filter, Filter.reset]))
  | selectorContactDebounceExpiry c =>
    exact .inl (exec_of_not_atLimit (by cases c <;> simp [atLimit, pump, Pump.contact, Pump.reset, Filter.reset]))
  | runFbFilterExpiry | faultContactDebounceExpiry | selectorOffHoldExpiry | lockoutEnd | feedbackTimerExpiry | settleTimerExpiry
  | lossTimerExpiry | minimumRunReached | stopSpacingExpiry | strayRunExpiry | staggerTimerExpiry =>
    exact .inl (exec_of_not_atLimit (by simp [atLimit, pump, Pump.reset, Filter.reset]))
  | txFailureTimerExpiry | reportTimerExpiry | duplicateTimerExpiry => exact .inl (exec_of_not_atLimit (by simp [atLimit, link, Link.reset]))
  | entryBecomesStale peer | entryBecomesLost peer | lostReleaseExpiry peer =>
    exact .inl (exec_of_not_atLimit (by simp [atLimit, entry, PeerEntry.reset]))
  | peerSilenceExpiry | generatorDebounceExpiry => exact .inl (exec_of_not_atLimit (by simp [atLimit, table, PeerTable.reset, Filter.reset]))
  | patienceRunOut | claimHoldExpiry | windowTimerExpiry =>
    exact .inl (exec_of_not_atLimit (by simp [atLimit, window, Window.reset, WindowView.isDue]))
  | camFilterExpiry | overloadFilterExpiry | camCheckExpiry | reverseTimerExpiry | pauseTimerExpiry | cycleTimeout | restTimerExpiry
  | intervalTimerExpiry =>
    exact .inl (exec_of_not_atLimit (by simp [atLimit, screen, Screen.reset, Filter.reset, Timer.canExpire]))
  | panelAcknowledge | acknowledgeInputReleased => exact .inl (exec_of_not_atLimit (by simp [atLimit, alarms, Alarms.reset, Filter.reset]))
  | townSilenceExpiry => exact .inl (exec_of_not_atLimit (by simp [atLimit, town, Town.reset]))

end Loading

/-- An ordinary command leaves a part in LOADING at its reset values. -/
theorem exec_loadingAtReset {c : Instr} (ordinary : c.ordinary = true) {s t : State} (reset : s.LoadingAtReset)
    (next : exec c s = .next t) : t.LoadingAtReset := by
  intro loading
  obtain ⟨u, run, orderly⟩ := exec_orderly ordinary s
  obtain rfl : t = u := Host.Outcome.next.inj (next.symm.trans run)
  have before : s.start.phase = .loading := by rw [← orderly.start]; exact loading
  rcases exec_of_loading before reset ordinary with same | ticks
  · obtain rfl : t = s := Host.Outcome.next.inj (next.symm.trans same)
    exact reset before
  · obtain rfl : t = s.secondTick := Host.Outcome.next.inj (next.symm.trans ticks)
    rw [secondTick_of_loading before reset]
    exact reset before

/-! ## The starts -/

/-- Neither LISTENING nor OPERATING, the pump at rest: nothing of D, the counts and the limits is asked. -/
theorem sound_of_idle {s : State} (working : s.working = false) (state : s.pump.state = .startup ∨ s.pump.state = .unconfigured)
    (open_ : s.pump.contactor = false) : s.Sound where
  quiet _ := state
  demand h := by rw [working] at h; cases h
  limited h := by rw [working] at h; cases h
  counts h := by rw [working] at h; cases h
  safe := ⟨by rw [ContactorFollows, open_]; rcases state with h | h <;> rw [h] <;> rfl, fun _ => open_⟩

theorem reset_kept (clock : Clock) (pins : Pins) (m : SpillMonitor) (pending : List Instr) :
    ({ State.reset with clock := clock, pins := pins, spill := m, pending := pending } : State).Kept :=
  (kept_iff _).mpr ⟨fun _ => ⟨rfl, rfl, rfl, rfl, rfl, rfl, rfl, rfl, rfl, rfl, rfl, rfl⟩, sound_of_idle rfl (.inl rfl) rfl⟩

/-- A part in another start state than LOADING is asked nothing of its reset values. -/
theorem loadingAtReset_of_phase {s : State} (later : s.start.phase ≠ .loading) : s.LoadingAtReset := fun h => absurd h later

theorem enterListening_pump (g : Settings) (hours : Option Nat) (s : State) :
    ((((s.withStart { s.start with phase := .listening, settings := g, listening := .start }).beginCommon .startup hours).beginChannels
      g).beginBalance.beginScreen g).queueReport.pump = s.pump.begin .startup s.pins hours := by
  rw [queueReport_pump]
  unfold beginScreen beginChannels
  split <;> split <;> rfl

theorem enterListening_balance (g : Settings) (hours : Option Nat) (s : State) :
    ((((s.withStart { s.start with phase := .listening, settings := g, listening := .start }).beginCommon .startup hours).beginChannels
      g).beginBalance.beginScreen g).queueReport.balance = { s.balance with timer := .start, invalidHold := .start } := by
  rw [queueReport_balance]
  unfold beginScreen beginChannels
  split <;> split <;> rfl

theorem enterListening_floats (g : Settings) (hours : Option Nat) (s : State) :
    ((((s.withStart { s.start with phase := .listening, settings := g, listening := .start }).beginCommon .startup hours).beginChannels
      g).beginBalance.beginScreen g).queueReport.floats = { highHigh := .begin s.pins.dhh, lowLow := .begin s.pins.dll } := by
  rw [queueReport_floats]
  unfold beginScreen beginChannels
  split <;> split <;> rfl

theorem enterListening_sound (g : Settings) (hours : Option Nat) {s : State} (balance : s.balance = Balance.reset) :
    (s.enterListening g hours).Sound := by
  have pump := enterListening_pump g hours s
  have balance' := enterListening_balance g hours s
  have floats := enterListening_floats g hours s
  refine (deliver_calm ..).sound (withCounts_sound ?_ ?_ ?_)
  · intro _; rw [pump]; exact .inl rfl
  · intro _
    rw [demandRow, lowLowInForce, highHighInForce, balance', floats, balance]
    rfl
  · rw [ContactorSafe, ContactorFollows, pump, lowLowInForce, floats]
    exact ⟨rfl, fun h => nomatch h⟩

theorem enterConfigFault_sound (cause offset : Nat) (hours : Option Nat) (s : State) : (s.enterConfigFault cause offset hours).Sound := by
  have begun : ((s.withStart { s.start with phase := .configFault, settings := .configFault s.own, listening := .stopped }).beginCommon
      .unconfigured hours).Sound := sound_of_idle rfl (.inr rfl) rfl
  exact (((offer_calm ..).trans (queueReport_calm _)).trans (deliver_calm ..)).sound begun

theorem leaveStartup_sound {s : State} (operating : s.operating = true) (h : s.Sound) : s.leaveStartup.Sound := by
  unfold leaveStartup
  split
  · exact enter_sound operating h.demand
  · exact enter_sound operating h.demand
  · exact enterRest_sound operating h.demand

theorem openRake_calm (s : State) : s.Calm s.openRake :=
  .ite (fun _ => Calm.trans (withScreen_calm) (startPending_calm _)) (fun _ => .refl s)

theorem listeningEnd_sound {s : State} (listening : s.start.phase = .listening) (h : s.Sound) :
    (s.withStart { s.start with phase := .operating, listening := .stopped }).evalLevelLost.evalRisk.leaveStartup.openRake.Sound := by
  have working : s.working = true := by simp [State.working, listening]
  have up : (s.withStart { s.start with phase := .operating, listening := .stopped }).Sound := {
    quiet := fun off => nomatch off
    demand := fun _ => h.demand working
    limited := fun _ => h.limited working
    counts := fun _ => h.counts working
    safe := h.safe }
  have shown : (s.withStart { s.start with phase := .operating, listening := .stopped }).Calm
      (s.withStart { s.start with phase := .operating, listening := .stopped }).evalLevelLost.evalRisk :=
    (deliver_calm ..).trans (evalRisk_calm _)
  exact (openRake_calm _).sound (leaveStartup_sound (by rw [shown.operating]; rfl) (shown.sound up))

theorem withPins_calm (p : Pins) (s : State) : s.Calm (s.withPins p) :=
  ⟨rfl, rfl, rfl, rfl, rfl, rfl, rfl, rfl, rfl, rfl, rfl, rfl, rfl, rfl, rfl, rfl, rfl, rfl⟩

/-! ## Every command and every step -/

/-- A raw level in LOADING reaches its pin alone: no filter runs. -/
theorem feed_of_loading {s : State} (loading : s.start.phase = .loading) (pin : Pin) (v : Bool) : s.feed pin v = s := by
  cases pin <;> simp [feed, started_of_loading loading, working_of_loading loading, screenRuns]

theorem exec_kept (c : Instr) {s : State} (h : s.Kept) : ∃ t, exec c s = .next t ∧ t.Kept := by
  obtain ⟨reset, sound⟩ := (kept_iff s).mp h
  by_cases ordinary : c.ordinary = true
  case pos =>
    obtain ⟨t, next, kept⟩ := exec_sound ordinary sound
    exact ⟨t, next, (kept_iff t).mpr ⟨exec_loadingAtReset ordinary reset next, kept⟩⟩
  cases c
  case fullStart => exact ⟨_, rfl, reset_kept ..⟩
  case townRestart =>
    refine ⟨_, rfl, ?_⟩
    split
    · exact reset_kept ..
    · exact h
  case loadingEnd st0 st1 st2 imageReads hoursReads =>
    refine ⟨_, rfl, ?_⟩
    split
    case isTrue loading =>
      obtain ⟨-, balance, -⟩ := reset loading
      dsimp only
      split
      · exact (kept_iff _).mpr ⟨loadingAtReset_of_phase (by rw [(enterListening_orderly ..).start]; exact fun h => nomatch h),
          enterListening_sound _ _ balance⟩
      · exact (kept_iff _).mpr ⟨loadingAtReset_of_phase (by rw [(enterConfigFault_orderly ..).start]; exact fun h => nomatch h),
          enterConfigFault_sound ..⟩
    case isFalse => exact h
  case listeningEnd =>
    refine ⟨_, rfl, ?_⟩
    split
    case isTrue due =>
      have opened := listeningEnd_sound due.1 sound
      refine (kept_iff _).mpr ⟨loadingAtReset_of_phase ?_, (withTable_calm).sound opened⟩
      rw [withTable_start, (opened_orderly _).start]
      exact fun h => nomatch h
    case isFalse => exact h
  case inputLevelChange pin level =>
    have fed := feed_orderly pin level (s.withPins (s.pins.set pin level))
    refine ⟨_, rfl, (kept_iff _).mpr ⟨fun loading => ?_, ((withPins_calm _ s).trans (feed_calm ..)).sound sound⟩⟩
    have before : s.start.phase = .loading := by rw [fed.start] at loading; exact loading
    rw [feed_of_loading (s := s.withPins (s.pins.set pin level)) before]
    exact reset before
  case transmitSlot slot =>
    refine ⟨_, rfl, ?_⟩
    split
    case h_1 e chosen =>
      refine (kept_iff _).mpr ⟨fun loading => ?_, (withLink_calm _ s).sound sound⟩
      have before : s.start.phase = .loading := loading
      obtain ⟨-, -, -, -, -, link, -⟩ := reset before
      simp [slotEntry, Link.chosen, link, Link.reset] at chosen
    case h_2 => exact h
  all_goals exact absurd rfl ordinary

theorem step_kept {s t : State} (h : s.Kept) (next : step s = .next t) : t.Kept := by
  unfold step at next
  split at next
  case h_1 c rest _ =>
    obtain ⟨u, run, kept⟩ := exec_kept (s := s.withPending rest) c h
    obtain rfl : u = t := Host.Outcome.next.inj (run.symm.trans next)
    exact kept
  case h_2 =>
    obtain rfl : s.idle = t := Host.Outcome.next.inj next
    obtain ⟨reset, sound⟩ := (kept_iff s).mp h
    exact (kept_iff _).mpr ⟨idle_loadingAtReset reset, (idle_calm s).sound sound⟩

end State

/-- Settles O57: every command keeps it, and so does a millisecond. -/
theorem theContactorStaysSafe : Obligations.TheContactorStaysSafe :=
  fun _ _ h next => State.step_kept h next

end Sys2Proof.Machine
end

section
/-! The order of levels (R21), the volume table (R25) and the bands (R30): O53 and O54; the front of the queue (O1) and the reset state
(O60). -/

namespace Sys2Proof.Machine

/-! ## The median (R21) -/

theorem insertLevel_eq_orderedInsert (v : Int) (levels : List Int) : insertLevel v levels = levels.orderedInsert (· ≤ ·) v := by
  induction levels with
  | nil => rfl
  | cons w rest ih => simp only [insertLevel, List.orderedInsert, ih]

theorem sortLevels_eq_insertionSort (levels : List Int) : sortLevels levels = levels.insertionSort (· ≤ ·) := by
  induction levels with
  | nil => rfl
  | cons v rest ih =>
    rw [sortLevels, List.foldr_cons, ← sortLevels, ih, insertLevel_eq_orderedInsert]
    rfl

theorem sortLevels_perm (levels : List Int) : (sortLevels levels).Perm levels := by
  rw [sortLevels_eq_insertionSort]
  exact List.perm_insertionSort _ _

theorem sortLevels_pairwise (levels : List Int) : (sortLevels levels).Pairwise (· ≤ ·) := by
  rw [sortLevels_eq_insertionSort]
  exact List.pairwise_insertionSort _ _

/-- In an ascending list the entries up to one not above `m` are not above `m`. -/
theorem lt_length_filter_le {l : List Int} (sorted : l.Pairwise (· ≤ ·)) {k : Nat} {a m : Int} (at_k : l[k]? = some a) (le : a ≤ m) :
    k < (l.filter fun v => v ≤ m).length := by
  induction l generalizing k with
  | nil => simp at at_k
  | cons v rest ih =>
    obtain ⟨least, sorted⟩ := List.pairwise_cons.mp sorted
    cases k with
    | zero =>
      obtain rfl : v = a := by simpa using at_k
      simp [le]
    | succ k =>
      have later : rest[k]? = some a := by simpa using at_k
      have small : v ≤ m := (least a (List.mem_of_getElem? later)).trans le
      simpa [small] using ih sorted later

/-- In an ascending list the entries from one not below `m` on are not below `m`. -/
theorem length_le_add_length_filter_ge {l : List Int} (sorted : l.Pairwise (· ≤ ·)) {k : Nat} {a m : Int} (at_k : l[k]? = some a)
    (le : m ≤ a) : l.length ≤ k + (l.filter fun v => m ≤ v).length := by
  induction l generalizing k with
  | nil => simp
  | cons v rest ih =>
    obtain ⟨least, rising⟩ := List.pairwise_cons.mp sorted
    cases k with
    | zero =>
      obtain rfl : v = a := by simpa using at_k
      have all : (v :: rest).filter (fun w => m ≤ w) = v :: rest :=
        List.filter_eq_self.mpr fun w mem => decide_eq_true (le.trans (List.mem_cons.mp mem |>.elim (fun h => h ▸ le_refl v) (least w)))
      rw [all]
      simp
    | succ k =>
      have later : rest.length ≤ k + (rest.filter fun w => m ≤ w).length := ih rising (by simpa using at_k)
      have more := (List.sublist_cons_self v rest).filter (fun w => decide (m ≤ w)) |>.length_le
      rw [List.length_cons]
      omega

/-- The two places the median is formed from, one place where the number is odd (R21). -/
theorem medianLevel_eq_some {levels : List Int} {m : Int} (median : medianLevel levels = some m) :
    ∃ i j a b, (sortLevels levels)[i]? = some a ∧ (sortLevels levels)[j]? = some b ∧ levels.length ≤ 2 * (i + 1) ∧
      2 * j ≤ levels.length ∧ a ≤ m ∧ m ≤ b := by
  have length := (sortLevels_perm levels).length_eq
  unfold medianLevel at median
  dsimp only at median
  split at median
  case isTrue odd => exact ⟨_, _, m, m, median, median, by omega, by omega, le_refl m, le_refl m⟩
  case isFalse even =>
    split at median
    case h_1 a b low high =>
      have ascending : a ≤ b := by
        obtain ⟨hi, rfl⟩ := List.getElem?_eq_some_iff.mp low
        obtain ⟨hj, rfl⟩ := List.getElem?_eq_some_iff.mp high
        exact List.pairwise_iff_getElem.mp (sortLevels_pairwise levels) _ _ hi hj (by omega)
      obtain rfl : roundHalfUp (a + b) 2 = m := Option.some.inj median
      refine ⟨_, _, a, b, low, high, by omega, by omega, ?_, ?_⟩ <;> (unfold roundHalfUp; omega)
    case h_2 => cases median

theorem medianLevel_eq_none_iff (levels : List Int) : medianLevel levels = none ↔ levels = [] := by
  have length := (sortLevels_perm levels).length_eq
  constructor
  · intro h
    by_contra some_
    have pos : 0 < (sortLevels levels).length := by rw [length]; exact List.length_pos_iff.mpr some_
    unfold medianLevel at h
    dsimp only at h
    split at h
    · rw [List.getElem?_eq_none_iff] at h
      omega
    · rw [List.getElem?_eq_getElem (i := (sortLevels levels).length / 2 - 1) (by omega),
        List.getElem?_eq_getElem (i := (sortLevels levels).length / 2) (by omega)] at h
      cases h
  · rintro rfl
    rfl

theorem medianLevel_between {levels : List Int} {m : Int} (median : medianLevel levels = some m) :
    levels.length ≤ 2 * (levels.filter fun v => v ≤ m).length ∧ levels.length ≤ 2 * (levels.filter fun v => m ≤ v).length := by
  obtain ⟨i, j, a, b, at_i, at_j, upper, lower, a_le, le_b⟩ := medianLevel_eq_some median
  have below := lt_length_filter_le (sortLevels_pairwise levels) at_i a_le
  have above := length_le_add_length_filter_ge (sortLevels_pairwise levels) at_j le_b
  rw [((sortLevels_perm levels).filter _).length_eq] at below above
  rw [(sortLevels_perm levels).length_eq] at above
  constructor <;> omega

/-! ## The volume table (R25) -/

/-- What a straight line of the volume table adds between its ends. -/
def lineRise (l1 l2 : Int) (v1 v2 : Nat) (h : Int) : Nat :=
  (floorDiv ((h - l1) * ((v2 : Int) - v1)) (l2 - l1).toNat).toNat

theorem lineRise_mono {l1 l2 h h' : Int} {v1 v2 : Nat} (levels : l1 < l2) (volumes : v1 ≤ v2) (le : h ≤ h') :
    lineRise l1 l2 v1 v2 h ≤ lineRise l1 l2 v1 v2 h' := by
  have rise : (0 : Int) ≤ (v2 : Int) - v1 := by omega
  refine Int.toNat_le_toNat (Int.ediv_le_ediv (by omega : 0 < ((l2 - l1).toNat : Int)) ?_)
  exact Int.mul_le_mul_of_nonneg_right (by omega) rise

theorem lineRise_le {l1 l2 h : Int} {v1 v2 : Nat} (levels : l1 < l2) (volumes : v1 ≤ v2) (le : h ≤ l2) :
    v1 + lineRise l1 l2 v1 v2 h ≤ v2 := by
  have full : lineRise l1 l2 v1 v2 l2 = v2 - v1 := by
    have width : ((l2 - l1).toNat : Int) = l2 - l1 := Int.toNat_of_nonneg (by omega)
    rw [lineRise, floorDiv, width, Int.mul_ediv_cancel_left _ (by omega : l2 - l1 ≠ 0)]
    omega
  have rises := lineRise_mono levels volumes le
  omega

/-- A volume table as an image gives it: ascending levels, volumes that do not fall. -/
abbrev AscendingTable (table : List (Int × Nat)) : Prop := table.Pairwise fun a b => a.1 < b.1 ∧ a.2 ≤ b.2

theorem volumeAt_cons_cons (l1 l2 : Int) (v1 v2 : Nat) (rest : List (Int × Nat)) (h : Int) :
    volumeAt ((l1, v1) :: (l2, v2) :: rest) h =
      if h ≤ l1 then v1 else if h < l2 then v1 + lineRise l1 l2 v1 v2 h else volumeAt ((l2, v2) :: rest) h := rfl

theorem volumeAt_of_le_first {first : Int × Nat} {rest : List (Int × Nat)} {h : Int} (low : h ≤ first.1) :
    volumeAt (first :: rest) h = first.2 := by
  cases rest with
  | nil => rfl
  | cons second rest => exact if_pos low

theorem first_le_volumeAt {first : Int × Nat} {rest : List (Int × Nat)} (h : Int) (ascending : AscendingTable (first :: rest)) :
    first.2 ≤ volumeAt (first :: rest) h := by
  induction rest generalizing first with
  | nil => exact le_refl _
  | cons second rest ih =>
    obtain ⟨l1, v1⟩ := first
    obtain ⟨l2, v2⟩ := second
    obtain ⟨before, later⟩ := List.pairwise_cons.mp ascending
    have next : v1 ≤ v2 := (before (l2, v2) List.mem_cons_self).2
    rw [volumeAt_cons_cons]
    split
    · exact le_refl _
    · split
      · exact Nat.le_add_right _ _
      · exact next.trans (ih later)

theorem volumeAt_mono {table : List (Int × Nat)} {h h' : Int} (ascending : AscendingTable table) (le : h ≤ h') :
    volumeAt table h ≤ volumeAt table h' := by
  induction table with
  | nil => exact le_refl _
  | cons first rest ih =>
    cases rest with
    | nil => exact le_refl _
    | cons second rest =>
      obtain ⟨l1, v1⟩ := first
      obtain ⟨l2, v2⟩ := second
      obtain ⟨before, later⟩ := List.pairwise_cons.mp ascending
      obtain ⟨levels, volumes⟩ : l1 < l2 ∧ v1 ≤ v2 := before (l2, v2) List.mem_cons_self
      by_cases low : h ≤ l1
      · rw [volumeAt_of_le_first (first := (l1, v1)) low]
        exact first_le_volumeAt h' ascending
      · rw [volumeAt_cons_cons, volumeAt_cons_cons, if_neg low, if_neg (by omega : ¬ h' ≤ l1)]
        by_cases inside : h < l2
        · rw [if_pos inside]
          split
          · exact Nat.add_le_add_left (lineRise_mono levels volumes le) v1
          · exact (lineRise_le levels volumes inside.le).trans (first_le_volumeAt h' later)
        · rw [if_neg inside, if_neg (by omega)]
          exact ih later

theorem volumeAt_of_last_le {table : List (Int × Nat)} {h : Int} {last : Int × Nat} (ascending : AscendingTable table)
    (ends : table.getLast? = some last) (high : last.1 ≤ h) : volumeAt table h = last.2 := by
  induction table with
  | nil => cases ends
  | cons first rest ih =>
    cases rest with
    | nil =>
      obtain rfl : first = last := by simpa using ends
      rfl
    | cons second rest =>
      obtain ⟨l1, v1⟩ := first
      obtain ⟨l2, v2⟩ := second
      obtain ⟨before, later⟩ := List.pairwise_cons.mp ascending
      have ends : ((l2, v2) :: rest).getLast? = some last := by rwa [List.getLast?_cons_cons] at ends
      have above : l1 < l2 := (before (l2, v2) List.mem_cons_self).1
      have reached : l2 ≤ last.1 := by
        rcases List.mem_cons.mp (List.mem_of_getLast? ends) with same | mem
        · rw [same]
        · exact ((List.pairwise_cons.mp later).1 last mem).1.le
      rw [volumeAt_cons_cons, if_neg (by omega), if_neg (by omega)]
      exact ih later ends

/-- Settles O53. -/
theorem medianAndVolumeStayBetween : Obligations.MedianAndVolumeStayBetween := by
  refine ⟨fun levels => ⟨medianLevel_eq_none_iff levels, fun m => medianLevel_between⟩, ?_⟩
  intro table h h' first last ascending begins ends
  obtain ⟨rest, rfl⟩ := List.head?_eq_some_iff.mp begins
  exact ⟨volumeAt_of_le_first, volumeAt_of_last_le ascending ends, volumeAt_mono ascending⟩

/-! ## Band demand (R30) -/

section Bands

variable {bands : List (Int × Int)} {h : Int}

theorem riseBands_of_below {fuel db : Nat} (below : ∀ b, bands[db]? = some b → h < b.1) : riseBands bands h fuel db = db := by
  cases fuel with
  | zero => rfl
  | succ fuel =>
    rw [riseBands]
    split
    case h_1 start stop at_db => exact if_neg (by have := below _ at_db; dsimp only at this; omega)
    case h_2 => rfl

theorem fallBands_of_above {db : Nat} (above : ∀ n b, n + 1 = db → bands[n]? = some b → b.2 ≤ h) : fallBands bands h db = db := by
  cases db with
  | zero => rfl
  | succ db =>
    rw [fallBands]
    split
    case h_1 start stop at_db => exact if_neg (by have := above db _ rfl at_db; dsimp only at this; omega)
    case h_2 => rfl

/-- Where the rising pass ends, with enough fuel for every band: it passed started bands only, and the next band does not start. -/
theorem riseBands_spec {fuel db : Nat} (inside : db ≤ bands.length) (enough : bands.length ≤ db + fuel) :
    db ≤ riseBands bands h fuel db ∧ riseBands bands h fuel db ≤ bands.length ∧
      (∀ n b, bands[n]? = some b → db ≤ n → n < riseBands bands h fuel db → b.1 ≤ h) ∧
      ∀ b, bands[riseBands bands h fuel db]? = some b → h < b.1 := by
  induction fuel generalizing db with
  | zero =>
    refine ⟨le_refl _, inside, fun n b _ from_ to_ => absurd from_ (by rw [riseBands] at to_; omega), fun b at_db => ?_⟩
    have := (List.getElem?_eq_some_iff.mp at_db).1
    rw [riseBands] at this
    omega
  | succ fuel ih =>
    by_cases starts : ∃ b, bands[db]? = some b ∧ b.1 ≤ h
    case pos =>
      obtain ⟨b, at_db, start⟩ := starts
      have step : riseBands bands h (fuel + 1) db = riseBands bands h fuel (db + 1) := by
        rw [riseBands, at_db]
        exact if_pos start
      obtain ⟨more, within, passed, next⟩ :=
        ih (Nat.succ_le_of_lt (List.getElem?_eq_some_iff.mp at_db).1) (by omega : bands.length ≤ db + 1 + fuel)
      rw [step]
      refine ⟨Nat.le_of_succ_le more, within, fun n c at_n from_ to_ => ?_, next⟩
      obtain rfl | later := Nat.eq_or_lt_of_le from_
      · obtain rfl : b = c := Option.some.inj (at_db.symm.trans at_n)
        exact start
      · exact passed n c at_n later to_
    case neg =>
      have below : ∀ b, bands[db]? = some b → h < b.1 := fun b at_db => lt_of_not_ge fun start => starts ⟨b, at_db, start⟩
      rw [riseBands_of_below below]
      exact ⟨le_refl _, inside, fun n b _ from_ to_ => absurd from_ (by omega), below⟩

/-- Where the falling pass ends: it passed stopped bands only, and the band below does not stop. -/
theorem fallBands_spec (db : Nat) :
    fallBands bands h db ≤ db ∧ (∀ n b, bands[n]? = some b → fallBands bands h db ≤ n → n < db → h < b.2) ∧
      ∀ n b, n + 1 = fallBands bands h db → bands[n]? = some b → b.2 ≤ h := by
  induction db with
  | zero => exact ⟨le_refl _, fun n b _ _ to_ => by omega, fun n b at_n => by rw [fallBands] at at_n; omega⟩
  | succ db ih =>
    by_cases stops : ∃ b, bands[db]? = some b ∧ h < b.2
    case pos =>
      obtain ⟨b, at_db, stop⟩ := stops
      have step : fallBands bands h (db + 1) = fallBands bands h db := by
        rw [fallBands, at_db]
        exact if_pos stop
      obtain ⟨less, passed, stays⟩ := ih
      rw [step]
      refine ⟨by omega, fun n c at_n from_ to_ => ?_, stays⟩
      obtain rfl | before := Nat.eq_or_lt_of_le (Nat.le_of_lt_succ to_)
      · obtain rfl : b = c := Option.some.inj (at_db.symm.trans at_n)
        exact stop
      · exact passed n c at_n from_ before
    case neg =>
      have above : ∀ n b, n + 1 = db + 1 → bands[n]? = some b → b.2 ≤ h := by
        intro n b same at_n
        obtain rfl : n = db := by omega
        exact le_of_not_gt fun stop => stops ⟨b, at_n, stop⟩
      rw [fallBands_of_above above]
      exact ⟨le_refl _, fun n b _ from_ to_ => by omega, above⟩

end Bands

/-- Settles O54. -/
theorem bandDemandSettles : Obligations.BandDemandSettles := by
  intro bands h db _ hysteresis inside
  obtain ⟨more, within, started, next⟩ := riseBands_spec (h := h) inside (Nat.le_add_left bands.length db)
  obtain ⟨less, stopped, stays⟩ := fallBands_spec (bands := bands) (h := h) (riseBands bands h bands.length db)
  have below : ∀ b, bands[bandDemand bands h db]? = some b → h < b.1 := by
    intro b at_d
    obtain same | lower := Nat.eq_or_lt_of_le less
    · exact next b (same ▸ at_d)
    · exact (stopped _ b at_d (le_refl _) lower).trans (hysteresis b (List.mem_of_getElem? at_d))
  refine ⟨less.trans within, fun n b at_n from_ to_ => started n b at_n from_ (to_.trans_le less),
    fun n b at_n from_ to_ => stopped n b at_n from_ (to_.trans_le more), below, stays, ?_⟩
  rw [bandDemand, riseBands_of_below below]
  exact fallBands_of_above stays

/-! ## The queue of commands and the reset state -/

/-- Settles O1. -/
theorem queueRunsFront : Obligations.QueueRunsFront := fun _ _ _ => rfl

/-- Settles O60. -/
theorem resetHasEveryInvariant : Obligations.ResetHasEveryInvariant := by
  refine ⟨State.reset_kept _ _ _ _, State.reset_relaysFollow, ?_, State.reset_listKept, State.reset_viewOwnsClaim, ?_,
    State.reset_ownEntryEmpty, ?_, ?_, ?_, rfl, rfl, rfl, rfl, rfl, rfl, rfl, rfl, rfl, ?_, rfl, rfl, rfl, rfl, rfl, rfl, rfl, rfl,
    by decide, rfl, rfl, rfl, rfl⟩
  all_goals decide

end Sys2Proof.Machine
end

section
/-! Fields, codes, check value and frames of the Bay Link read back as they were written (section 4.7, R80, R83): O56. -/

namespace Sys2Proof.Machine

/-! ## Fields -/

theorem halfOf_halfBytes (h : Half) : halfOf (h.setWidth 8) ((h >>> 8).setWidth 8) = h := by
  refine BitVec.eq_of_getLsbD_eq fun i lt => ?_
  rw [halfOf, BitVec.getLsbD_append]
  split <;> simp <;> grind

theorem tripleOf_tripleBytes (v : BitVec 24) : tripleOf (v.setWidth 8) ((v >>> 8).setWidth 8) ((v >>> 16).setWidth 8) = v := by
  refine BitVec.eq_of_getLsbD_eq fun i lt => ?_
  rw [tripleOf, BitVec.getLsbD_append, BitVec.getLsbD_append]
  split
  · split <;> simp <;> grind
  · simp; grind

theorem wordOf_wordBytes (w : Word) :
    wordOf (w.setWidth 8) ((w >>> 8).setWidth 8) ((w >>> 16).setWidth 8) ((w >>> 24).setWidth 8) = w := by
  refine BitVec.eq_of_getLsbD_eq fun i lt => ?_
  rw [wordOf, BitVec.getLsbD_append, BitVec.getLsbD_append, BitVec.getLsbD_append]
  split
  · split
    · split <;> simp <;> grind
    · simp; grind
  · simp; grind

/-- The two halves of the byte of D and E. -/
theorem demandByte_high (d e : BitVec 4) : ((d ++ e) >>> 4).setWidth 4 = d := by
  refine BitVec.eq_of_getLsbD_eq fun i lt => ?_
  simp
  grind

theorem demandByte_low (d e : BitVec 4) : (d ++ e).setWidth 4 = e := by
  refine BitVec.eq_of_getLsbD_eq fun i lt => ?_
  simp
  grind

/-! ## Codes -/

theorem pumpStateOf_code (p : PumpState) : pumpStateOf (codeByte (pumpStateCode p)).toNat = some p := by cases p <;> rfl

theorem qualityOf_code (q : Quality) : qualityOf (codeByte (qualityCode q)).toNat = some q := by cases q <;> rfl

theorem outcomeOf_code (o : ClaimOutcome) : outcomeOf (codeByte (outcomeCode o)).toNat = some o := by cases o <;> rfl

theorem commandOf_code (c : CommandCode) : commandOf (codeByte (commandCode c)).toNat = some c := by cases c <;> rfl

theorem screenConditionOf_code (c : ScreenCondition) : screenConditionOf (codeByte (screenConditionCode c)).toNat = some c := by
  cases c <;> rfl

theorem rakeStateOf_code (k : RakeState) : rakeStateOf (codeByte (rakeStateCode k)).toNat = some k := by cases k <;> rfl

theorem spillStateOf_code (k : SpillState) : spillStateOf (codeByte (spillStateCode k)).toNat = some k := by cases k <;> rfl

theorem senderOf_code (g : Station) : senderOf (codeByte g.val) = some g := by
  have small : (codeByte g.val).toNat = g.val := Nat.mod_eq_of_lt (by omega)
  rw [senderOf, dif_pos (by omega)]
  exact congrArg some (Fin.ext small)

/-! ## Sections and payloads -/

theorem takeScreen_screenBytes (u : Option ScreenSection) (rest : List Byte) :
    takeScreen u.isSome ((u.map screenBytes).getD [] ++ rest) = some (u, rest) := by
  cases u with
  | none => rfl
  | some u =>
    simp [takeScreen, screenBytes, halfBytes, screenConditionOf_code, rakeStateOf_code, halfOf_halfBytes]

theorem takeWeir_weirBytes (w : Option WeirSection) (rest : List Byte) :
    takeWeir w.isSome ((w.map weirBytes).getD [] ++ rest) = some (w, rest) := by
  cases w with
  | none => rfl
  | some w =>
    simp [takeWeir, weirBytes, halfBytes, tripleBytes, spillStateOf_code, halfOf_halfBytes, tripleOf_tripleBytes]

theorem reportFlags_getLsbD (r : Report) :
    (reportFlags r).getLsbD 0 = r.configured ∧ (reportFlags r).getLsbD 1 = r.timeSync ∧ (reportFlags r).getLsbD 2 = r.isolated ∧
      (reportFlags r).getLsbD 3 = r.generator ∧ (reportFlags r).getLsbD 4 = r.inhibited ∧ (reportFlags r).getLsbD 5 = r.flowing ∧
      (reportFlags r).getLsbD 6 = r.screen.isSome ∧ (reportFlags r).getLsbD 7 = r.weir.isSome :=
  ⟨flagByte_getLsbD _ 0, flagByte_getLsbD _ 1, flagByte_getLsbD _ 2, flagByte_getLsbD _ 3, flagByte_getLsbD _ 4, flagByte_getLsbD _ 5,
    flagByte_getLsbD _ 6, flagByte_getLsbD _ 7⟩

theorem takeReport_reportPayload (r : Report) : takeReport (reportPayload r) = some r := by
  have screen := takeScreen_screenBytes r.screen ((r.weir.map weirBytes).getD [])
  have weir : takeWeir r.weir.isSome ((r.weir.map weirBytes).getD []) = some (r.weir, []) := by
    simpa using takeWeir_weirBytes r.weir []
  obtain ⟨configured, sync, isolated, generator, inhibited, flowing, hasScreen, hasWeir⟩ := reportFlags_getLsbD r
  unfold takeReport reportPayload reportFixed halfBytes
  simp only [List.cons_append, List.nil_append, pumpStateOf_code, qualityOf_code, configured, sync, isolated, generator, inhibited, flowing,
    hasScreen, hasWeir, screen, weir, halfOf_halfBytes, demandByte_high, demandByte_low]

theorem takePayload_payload (body : FrameBody) : takePayload body.kind body.payload = some body := by
  cases body with
  | report r => exact congrArg (Option.map FrameBody.report) (takeReport_reportPayload r)
  | startClaim number hours => exact congrArg (fun h => some (FrameBody.startClaim number h)) (halfOf_halfBytes hours)
  | startDone number outcome => exact congrArg (Option.map (FrameBody.startDone number)) (outcomeOf_code outcome)
  | time seconds => exact congrArg (fun w => some (FrameBody.time w)) (wordOf_wordBytes seconds)
  | command mask code argument => exact congrArg (Option.map fun c => FrameBody.command mask c argument) (commandOf_code code)

/-- No payload is longer than that of a REPORT with both sections (section 4.7). -/
theorem payload_length_le (body : FrameBody) : body.payload.length ≤ 25 := by
  cases body with
  | report r => cases screen : r.screen <;> cases weir : r.weir <;>
      simp [FrameBody.payload, reportPayload, reportFixed, screen, weir, screenBytes, weirBytes, halfBytes, tripleBytes]
  | _ => simp [FrameBody.payload, halfBytes, wordBytes]

/-! ## The check value (R83) -/

/-- A register whose low bits are 0 is only shifted. -/
theorem crcShifts_of_low_zero {k : Nat} {r : Half} (low : ∀ i < k, r.getLsbD i = false) : crcShifts k r = r >>> k := by
  induction k generalizing r with
  | zero => simp [crcShifts]
  | succ k ih =>
    have shift : crcShift r = r >>> 1 := if_neg (by rw [low 0 (Nat.succ_pos k)]; exact Bool.false_ne_true)
    rw [crcShifts, shift, ih fun i lt => by rw [BitVec.getLsbD_ushiftRight]; exact low _ (by omega), ← BitVec.shiftRight_add, Nat.add_comm]

/-- The byte that equals the low one of the register shifts it out. -/
theorem crcByte_low (r : Half) : crcByte r (r.setWidth 8) = r >>> 8 := by
  rw [crcByte, crcShifts_of_low_zero fun i lt => by simp; grind]
  refine BitVec.eq_of_getLsbD_eq fun i lt => ?_
  simp

theorem crc_withCheck (bytes : List Byte) : crc (withCheck bytes) = 0 := by
  have rest : crc (withCheck bytes) = crcByte (crcByte (crc bytes) ((crc bytes).setWidth 8)) ((crc bytes >>> 8).setWidth 8) := by
    rw [withCheck, crc, List.foldl_append]
    rfl
  rw [rest, crcByte_low, crcByte_low]
  refine BitVec.eq_of_getLsbD_eq fun i lt => ?_
  simp

/-- Settles O56. -/
theorem framesReadBack : Obligations.FramesReadBack := by
  intro sender body
  have bound := payload_length_le body
  have length : (frameBytes sender body).length = body.payload.length + 5 := by
    simp [frameBytes, withCheck, halfBytes]
  have count : (codeByte body.payload.length).toNat = body.payload.length := Nat.mod_eq_of_lt (by omega)
  have good : ¬((frameBytes sender body).length < 5 ∨ 30 < (frameBytes sender body).length ∨ crc (frameBytes sender body) ≠ 0) := by
    rintro (short | long | bad)
    · omega
    · omega
    · exact bad (crc_withCheck _)
  unfold parseFrame
  rw [if_neg good, length]
  unfold frameBytes withCheck
  simp [count, senderOf_code, takePayload_payload]

end Sys2Proof.Machine
end

section
/-! What the checks of an accepted image say of its fields and its tables (R170, R171, section 11.5): O55. -/

namespace Sys2Proof.Machine

theorem firstRead_some_of_accepted {station : Station} {reads : List (Option (List Byte))} {g : Settings}
    (accepted : judgeImage station reads = .accepted g) : ∃ image, checkImage station image = .accepted g := by
  unfold judgeImage at accepted
  split at accepted
  case h_1 image _ => exact ⟨image, accepted⟩
  case h_2 => cases accepted

/-- An image that is accepted has every checked field in its range and passes every consistency check, and gives its own settings. -/
theorem checkImage_accepted {station : Station} {image : List Byte} {g : Settings} (accepted : checkImage station image = .accepted g) :
    (∀ f ∈ checkedFields station image, f.good image = true) ∧ (∀ c ∈ consistencyChecks image, c.2 = true) ∧
      g = imageSettings station image := by
  unfold checkImage at accepted
  split at accepted
  · cases accepted
  · split at accepted
    · cases accepted
    · split at accepted
      case h_1 => cases accepted
      case h_2 => cases accepted
      case h_3 fields consistent =>
        refine ⟨fun f mem => ?_, fun c mem => ?_, (ImageVerdict.accepted.inj accepted).symm⟩
        · simpa using List.find?_eq_none.mp fields f mem
        · simpa using List.find?_eq_none.mp consistent c mem

/-! ## Fields in their ranges -/

section Field

variable {image : List Byte} {f : Field}

theorem Field.value_bounds {lo hi : Int} (ranges : f.ranges = [(lo, hi)]) (good : f.good image = true) :
    lo ≤ f.value image ∧ f.value image ≤ hi := by
  simpa [Field.good, ranges] using good

theorem Field.count_bounds {lo hi : Nat} (ranges : f.ranges = [((lo : Int), (hi : Int))]) (good : f.good image = true) :
    lo ≤ f.count image ∧ f.count image ≤ hi := by
  obtain ⟨lower, upper⟩ := Field.value_bounds ranges good
  unfold Field.count
  omega

end Field

/-! ## Tables -/

/-- Neighbours in a transitive order make the whole list stand in it. -/
theorem pairwise_of_ordered {α : Type} {r : α → α → Bool} (trans : ∀ a b c, r a b = true → r b c = true → r a c = true) {l : List α}
    (neighbours : ordered r l = true) : l.Pairwise fun a b => r a b = true := by
  induction l with
  | nil => exact .nil
  | cons a rest ih =>
    cases rest with
    | nil => simp
    | cons b rest =>
      obtain ⟨first, later⟩ : r a b = true ∧ ordered r (b :: rest) = true := by simpa [ordered] using neighbours
      have tail := ih later
      refine List.pairwise_cons.mpr ⟨fun c mem => ?_, tail⟩
      obtain rfl | more := List.mem_cons.mp mem
      · exact first
      · exact trans a b c first ((List.pairwise_cons.mp tail).1 c more)

@[simp] theorem length_imagePoints (image : List Byte) : (imagePoints image).length = min 12 (volumeCountField.count image) := by
  simp [imagePoints, pointCount]

@[simp] theorem length_imageBands (image : List Byte) : (imageBands image).length = min 8 (bandCountField.count image) := by
  simp [imageBands, bandCount]

/-- The volume table of an image that passes the consistency checks (R171). -/
theorem volumeTable_of_consistent {image : List Byte} (consistent : ∀ c ∈ consistencyChecks image, c.2 = true) :
    2 ≤ (imagePoints image).length ∧ (imagePoints image).length ≤ 12 ∧ AscendingTable (imagePoints image) := by
  simp only [consistencyChecks, List.forall_mem_cons, Bool.and_eq_true, decide_eq_true_eq] at consistent
  obtain ⟨-, ⟨⟨least, greatest⟩, neighbours⟩, -⟩ := consistent
  have ascending := pairwise_of_ordered (fun a b c => by simp only [Bool.and_eq_true, decide_eq_true_eq]; omega) neighbours
  rw [length_imagePoints]
  exact ⟨by omega, by omega, by simpa using ascending⟩

/-- The bands of an image that passes the consistency checks (R171). -/
theorem bands_of_consistent {image : List Byte} (consistent : ∀ c ∈ consistencyChecks image, c.2 = true) :
    1 ≤ (imageBands image).length ∧ (imageBands image).length ≤ 8 ∧ (imageBands image).Pairwise (fun a b => a.1 < b.1 ∧ a.2 < b.2) ∧
      ∀ b ∈ imageBands image, b.2 < b.1 := by
  simp only [consistencyChecks, List.forall_mem_cons, Bool.and_eq_true, decide_eq_true_eq, List.all_eq_true] at consistent
  obtain ⟨-, -, ⟨⟨⟨least, greatest⟩, neighbours⟩, hysteresis⟩, -⟩ := consistent
  have ascending := pairwise_of_ordered (fun a b c => by simp only [Bool.and_eq_true, decide_eq_true_eq]; omega) neighbours
  rw [length_imageBands]
  exact ⟨by omega, by omega, by simpa using ascending, hysteresis⟩

/-! ## The role -/

theorem imageRole_of_role {image : List Byte} {role : XRole} (named : (imageRole image).getD .none = role) (used : role ≠ .none) :
    imageRole image = some role := by
  cases read : imageRole image with
  | none => rw [read] at named; exact absurd named.symm used
  | some r => rw [read] at named; exact congrArg some named

/-- The screen's levels and limits (R171). -/
theorem screen_of_accepted {station : Station} {image : List Byte} (fields : ∀ f ∈ checkedFields station image, f.good image = true)
    (consistent : ∀ c ∈ consistencyChecks image, c.2 = true) (role : imageRole image = some .screen) :
    rakeLevelField.value image < blindLevelField.value image ∧ blindClearField.value image < blindLevelField.value image ∧
      blindedField.count image ≤ 8 ∧ unknownField.count image ≤ 8 := by
  have levels : (rakeLevelField.value image < blindLevelField.value image) ∧
      blindClearField.value image < blindLevelField.value image := by
    simp only [consistencyChecks, List.forall_mem_cons] at consistent
    obtain ⟨-, -, -, levels, -⟩ := consistent
    simpa [role] using levels
  have checked (f : Field) (mem : f ∈ [blindedField, unknownField]) : f.good image = true := by
    refine fields f ?_
    rw [checkedFields, if_pos role]
    simp only [List.mem_append, List.mem_cons] at mem ⊢
    tauto
  exact ⟨levels.1, levels.2, (Field.count_bounds (lo := 0) (hi := 8) rfl (checked blindedField (by simp))).2,
    (Field.count_bounds (lo := 0) (hi := 8) rfl (checked unknownField (by simp))).2⟩

theorem bitRateOf_cases (code : Nat) : bitRateOf code = 9600 ∨ bitRateOf code = 19200 ∨ bitRateOf code = 38400 := by
  unfold bitRateOf
  split
  · exact .inr (.inl rfl)
  · split
    · exact .inr (.inr rfl)
    · exact .inl rfl

/-- Settles O55. -/
theorem acceptedImagesAreInRange : Obligations.AcceptedImagesAreInRange := by
  intro station reads g accepted
  obtain ⟨image, accepted⟩ := firstRead_some_of_accepted accepted
  obtain ⟨fields, consistent, rfl⟩ := checkImage_accepted accepted
  have range {f : Field} {lo hi : Nat} (mem : f ∈ checkedFields station image) (ranges : f.ranges = [((lo : Int), (hi : Int))]) :
      lo ≤ f.count image ∧ f.count image ≤ hi := Field.count_bounds ranges (fields f mem)
  have report := range (f := reportField) (lo := 250) (hi := 2000) (by simp [checkedFields]) rfl
  have size := range (f := houseSizeField) (lo := 1) (hi := 8) (by simp [checkedFields]) rfl
  have reporter := range (f := reporterField) (lo := 0) (hi := 8) (by simp [checkedFields]) rfl
  have utility := range (f := utilityField) (lo := 1) (hi := 8) (by simp [checkedFields]) rfl
  have generator := range (f := generatorField) (lo := 0) (hi := 8) (by simp [checkedFields]) rfl
  have fallback := range (f := fallbackField) (lo := 0) (hi := 8) (by simp [checkedFields]) rfl
  have lost := range (f := screenLostField) (lo := 0) (hi := 8) (by simp [checkedFields]) rfl
  have feedback := range (f := feedbackField) (lo := 1) (hi := 10) (by simp [checkedFields]) rfl
  have settle := range (f := settleField) (lo := 1) (hi := 30) (by simp [checkedFields]) rfl
  have run := range (f := minimumRunField) (lo := 30) (hi := 900) (by simp [checkedFields]) rfl
  have off := range (f := minimumOffField) (lo := 60) (hi := 1800) (by simp [checkedFields]) rfl
  have storm := range (f := stormField) (lo := 10) (hi := 600) (by simp [checkedFields]) rfl
  have isolated := range (f := isolatedField station) (lo := 1) (hi := 8) (by simp [checkedFields]) rfl
  have span := range (f := spanField 2) (lo := 500) (hi := 20000) (by simp [checkedFields, channelFields]) rfl
  have address := range (f := addressField) (lo := 1) (hi := 247) (by simp [checkedFields]) rfl
  have townAddress : (BitVec.ofNat 8 (addressField.count image)).toNat = addressField.count image := Nat.mod_eq_of_lt (by omega)
  obtain ⟨twoPoints, twelvePoints, points⟩ := volumeTable_of_consistent consistent
  obtain ⟨oneBand, eightBands, bands, hysteresis⟩ := bands_of_consistent consistent
  have screen (role : (imageRole image).getD .none = .screen) :=
    screen_of_accepted fields consistent (imageRole_of_role role (fun h => nomatch h))
  have weir (role : (imageRole image).getD .none = .weir) : endMarginField.value image < startMarginField.value image := by
    simp only [consistencyChecks, List.forall_mem_cons] at consistent
    obtain ⟨-, -, -, -, margins, -⟩ := consistent
    simpa [imageRole_of_role role (fun h => nomatch h)] using margins
  exact ⟨report.1, report.2, size.1, size.2, reporter.2, utility.1, utility.2, generator.2, fallback.2, lost.2, feedback.1, feedback.2,
    settle.1, settle.2, run.1, run.2, off.1, off.2, storm.1, storm.2, isolated.1, isolated.2, span.1, span.2,
    townAddress.symm ▸ address.1, townAddress.symm ▸ address.2, bitRateOf_cases _, twoPoints, twelvePoints, points, oneBand, eightBands,
    bands, hysteresis, screen, weir⟩

end Sys2Proof.Machine
end

section
/-! What a reaction of the pump sequencer shows outside the pump, the window and the port: the points it can move, the records it can add,
and counts, R and E that are current after it (R37 to R40, R92 to R96, R154 to R157). -/

namespace Sys2Proof.Machine

/-! ## Alarm points -/

theorem pointIndex_injective : Function.Injective pointIndex := by
  intro p q same
  revert p q
  have : ∀ p q : AlarmPoint, pointIndex p = pointIndex q → p = q := by
    intro p q
    cases p <;> cases q <;> simp [pointIndex]
  exact fun {p q} => this p q

namespace State

theorem PointsBut.refl (s : State) (ps : List AlarmPoint) : s.PointsBut s ps := ⟨fun _ _ => rfl, rfl⟩

theorem PointsBut.of_alarms {s t : State} (h : t.alarms = s.alarms) (ps : List AlarmPoint) : s.PointsBut t ps :=
  ⟨fun i _ => by rw [h], by rw [h]⟩

theorem PointsBut.mono {s t : State} {ps qs : List AlarmPoint} (h : s.PointsBut t ps) (sub : ps ⊆ qs := by simp) : s.PointsBut t qs :=
  ⟨fun i outside => h.1 i fun inside => outside (List.map_subset _ sub inside), h.2⟩

theorem PointsBut.trans {s t u : State} {ps : List AlarmPoint} (h : s.PointsBut t ps) (k : t.PointsBut u ps) : s.PointsBut u ps :=
  ⟨fun i outside => (k.1 i outside).trans (h.1 i outside), k.2.trans h.2⟩

/-- A point outside the list keeps its raw condition. -/
theorem PointsBut.rawOf {s t : State} {ps : List AlarmPoint} (h : s.PointsBut t ps) {p : AlarmPoint} (outside : p ∉ ps := by simp) :
    t.rawOf p = s.rawOf p :=
  congrArg PointState.raw (h.1 _ fun inside => outside ((List.mem_map_of_injective pointIndex_injective).mp inside))

end State

/-! ## The event queue -/

/-- The queue keeps its records at its head, and while none has been lost and there is room for `n`, it adds at most `n` and loses none. -/
def EventQueue.Grows (n : Nat) (q r : EventQueue) : Prop :=
  q.records <+: r.records ∧
    (q.overflow = 0 → q.records.length + n ≤ 64 → r.overflow = 0 ∧ r.records.length ≤ q.records.length + n)

namespace EventQueue.Grows

variable {q r u : EventQueue} {m n : Nat}

theorem refl (q : EventQueue) (n : Nat) : q.Grows n q := ⟨List.prefix_refl _, fun none _ => ⟨none, Nat.le_add_right _ _⟩⟩

theorem mono (h : q.Grows m r) (le : m ≤ n := by omega) : q.Grows n r :=
  ⟨h.1, fun none room => by obtain ⟨still, few⟩ := h.2 none (by omega); exact ⟨still, by omega⟩⟩

theorem trans (h : q.Grows m r) (k : r.Grows n u) : q.Grows (m + n) u := by
  refine ⟨h.1.trans k.1, fun none room => ?_⟩
  obtain ⟨still, few⟩ := h.2 none (by omega)
  obtain ⟨stays, fewer⟩ := k.2 still (by omega)
  exact ⟨stays, by omega⟩

end EventQueue.Grows

theorem EventQueue.takeIn_grows (own : Station) (r : EventRecord) (q : EventQueue) : q.Grows 1 (q.takeIn own r) := by
  by_cases full : 64 ≤ q.records.length
  · rw [takeIn_of_full own r full]
    exact ⟨List.prefix_refl _, fun _ room => by omega⟩
  · by_cases none : q.overflow = 0
    · rw [takeIn_of_none_lost own r (by omega) none]
      exact ⟨List.prefix_append _ _, fun _ _ => ⟨none, by simp [push]⟩⟩
    · refine ⟨?_, fun lost => absurd lost none⟩
      by_cases one : q.records.length = 63
      · rw [takeIn_of_one_place own r one (by omega)]
        exact List.prefix_append _ _
      · rw [takeIn_of_two_places own r (by omega) (by omega), pushOverflow, push_push]
        exact List.prefix_append _ _

/-- A record pushed stands behind the records a queue before had. -/
theorem EventQueue.mem_drop_of_push {q u : EventQueue} {r : EventRecord} (old : q.records <+: u.records) (rest : List EventRecord) :
    { r with sequence := u.counter } ∈ ((u.push r).records ++ rest).drop q.records.length := by
  rw [push, List.append_assoc, List.drop_append_of_le_length old.length_le]
  exact List.mem_append_right _ List.mem_cons_self

namespace State

variable (s : State)

theorem offerFrom_grows (source : Station) (kind : EventKind) (subject : Nat) (values : List Word) :
    s.events.Grows 1 (s.offerFrom source kind subject values).events := by
  unfold offerFrom
  split
  · exact EventQueue.takeIn_grows ..
  · exact .refl _ _

theorem offer_grows (kind : EventKind) (subject : Nat) (values : List Word) : s.events.Grows 1 (s.offer kind subject values).events :=
  s.offerFrom_grows ..

theorem setPoint_grows (i : Fin 25) (p : PointState) (cause : Nat) : s.events.Grows 1 (s.setPoint i p cause).events := by
  unfold setPoint
  dsimp only
  split
  · exact .refl _ _
  · exact offer_grows (s.withAlarms (s.alarms.withPoint s.lampMask i p)) ..

theorem deliver_grows (p : AlarmPoint) (raw : Bool) : s.events.Grows 1 (s.deliver p raw).events := by
  unfold deliver
  split
  · exact s.setPoint_grows ..
  · exact .refl _ _

/-- An event offered where none has been lost and there is room stands in the queue from then on (R154 to R157). -/
theorem records_of_offerFrom {s u t : State} {m n : Nat} {source : Station} {kind : EventKind} {subject : Nat} {values : List Word}
    (started : s.started = true) (start : u.start = s.start) (before : s.events.Grows m u.events)
    (after : (u.offerFrom source kind subject values).events.records <+: t.events.records) (clock : t.clock = u.clock)
    (le : m + 1 ≤ n := by omega) : s.Records t n kind source subject values := by
  intro takes none room
  obtain ⟨old, fits⟩ := before
  obtain ⟨still, few⟩ := fits none (by omega)
  have classes : u.takesClass (eventClass kind) = true := by
    rw [← takes]
    simp only [takesClass, classMask, cfg, start]
  have offered : (u.offerFrom source kind subject values).events = u.events.push
      { sequence := 0, time := u.clock.seconds, sync := u.clock.sync, kind := kind, source := source, subject := BitVec.ofNat 8 subject,
        values := values } := by
    rw [offerFrom, if_pos (by rw [classes, State.started, start, ← State.started, started]; rfl), withEvents_events,
      EventQueue.takeIn_of_none_lost _ _ (by omega) still]
  rw [offered] at after
  obtain ⟨rest, records⟩ := after
  have mem := EventQueue.mem_drop_of_push (r := { sequence := 0, time := u.clock.seconds, sync := u.clock.sync, kind := kind,
                                                  source := source, subject := BitVec.ofNat 8 subject, values := values }) old rest
  rw [records] at mem
  exact ⟨_, mem, rfl, rfl, rfl, rfl, congrArg Clock.seconds clock.symm, congrArg Clock.sync clock.symm⟩

end State

/-! ## Current counts -/

/-- C, A, the house supply, Slim, R and E are current (R37, R38, R92 to R96). -/
def State.Tallied (s : State) : Prop := s.CountsCurrent ∧ s.DemandLimited

namespace State

theorem Calm.tallied {s t : State} (h : s.Calm t) (k : s.Tallied) : t.Tallied := by
  obtain ⟨counts, limited⟩ := k
  constructor
  · rw [CountsCurrent, h.working, h.drawing, h.available, h.supply, h.screenLimit, h.drawingCount, h.availableCount, h.houseSupply, h.slim]
    exact counts
  · rw [DemandLimited, h.working, h.effective, h.demand, h.limit, h.screenLimit, h.available, h.supply, cfg, h.settings]
    exact limited

theorem withCounts_tallied (s : State) : s.withCounts.Tallied := by
  have moves := withCounts_moves s
  obtain ⟨drawn, counted, fed, slim⟩ := withCounts_sources s
  refine ⟨fun working => ?_, fun working => ?_⟩
  all_goals
    obtain ⟨drawing, available, supply, screenLimit, limit, effective⟩ := withCounts_counts (s := s) (by rw [← moves.working]; exact working)
  · rw [drawn, counted, fed, slim]
    exact ⟨drawing, available, supply, screenLimit⟩
  · rw [effective, limit, screenLimit, available, supply, moves.demand, moves.cfg]
    exact ⟨rfl, rfl⟩

/-! ## Reactions -/

/-- What the sequencer does as it reacts: no block of another owner moves, no alarm point but those named, at most `n` records are added,
and current counts stay current. -/
structure Reacts (s t : State) (ps : List AlarmPoint) (n : Nat) : Prop where
  moves : s.Moves t
  points : s.PointsBut t ps
  grows : s.events.Grows n t.events
  tallied : s.Tallied → t.Tallied

namespace Reacts

variable {s t u : State} {ps qs : List AlarmPoint} {m n : Nat}

theorem refl (s : State) (ps : List AlarmPoint) (n : Nat) : s.Reacts s ps n := ⟨.refl s, .refl s ps, .refl _ n, id⟩

theorem trans (h : s.Reacts t ps m) (k : t.Reacts u ps n) : s.Reacts u ps (m + n) :=
  ⟨h.moves.trans k.moves, h.points.trans k.points, h.grows.trans k.grows, k.tallied ∘ h.tallied⟩

theorem mono (h : s.Reacts t ps m) (le : m ≤ n := by omega) (sub : ps ⊆ qs := by simp) : s.Reacts t qs n :=
  ⟨h.moves, h.points.mono sub, h.grows.mono le, h.tallied⟩

theorem ite {p : Prop} [Decidable p] (h : p → s.Reacts t ps n) (k : ¬ p → s.Reacts u ps n) : s.Reacts (if p then t else u) ps n := by
  split
  case isTrue hp => exact h hp
  case isFalse hp => exact k hp

/-- A calm move that leaves the alarm block and the queue alone. -/
theorem of_calm (moves : s.Moves t) (calm : s.Calm t) (alarms : t.alarms = s.alarms := by rfl) (events : t.events = s.events := by rfl)
    (ps : List AlarmPoint := []) : s.Reacts t ps 0 :=
  ⟨moves, .of_alarms alarms ps, by rw [events]; exact .refl _ _, calm.tallied⟩

end Reacts

variable (s : State)

theorem withWindow_reacts (w : Window) (ps : List AlarmPoint) : s.Reacts (s.withWindow w) ps 0 :=
  .of_calm ((Moves.refl s).withWindow w) (withWindow_calm w s) rfl rfl ps

theorem withLink_reacts (l : Link) (ps : List AlarmPoint) : s.Reacts (s.withLink l) ps 0 :=
  .of_calm ((Moves.refl s).withLink l) (withLink_calm l s) rfl rfl ps

/-- The pump changes in what the counts do not read. -/
theorem withPump_reacts {s : State} {p : Pump} (ps : List AlarmPoint) (state : p.state = s.pump.state := by rfl)
    (contactor : p.contactor = s.pump.contactor := by rfl) (runFb : p.runFb.active = s.pump.runFb.active := by rfl) :
    s.Reacts (s.withPump p) ps 0 :=
  .of_calm ((Moves.refl s).withPump p) (withPump_calm state contactor runFb) rfl rfl ps

theorem deliver_reacts (p : AlarmPoint) (raw : Bool) : s.Reacts (s.deliver p raw) [p] 1 :=
  ⟨(Moves.refl s).deliver p raw, s.deliver_pointsBut p raw, s.deliver_grows p raw, (deliver_calm p raw s).tallied⟩

theorem offer_reacts (kind : EventKind) (subject : Nat) (values : List Word) (ps : List AlarmPoint) :
    s.Reacts (s.offer kind subject values) ps 1 :=
  ⟨(Moves.refl s).offer kind subject values, .of_alarms (offer_alarms ..) ps, s.offer_grows .., (offer_calm ..).tallied⟩

theorem closeClaim_reacts (outcome : ClaimOutcome) (ps : List AlarmPoint) : s.Reacts (s.closeClaim outcome) ps 0 :=
  .of_calm (closeClaim_moves outcome s) (closeClaim_calm outcome s) (closeClaim_alarms ..) (closeClaim_events ..) ps

theorem closeOwnClaim_reacts (outcome : ClaimOutcome) (ps : List AlarmPoint) : s.Reacts (s.closeOwnClaim outcome) ps 0 :=
  .of_calm (closeOwnClaim_moves outcome s) (closeOwnClaim_calm outcome s) (closeOwnClaim_alarms ..) (closeOwnClaim_events ..) ps

theorem withCounts_reacts (ps : List AlarmPoint) : s.Reacts s.withCounts ps 0 :=
  ⟨withCounts_moves s, .of_alarms (withCounts_alarms s) ps, by rw [withCounts_events]; exact .refl _ _, fun _ => withCounts_tallied s⟩

theorem evalRisk_reacts : s.Reacts s.evalRisk [.overflowRisk] 1 := s.deliver_reacts ..

/-- Entry to a state leaves the counts current, whatever they were (R96). -/
theorem enter_tallied (st : PumpState) : (s.enter st).Tallied := (evalRisk_calm _).tallied (withCounts_tallied _)

theorem enter_reacts (st : PumpState) : s.Reacts (s.enter st) [.overflowRisk] 1 where
  moves := enter_moves st s
  points := (PointsBut.of_alarms (by rw [withCounts_alarms, queueReport_alarms]; rfl) _).trans (evalRisk_reacts _).points
  grows := by
    have quiet : (((s.withPump (s.pump.enter st)).withWindow
        { s.window with patience := if st = .waiting then .start else .stopped }).queueReport).withCounts.events = s.events := by
      rw [withCounts_events, queueReport_events]; rfl
    have risk := (evalRisk_reacts (((s.withPump (s.pump.enter st)).withWindow
        { s.window with patience := if st = .waiting then .start else .stopped }).queueReport).withCounts).grows
    rw [quiet] at risk
    exact risk
  tallied _ := s.enter_tallied st

theorem trip_pumpFault_reacts : s.Reacts (s.trip .pumpFault) [.overflowRisk] 2 :=
  ((((withPump_reacts _).trans (closeOwnClaim_reacts ..)).trans (enter_reacts ..)).trans (offer_reacts ..))

theorem trip_reacts (cause : TripCause) : s.Reacts (s.trip cause) [tripPoint cause, .overflowRisk] 3 := by
  have shown : s.Reacts (if cause = .pumpFault then s.withPump { s.pump with latch := some cause }
      else (s.withPump { s.pump with latch := some cause }).deliver (tripPoint cause) true) [tripPoint cause, .overflowRisk] 1 :=
    .ite (fun _ => (withPump_reacts []).mono) (fun _ => (((withPump_reacts _).trans (deliver_reacts ..)).mono))
  exact ((shown.trans (closeOwnClaim_reacts ..)).trans ((enter_reacts ..).mono (Nat.le_refl 1))).trans (offer_reacts ..)

theorem enterRest_reacts (st : PumpState) : s.Reacts (s.enterRest st) [.overflowRisk] 3 :=
  .ite (fun _ => (s.enter_reacts st).trans (trip_pumpFault_reacts _)) (fun _ => (s.enter_reacts st).mono)

theorem completeStop_reacts : s.Reacts s.completeStop [.overflowRisk] 3 :=
  .ite (fun _ => enterRest_reacts ..) (fun _ => enterRest_reacts ..)

theorem offerStopped_reacts (cause : StopCause) (ps : List AlarmPoint) : s.Reacts (s.offerStopped cause) ps 1 := offer_reacts ..

theorem stopPump_reacts (cause : StopCause) : s.Reacts (s.stopPump cause) [.overflowRisk] 5 := by
  have stopping : s.Reacts (((s.closeOwnClaim .withdrawn).enter .stopping).offerStopped cause) [.overflowRisk] 2 :=
    ((s.closeOwnClaim_reacts ..).trans (enter_reacts ..)).trans (offerStopped_reacts ..)
  exact .ite (fun _ => stopping.mono) (fun _ => stopping.trans (completeStop_reacts _))

theorem enterStarting_reacts (viaClaim : Bool) : s.Reacts (s.enterStarting viaClaim) [.overflowRisk] 1 :=
  (s.withWindow_reacts ..).trans (enter_reacts ..)

theorem openClaim_reacts : s.Reacts s.openClaim [.overflowRisk] 1 :=
  ((s.withWindow_reacts ..).trans (withLink_reacts ..)).trans (enter_reacts ..)

theorem evalClaim_reacts : s.Reacts s.evalClaim [.overflowRisk] 1 := .ite (fun _ => s.openClaim_reacts) (fun _ => .refl ..)

theorem beginStagger_reacts : s.Reacts s.beginStagger [.overflowRisk] 1 :=
  .ite (fun _ => s.enterStarting_reacts _) (fun _ => (withPump_reacts [.overflowRisk]).mono)

theorem enterWaiting_reacts : s.Reacts s.enterWaiting [.overflowRisk] 2 :=
  (s.enter_reacts .waiting).trans (.ite (fun _ => .ite (fun _ => beginStagger_reacts _) (fun _ => evalClaim_reacts _))
    (fun _ => enter_reacts ..))

theorem enterIdle_reacts : s.Reacts s.enterIdle [.overflowRisk] 3 :=
  (s.enter_reacts .idle).trans (.ite (fun _ => enterWaiting_reacts _) (fun _ => .refl ..))

theorem checkLockout_reacts : s.Reacts s.checkLockout [.overflowRisk] 3 := .ite (fun _ => s.enterIdle_reacts) (fun _ => .refl ..)

/-- The stops of RUNNING, one or none: after a stop the pump is no longer RUNNING, so there is no second (R55, R56). -/
theorem stops_cases : s.immediateStop.dutyStop = s ∨ ∃ cause, s.immediateStop.dutyStop = s.stopPump cause := by
  have duty (u : State) : u.dutyStop = u ∨ u.dutyStop = u.stopPump .duty := (ite_eq_or_eq _ _ _).symm
  have still (cause : StopCause) : (s.stopPump cause).dutyStop = s.stopPump cause := by
    have open_ := stopPump_open cause s
    refine if_neg fun h => ?_
    have closed := open_.2
    rw [ContactorFollows, open_.1, h.1] at closed
    cases closed
  unfold immediateStop
  split
  · split
    · exact .inr ⟨_, still _⟩
    · split
      · exact .inr ⟨_, still _⟩
      · exact (duty s).imp_right fun h => ⟨_, h⟩
  · exact (duty s).imp_right fun h => ⟨_, h⟩

theorem immediateStop_cases : s.immediateStop = s ∨ ∃ cause, s.immediateStop = s.stopPump cause := by
  unfold immediateStop
  split
  · split
    · exact .inr ⟨_, rfl⟩
    · split
      · exact .inr ⟨_, rfl⟩
      · exact .inl rfl
  · exact .inl rfl

theorem immediateStop_reacts : s.Reacts s.immediateStop [.overflowRisk] 5 := by
  rcases s.immediateStop_cases with same | ⟨cause, stops⟩
  · rw [same]; exact .refl ..
  · rw [stops]; exact stopPump_reacts ..

theorem dutyStop_reacts : s.Reacts s.dutyStop [.overflowRisk] 5 := .ite (fun _ => s.stopPump_reacts _) (fun _ => .refl ..)

theorem onDemand_reacts : s.Reacts s.onDemand [.overflowRisk] 5 := by
  unfold onDemand
  split
  · exact .ite (fun _ => s.enterWaiting_reacts.mono) (fun _ => .refl ..)
  · exact .ite (fun _ => .refl ..) (fun _ => (s.enter_reacts _).mono)
  · rcases s.stops_cases with same | ⟨cause, stops⟩
    · rw [same]; exact .refl ..
    · rw [stops]; exact stopPump_reacts ..
  · exact .refl ..

theorem handOn_reacts (before : State) : s.Reacts (before.handOn s) [.overflowRisk] 6 :=
  Reacts.trans (.ite (fun _ => s.onDemand_reacts) (fun _ => .refl ..)) (evalRisk_reacts _)

theorem recount_reacts : s.Reacts s.recount [.overflowRisk] 6 :=
  ((s.withCounts_reacts _).trans (handOn_reacts _ s)).mono

theorem recount_tallied : s.recount.Tallied := (handOn_reacts _ s).tallied (withCounts_tallied s)

theorem redemand_reacts : s.withDemand.Reacts s.redemand [.overflowRisk] 6 :=
  ((s.withDemand.withCounts_reacts _).trans (handOn_reacts _ s)).mono

theorem redemand_tallied : s.redemand.Tallied := (handOn_reacts _ s).tallied (withCounts_tallied _)

/-- D stands in the first row of R35 that applies once it has been recomputed. -/
theorem redemand_row (working : s.working = true) : s.redemand.balance.demand = s.redemand.demandRow := by
  have kept := s.redemand_reacts.moves.demandCurrent (withDemand_current s)
  exact kept (by rw [s.redemand_reacts.moves.working, withDemand, if_pos working]; exact working)

theorem onIsolation_reacts : s.Reacts s.onIsolation [.overflowRisk] 3 := by
  unfold onIsolation
  split
  · split
    · exact .ite (fun _ => s.beginStagger_reacts.mono) (fun _ => (s.enter_reacts _).mono)
    · exact (s.closeOwnClaim_reacts ..).trans (enterIdle_reacts _) |>.mono
    · exact .refl ..
  · split
    · exact Reacts.ite (fun _ => ((withPump_reacts _).trans (evalClaim_reacts _)).mono)
        (fun _ => ((withPump_reacts _).trans (enter_reacts ..)).mono)
    · exact .refl ..

theorem setIsolated_reacts (flag : Bool) (cause : IsolationCause) :
    (s.withTable { s.table with isolated := flag, cause := cause }).Reacts (s.setIsolated flag cause) [.isolated, .overflowRisk] 10 :=
  .ite (fun _ => .refl ..) fun _ =>
    (((recount_reacts _).trans (onIsolation_reacts _)).mono (Nat.le_refl 9)).trans ((deliver_reacts ..).mono (Nat.le_refl 1))

end State

end Sys2Proof.Machine
end

section
/-! The passing of a millisecond (O2) and the two starts (O4). -/

namespace Sys2Proof.Machine

namespace State

/-! ## A millisecond -/

@[simp] theorem millisecond_lockoutFigure (s : State) : s.millisecond.lockoutFigure = s.lockoutFigure := by
  have seen : s.millisecond.spillSeen = s.spillSeen := by
    change (_ || (s.table.advance s.cfg).list.any _) = (_ || s.table.list.any _)
    rw [PeerTable.advance_list, List.any_map]
    rfl
  rw [lockoutFigure, seen]
  rfl

/-- The tick of the second is queued by the clock alone. -/
theorem secondsClockTick_mem_dueCommands (ticks : Bool) (s : State) : Instr.secondsClockTick ∈ s.dueCommands ticks ↔ ticks = true := by
  have panel : Instr.secondsClockTick ≠ if s.pins.dack = true then .panelAcknowledge else .acknowledgeInputReleased := by
    split <;> simp
  simp [dueCommands, dueStart, Channel.dueCommands, dueBalance, Pump.dueCommands, Link.dueCommands, duePeers, PeerEntry.dueCommands,
    Window.dueCommands, Screen.dueCommands, dueLines, panel]

/-- The end of the lockout is queued by its timer alone. -/
theorem lockoutEnd_mem_dueCommands (ticks : Bool) (s : State) :
    Instr.lockoutEnd ∈ s.dueCommands ticks ↔ s.pump.lockout.due s.lockoutFigure = true := by
  have panel : Instr.lockoutEnd ≠ if s.pins.dack = true then .panelAcknowledge else .acknowledgeInputReleased := by
    split <;> simp
  simp [dueCommands, dueStart, Channel.dueCommands, dueBalance, Pump.dueCommands, Link.dueCommands, duePeers, PeerEntry.dueCommands,
    Window.dueCommands, Screen.dueCommands, dueLines, panel]

end State

/-- Settles O2. -/
theorem idleLetsAMillisecondPass : Obligations.IdleLetsAMillisecondPass := by
  intro s ms empty lockout short
  have idles : step s = .next s.idle := by rw [step, empty]
  have risen : s.idle.pump.lockout = .running (ms + 1) := by
    change s.pump.lockout.advance s.lockoutFigure = _
    rw [lockout, Timer.advance, Nat.min_eq_right (by omega)]
  refine ⟨s.idle, idles, rfl, ?_, risen, ?_, rfl, rfl, rfl, rfl, rfl, rfl, rfl, rfl, rfl, rfl, rfl, rfl, rfl, rfl, rfl, rfl, rfl, rfl, rfl⟩
  · exact (decide_eq_true_iff.symm.trans (State.secondsClockTick_mem_dueCommands _ _).symm)
  · have timer : s.millisecond.pump.lockout = .running (ms + 1) := risen
    have queued := State.lockoutEnd_mem_dueCommands (decide (999 ≤ s.clock.subMs)) s.millisecond
    rw [timer, State.millisecond_lockoutFigure, Timer.due_running, decide_eq_true_iff] at queued
    exact ⟨fun same => queued.mpr (by omega), fun mem => by have := queued.mp mem; omega⟩

/-! ## The starts (R135, R168) -/

/-- Settles O4. -/
theorem startsReset : Obligations.StartsReset := by
  intro s r
  refine ⟨⟨_, rfl, rfl⟩, fun restarting state working => ?_, fun restarting state => ?_, fun restarting state working => ?_,
    fun restarting state working => ?_⟩
  case refine_2 =>
    refine ⟨_, rfl, ?_⟩
    rw [if_pos restarting, SpillMonitor.restart, state]
    rfl
  all_goals
    refine ⟨_, rfl, ?_⟩
    rw [if_pos restarting, SpillMonitor.restart, state, working]
    rfl

end Sys2Proof.Machine
end

section
/-! The end of LOADING (R168 to R174): the state at entry to LISTENING and at entry to CONFIG_FAULT (O5, O6). -/

namespace Sys2Proof.Machine

/-! ## Values at reset -/

theorem PeerTable.reset_count_drawing : PeerTable.reset.count PeerEntry.drawing = 0 := by decide

theorem PeerTable.reset_count_available : PeerTable.reset.count PeerEntry.available = 0 := by decide

theorem PeerTable.reset_generator (t : PeerTable) (entries : t.entries = PeerTable.reset.entries) :
    t.list.any (fun e => (e.seen.map Report.generator).getD false) = false := by
  rw [PeerTable.list, entries]
  decide

/-- Over EMPTY entries the counts are those of the own station alone (R92 to R95). -/
theorem State.counts_of_empty {s : State} (entries : s.table.entries = PeerTable.reset.entries) (isolated : s.table.isolated = false)
    (generator : s.table.generator.active = false) (startup : s.pump.state = .startup) (runFb : s.pump.runFb.active = false) :
    s.drawingCount = 0 ∧ s.availableCount = 0 ∧ s.houseSupply = .utility ∧
      s.slim = if s.cfg.role = .screen then min 8 s.screen.limit else 8 := by
  have count (p : PeerEntry → Bool) : s.table.count p = PeerTable.reset.count p := by
    rw [PeerTable.count, PeerTable.list, entries, PeerTable.count, PeerTable.list]
  refine ⟨?_, ?_, ?_, ?_⟩
  · rw [drawingCount, count, PeerTable.reset_count_drawing, startup, runFb]; rfl
  · rw [availableCount, count, PeerTable.reset_count_available, isolated, startup]; rfl
  · rw [houseSupply, PeerTable.reset_generator _ entries, generator]; rfl
  · have shares : s.table.list.map (PeerEntry.slimShare s.cfg.screenLostLimit s.table.isolated) = List.replicate 8 8 := by
      rw [PeerTable.list, entries]; rfl
    rw [slim, shares]
    simp only [List.replicate, List.foldl]
    split <;> omega

/-! ## Entry to LISTENING -/

namespace State

/-- The state at entry to LISTENING before the counts are formed, from one at its reset values (R3, R20, R36, R44, R78, R94, R121, R174). -/
def uncounted (g : Settings) (hours : Option Nat) (s : State) : State :=
  { s with
    start := { s.start with phase := .listening, settings := g, listening := .running 0 }
    pump := { Pump.reset with
      runSeconds := hours.getD 0 * 3600, configWrite := hours.isNone, runFb := .begin s.pins.drun,
      faultContact := .begin s.pins.dflt, contactHand := .begin s.pins.dsh, contactAuto := .begin s.pins.dsa }
    chanW := { Channel.reset with phase := .settling, discard := 2 }
    chanX := if g.role = .none then Channel.reset else { Channel.reset with phase := .settling, discard := 2 }
    balance := { Balance.reset with timer := .running 0, invalidHold := .running 0 }
    floats := { highHigh := .begin s.pins.dhh, lowLow := .begin s.pins.dll }
    table := { PeerTable.reset with generator := .begin s.pins.dgen }
    screen :=
      if g.role = .screen then { Screen.reset with limit := g.unknownLimit, cam := .begin s.pins.dcam, overload := .begin s.pins.dovl }
      else Screen.reset
    link := { Link.reset with queue := [{ body := .report, attempts := 0, sequence := none }], report := .running 0 }
    town := { Town.reset with silence := .running 0 }
    window := Window.reset
    alarms := { Alarms.reset with ack := .begin s.pins.dack }.refresh g.lampMask
    events := EventQueue.reset }

/-- The state at entry to LISTENING but for CONFIG_WRITE: the counts are those of a house in which nothing has been heard, R the utility
limit (R37, R92 to R96). -/
def listened (g : Settings) (hours : Option Nat) (s : State) : State :=
  { s.uncounted g hours with
    balance := { Balance.reset with timer := .running 0, invalidHold := .running 0, limit := g.utilityLimit }
    table :=
      { PeerTable.reset with generator := .begin s.pins.dgen, screenLimit := if g.role = .screen then min 8 g.unknownLimit else 8 } }

/-- What starts at entry to LISTENING, before the first REPORT is queued and the counts are formed. -/
theorem begun_eq (g : Settings) (hours : Option Nat) (s : State) :
    ((((s.withStart { s.start with phase := .listening, settings := g, listening := .start }).beginCommon .startup hours).beginChannels
      g).beginBalance.beginScreen g) =
    { s with
      start := { s.start with phase := .listening, settings := g, listening := .start }
      pump := s.pump.begin .startup s.pins hours
      chanW := .begin
      chanX := if g.role = .none then s.chanX else .begin
      balance := { s.balance with timer := .start, invalidHold := .start }
      floats := { highHigh := .begin s.pins.dhh, lowLow := .begin s.pins.dll }
      table := { s.table with generator := .begin s.pins.dgen }
      screen :=
        if g.role = .screen then { s.screen with limit := g.unknownLimit, cam := .begin s.pins.dcam, overload := .begin s.pins.dovl }
        else s.screen
      town := { s.town with silence := .start }
      alarms := { s.alarms with ack := .begin s.pins.dack }.refresh g.lampMask } := by
  unfold beginScreen beginChannels
  cases role : g.role <;> rfl

theorem uncounted_withCounts (g : Settings) (hours : Option Nat) (s : State) : (s.uncounted g hours).withCounts = s.listened g hours := by
  obtain ⟨drawing, available, supply, slim⟩ := counts_of_empty (s := s.uncounted g hours) rfl rfl rfl rfl rfl
  have limit : (if (s.uncounted g hours).cfg.role = .screen then min 8 (s.uncounted g hours).screen.limit else 8) =
      if g.role = .screen then min 8 g.unknownLimit else 8 := by
    change (if g.role = .screen then min 8 (if g.role = .screen then _ else _ : Screen).limit else 8) = _
    split <;> rfl
  rw [withCounts, if_pos (show (s.uncounted g hours).working = true from rfl), drawing, available, supply, slim, limit]
  refine ext_blocks rfl rfl rfl rfl rfl ?_ rfl rfl rfl rfl rfl rfl rfl rfl rfl rfl rfl
  simp [listened, uncounted, Settings.runningLimit, cfg, Balance.reset]

theorem enterListening_eq (g : Settings) (hours : Option Nat) {s : State} (loading : s.start.phase = .loading) (reset : s.LoadingAtReset) :
    s.enterListening g hours = (s.listened g hours).deliver .configWrite hours.isNone := by
  obtain ⟨pump, balance, floats, screen, window, link, table, alarms, events, town, chanW, chanX⟩ := reset loading
  have queued : ((((s.withStart { s.start with phase := .listening, settings := g, listening := .start }).beginCommon .startup
      hours).beginChannels g).beginBalance.beginScreen g).queueReport = s.uncounted g hours := by
    rw [begun_eq, pump, balance, screen, table, alarms, town, chanX]
    refine ext_blocks rfl rfl rfl rfl rfl rfl rfl rfl ?_ rfl window rfl rfl rfl events rfl rfl
    change ({ s.link.offer .report with report := .start } : Link) = _
    rw [link]
    rfl
  rw [enterListening, queued, uncounted_withCounts]

end State

end Sys2Proof.Machine
end

section
/-! LOADING_END with a good and with a bad image: O5 and O6. -/

namespace Sys2Proof.Machine

namespace State

/-! ## The ALARM_CHANGE of a point (R153) -/

/-- The ALARM_CHANGE a point in its new state offers. -/
def alarmRecord (i : Fin 25) (ann : Annunciator) (cause : Nat) (s : State) : EventRecord :=
  { sequence := 0, time := s.clock.seconds, sync := s.clock.sync, kind := .alarmChange, source := s.own,
    subject := BitVec.ofNat 8 i.val, values := [valueOf (annunciatorCode ann), valueOf cause] }

theorem setPoint_events_of_change {s : State} {i : Fin 25} {p : PointState} (cause : Nat) (started : s.started = true)
    (change : p.ann ≠ s.alarms.points[i].ann) :
    (s.setPoint i p cause).events = if s.takesClass 0 = true then s.events.takeIn s.own (s.alarmRecord i p.ann cause) else s.events := by
  unfold setPoint
  dsimp only
  rw [if_neg change, offer, offerFrom, withAlarms_started, started, Bool.true_and]
  change (if s.takesClass 0 = true then _ else _ : State).events = _
  split <;> rfl

theorem deliver_events_of_rise {s : State} {p : AlarmPoint} (started : s.started = true) (low : s.rawOf p = false)
    (normal : s.alarms.points[pointIndex p].ann = .normal) :
    (s.deliver p true).events =
      if s.takesClass 0 = true then s.events.takeIn s.own (s.alarmRecord (pointIndex p) .alert 0) else s.events := by
  rw [deliver, if_pos ⟨started, by rw [← rawOf, low]; exact Bool.false_ne_true⟩, normal]
  exact setPoint_events_of_change _ started (by rw [normal]; exact fun h => nomatch h)

/-! ## LOADING_END -/

section LoadingEnd

variable {s : State} {st0 st1 st2 : Bool} {images : List (Option (List Byte))} (words : List (Option (List Byte)))

theorem exec_loadingEnd_of_accepted {g : Settings} (loading : s.start.phase = .loading)
    (accepted : judgeImage (strapStation st0 st1 st2) images = .accepted g) :
    exec (.loadingEnd st0 st1 st2 images words) s =
      .next ((s.withStart { s.start with station := strapStation st0 st1 st2 }).enterListening g (judgeHours words)) := by
  change execLoadingEnd st0 st1 st2 images words s = _
  simp only [execLoadingEnd, loading, if_true, accepted]

theorem exec_loadingEnd_of_failed {cause offset : Nat} (loading : s.start.phase = .loading)
    (failed : judgeImage (strapStation st0 st1 st2) images = .failed cause offset) :
    exec (.loadingEnd st0 st1 st2 images words) s =
      .next ((s.withStart { s.start with station := strapStation st0 st1 st2 }).enterConfigFault cause offset (judgeHours words)) := by
  change execLoadingEnd st0 st1 st2 images words s = _
  simp only [execLoadingEnd, loading, if_true, failed]

end LoadingEnd

theorem listened_point (g : Settings) (hours : Option Nat) (s : State) (i : Fin 25) :
    (s.listened g hours).alarms.points[i] = Alarms.reset.points[i] := rfl

theorem reset_point (i : Fin 25) : Alarms.reset.points[i] = { raw := false, ann := .normal } := Vector.getElem_replicate _

end State

theorem strapStation_val (st0 st1 st2 : Bool) : (strapStation st0 st1 st2).val = st0.toNat + 2 * st1.toNat + 4 * st2.toNat := by
  cases st0 <;> cases st1 <;> cases st2 <;> rfl

namespace State

section Listened

variable (m : State) (g : Settings) (hours : Option Nat)

theorem listened_points_normal (i : Fin 25) : (m.listened g hours).alarms.points[i] = { raw := false, ann := .normal } :=
  (listened_point g hours m i).trans (reset_point i)

theorem listened_relaysFollow : (m.listened g hours).RelaysFollow := 
  refresh_relaysFollow { Alarms.reset with ack := .begin m.pins.dack } (m.listened g hours)

theorem listened_started : (m.listened g hours).started = true := rfl

theorem listened_rawOf (p : AlarmPoint) : (m.listened g hours).rawOf p = false := by rw [rawOf, listened_points_normal]

theorem deliver_listened_configWrite :
    ((m.listened g hours).deliver .configWrite hours.isNone).alarms.points[pointIndex .configWrite] =
      if hours.isNone then { raw := true, ann := .alert } else { raw := false, ann := .normal } := by
  cases hours with
  | none =>
    rw [deliver_alarms_of_change (listened_started m g none) (by rw [listened_rawOf]; exact Bool.false_ne_true), Alarms.withPoint_point_self,
      listened_points_normal]
    rfl
  | some _ => rw [deliver_of_held (by rw [listened_rawOf]; rfl), listened_points_normal]; rfl

theorem deliver_listened_point {i : Fin 25} (other : i ≠ pointIndex .configWrite) :
    ((m.listened g hours).deliver .configWrite hours.isNone).alarms.points[i] = Alarms.reset.points[i] :=
  ((deliver_pointsBut (m.listened g hours) .configWrite hours.isNone).1 i (by simpa using other)).trans (listened_point g hours m i)

theorem deliver_listened_events :
    ((m.listened g hours).deliver .configWrite hours.isNone).events =
      if hours.isNone = true ∧ g.classMask.getLsbD 0 = true then
        {
          records :=
            [{
               sequence := 0, time := m.clock.seconds, sync := m.clock.sync, kind := .alarmChange, source := m.own, subject := 24,
               values := [1, 0] }],
          counter := 1, overflow := 0 }
      else EventQueue.reset := by
  cases hours with
  | none =>
    rw [Option.isNone_none, deliver_events_of_rise (listened_started m g none) (listened_rawOf m g none _)
      (by rw [listened_points_normal])]
    simp only [true_and]
    rfl
  | some _ => rw [deliver_of_held (by rw [listened_rawOf]; rfl)]; rfl

end Listened

end State

/-- Settles O5. -/
theorem loadingEndStartsListening : Obligations.LoadingEndStartsListening := by
  intro s st0 st1 st2 images words g loading reset accepted
  have entered := State.enterListening_eq g (judgeHours words) (s := s.withStart { s.start with station := strapStation st0 st1 st2 })
    loading reset
  refine ⟨((s.withStart { s.start with station := strapStation st0 st1 st2 }).listened g (judgeHours words)).deliver .configWrite
    (judgeHours words).isNone, (State.exec_loadingEnd_of_accepted words loading accepted).trans ?_, strapStation_val st0 st1 st2, ?_⟩
  · rw [entered]
  simp only [State.deliver_start, State.deliver_pump, State.deliver_chanW, State.deliver_chanX, State.deliver_balance, State.deliver_floats,
    State.deliver_table, State.deliver_screen, State.deliver_link, State.deliver_town, State.deliver_window, State.deliver_clock,
    State.deliver_pins, State.deliver_spill, State.deliver_pending]
  refine ⟨rfl, rfl, rfl, rfl, rfl, rfl, rfl, rfl, rfl, rfl, rfl, ?_, State.deliver_listened_configWrite _ g _,
    (State.deliver_orderly _ _ _).relays (State.listened_relaysFollow _ g _), State.deliver_listened_events _ g _,
    fun i other => State.deliver_listened_point _ g _ other, rfl, rfl, rfl, rfl⟩
  exact (State.deliver_pointsBut _ _ _).2

/-! ## Why an image is refused (R170) -/

theorem firstRead_of_first {size : Nat} {image : List Byte} (rest : List (Option (List Byte))) (length : image.length = size) :
    firstRead size (some image :: rest) = some image := by
  simp [firstRead, Option.filter, length]

theorem judgeImage_of_unread {station : Station} {reads : List (Option (List Byte))} (unread : ∀ r ∈ reads.take 3, r = none) :
    judgeImage station reads = .failed 5 65535 := by
  have none : firstRead 200 reads = none := List.findSome?_eq_none_iff.mpr fun r mem => by rw [unread r mem]; rfl
  rw [judgeImage, none, noOffset]

theorem judgeImage_of_badCheck {station : Station} {image : List Byte} (rest : List (Option (List Byte))) (length : image.length = 200)
    (bad : crc image ≠ 0) : judgeImage station (some image :: rest) = .failed 1 65535 := by
  rw [judgeImage, firstRead_of_first rest length]
  dsimp only
  unfold checkImage
  rw [if_pos bad, noOffset]

theorem judgeImage_of_badVersion {station : Station} {image : List Byte} (rest : List (Option (List Byte))) (length : image.length = 200)
    (good : crc image = 0) (version : image.head? ≠ some 1) : judgeImage station (some image :: rest) = .failed 2 65535 := by
  have first : image.getD 0 0 ≠ 1 := by
    cases image with
    | nil => exact nomatch length
    | cons b _ => exact fun same => version (congrArg some same)
  rw [judgeImage, firstRead_of_first rest length]
  dsimp only
  unfold checkImage
  rw [if_neg (not_not.mpr good), if_pos first, noOffset]

namespace State

/-! ## Entry to CONFIG_FAULT -/

/-- The CONFIG_FAULT record, the first of the queue (R156, R173). -/
def faultRecord (cause offset : Nat) (s : State) : EventRecord :=
  { sequence := 0, time := s.clock.seconds, sync := s.clock.sync, kind := .configFault, source := s.own,
    subject := BitVec.ofNat 8 cause, values := [BitVec.ofNat 32 offset] }

/-- The state at entry to CONFIG_FAULT but for CONFIG_WRITE, from one at its reset values (R44, R78, R94, R156, R173). -/
def faulted (cause offset : Nat) (hours : Option Nat) (s : State) : State :=
  { s with
    start := { s.start with phase := .configFault, settings := .configFault s.own, listening := .stopped }
    pump := { Pump.reset with
      state := .unconfigured, runSeconds := hours.getD 0 * 3600, configWrite := hours.isNone, runFb := .begin s.pins.drun,
      faultContact := .begin s.pins.dflt, contactHand := .begin s.pins.dsh, contactAuto := .begin s.pins.dsa }
    chanW := Channel.reset
    chanX := Channel.reset
    balance := Balance.reset
    floats := { highHigh := .reset, lowLow := .reset }
    table := { PeerTable.reset with generator := .begin s.pins.dgen }
    screen := Screen.reset
    link := { Link.reset with queue := [{ body := .report, attempts := 0, sequence := none }], report := .running 0 }
    town := { Town.reset with silence := .running 0 }
    window := Window.reset
    alarms := { Alarms.reset with ack := .begin s.pins.dack }.refresh (BitVec.allOnes 32)
    events := { records := [s.faultRecord cause offset], counter := 1, overflow := 0 } }

theorem enterConfigFault_eq (cause offset : Nat) (hours : Option Nat) {s : State} (loading : s.start.phase = .loading)
    (reset : s.LoadingAtReset) :
    s.enterConfigFault cause offset hours = (s.faulted cause offset hours).deliver .configWrite hours.isNone := by
  obtain ⟨pump, balance, floats, screen, window, link, table, alarms, events, town, chanW, chanX⟩ := reset loading
  unfold enterConfigFault
  dsimp only
  congr 1
  refine ext_blocks rfl rfl rfl chanW chanX balance floats ?_ ?_ ?_ window screen rfl ?_ ?_ ?_ rfl
  · change s.pump.begin .unconfigured s.pins hours = _
    rw [pump]; rfl
  · change ({ s.link.offer .report with report := .start } : Link) = _
    rw [link]; rfl
  · change ({ s.table with generator := .begin s.pins.dgen } : PeerTable) = _
    rw [table]; rfl
  · change ({ s.alarms with ack := .begin s.pins.dack } : Alarms).refresh (BitVec.allOnes 32) = _
    rw [alarms]; rfl
  · change s.events.takeIn s.own (s.faultRecord cause offset) = _
    rw [events]; rfl
  · change ({ s.town with silence := .start } : Town) = _
    rw [town]; rfl

section Faulted

variable (m : State) (cause offset : Nat) (hours : Option Nat)

theorem faulted_point (i : Fin 25) : (m.faulted cause offset hours).alarms.points[i] = Alarms.reset.points[i] := rfl

theorem faulted_started : (m.faulted cause offset hours).started = true := rfl

theorem deliver_faulted_configWrite :
    ((m.faulted cause offset hours).deliver .configWrite hours.isNone).rawOf .configWrite = hours.isNone :=
  (deliver_delivers _ _ (faulted_started m cause offset hours)).1

theorem deliver_faulted_point {i : Fin 25} (other : i ≠ pointIndex .configWrite) :
    ((m.faulted cause offset hours).deliver .configWrite hours.isNone).alarms.points[i] = Alarms.reset.points[i] :=
  ((deliver_pointsBut (m.faulted cause offset hours) .configWrite hours.isNone).1 i (by simpa using other)).trans
    (faulted_point m cause offset hours i)

theorem deliver_faulted_head :
    ((m.faulted cause offset hours).deliver .configWrite hours.isNone).events.records.head? = some (m.faultRecord cause offset) := by
  obtain ⟨rest, more⟩ := ((m.faulted cause offset hours).deliver_grows .configWrite hours.isNone).1
  rw [← more]
  rfl

end Faulted

end State

/-- Settles O6. -/
theorem loadingEndFaults : Obligations.LoadingEndFaults := by
  intro s st0 st1 st2 images words cause offset loading reset failed
  have entered := State.enterConfigFault_eq cause offset (judgeHours words)
    (s := s.withStart { s.start with station := strapStation st0 st1 st2 }) loading reset
  refine ⟨((s.withStart { s.start with station := strapStation st0 st1 st2 }).faulted cause offset (judgeHours words)).deliver .configWrite
    (judgeHours words).isNone, (State.exec_loadingEnd_of_failed words loading failed).trans ?_, ?_⟩
  · rw [entered]
  simp only [State.deliver_start, State.deliver_pump, State.deliver_chanW, State.deliver_chanX, State.deliver_balance, State.deliver_floats,
    State.deliver_table, State.deliver_screen, State.deliver_link, State.deliver_town, State.deliver_window, State.deliver_clock,
    State.deliver_pins, State.deliver_spill, State.deliver_pending]
  refine ⟨rfl, rfl, rfl, rfl, rfl, rfl, rfl, rfl, rfl, rfl, rfl, State.deliver_faulted_head _ cause offset _,
    State.deliver_faulted_configWrite _ cause offset _, fun i other => State.deliver_faulted_point _ cause offset _ other, ?_, ?_, ?_,
    rfl, rfl, rfl, rfl⟩
  · intro unread
    have same := (judgeImage_of_unread unread).symm.trans failed
    simp only [ImageVerdict.failed.injEq] at same
    exact ⟨same.1.symm, same.2.symm⟩
  · rintro image rest rfl length bad
    have same := (judgeImage_of_badCheck rest length bad).symm.trans failed
    simp only [ImageVerdict.failed.injEq] at same
    exact ⟨same.1.symm, same.2.symm⟩
  · rintro image rest rfl length good version
    have same := (judgeImage_of_badVersion rest length good version).symm.trans failed
    simp only [ImageVerdict.failed.injEq] at same
    exact ⟨same.1.symm, same.2.symm⟩

end Sys2Proof.Machine
end

section
/-! What only the alarm block and the queue show: deliveries, offers and acknowledges (R149 to R154). Three alarm timers (O18) and the panel
acknowledge (O25). -/

namespace Sys2Proof.Machine

theorem PointState.unseen_eq (p : PointState) : p.unseen = decide (p.ann = .alert ∨ p.ann = .returned) := by
  obtain ⟨raw, ann⟩ := p
  cases ann <;> rfl

theorem PointState.onAck_seen (raw : Bool) (a : Annunciator) : PointState.unseen { raw := raw, ann := a.onAck } = false := by
  cases a <;> rfl

namespace State

/-! ## Alarms and the queue alone -/

theorem AlarmsOnly.refl (s : State) : s.AlarmsOnly s := rfl

theorem AlarmsOnly.of_eq {s t : State} (h : ∃ a q, t = (s.withAlarms a).withEvents q) : s.AlarmsOnly t := by
  obtain ⟨a, q, rfl⟩ := h
  rfl

theorem AlarmsOnly.trans {s t u : State} (h : s.AlarmsOnly t) (k : t.AlarmsOnly u) : s.AlarmsOnly u := by
  unfold AlarmsOnly at h k
  rw [k, h]
  rfl

theorem deliver_alarmsOnly (s : State) (p : AlarmPoint) (raw : Bool) : s.AlarmsOnly (s.deliver p raw) := .of_eq (deliver_eq p raw s)

theorem offerFrom_alarmsOnly (s : State) (source : Station) (kind : EventKind) (subject : Nat) (values : List Word) :
    s.AlarmsOnly (s.offerFrom source kind subject values) := by
  obtain ⟨q, h⟩ := offerFrom_eq source kind subject values s
  exact .of_eq ⟨s.alarms, q, h⟩

theorem offer_alarmsOnly (s : State) (kind : EventKind) (subject : Nat) (values : List Word) :
    s.AlarmsOnly (s.offer kind subject values) := s.offerFrom_alarmsOnly ..

theorem ackPoint_alarmsOnly (s : State) (cause : Nat) (i : Fin 25) : s.AlarmsOnly (s.ackPoint cause i) := .of_eq (ackPoint_eq cause s i)

theorem ackAll_alarmsOnly (s : State) (cause : Nat) : s.AlarmsOnly (s.ackAll cause) := .of_eq (ackAll_eq cause s)

theorem started_of_working {s : State} (working : s.working = true) : s.started = true := by
  revert working
  unfold working started
  cases s.start.phase <;> simp

theorem started_of_screenRuns {s : State} (runs : s.screenRuns = true) : s.started = true := by
  rw [screenRuns, Bool.and_eq_true] at runs
  exact started_of_working runs.1

/-! ## Acknowledged points (R150, R153) -/

theorem ackPoint_points (s : State) (cause : Nat) (i j : Fin 25) :
    (s.ackPoint cause i).alarms.points[j] =
      if j = i then { s.alarms.points[j] with ann := s.alarms.points[j].ann.onAck } else s.alarms.points[j] := by
  unfold ackPoint
  by_cases still : s.alarms.points[i].ann.onAck = s.alarms.points[i].ann
  case pos =>
    simp only [if_pos still]
    by_cases same : j = i
    case pos => simp only [if_pos same]; simp only [same, still]
    case neg => simp only [if_neg same]
  case neg =>
    simp only [if_neg still, setPoint_alarms]
    by_cases same : j = i
    case pos => simp only [same, if_true]; exact Alarms.withPoint_point_self ..
    case neg => simp only [if_neg same]; exact Alarms.withPoint_point_of_ne _ _ _ same

theorem onAck_onAck (a : Annunciator) : a.onAck.onAck = a.onAck := by cases a <;> rfl

theorem ackList_points (cause : Nat) (is : List (Fin 25)) (s : State) (j : Fin 25) :
    (is.foldl (ackPoint cause) s).alarms.points[j] =
      if j ∈ is then { s.alarms.points[j] with ann := s.alarms.points[j].ann.onAck } else s.alarms.points[j] := by
  induction is generalizing s with
  | nil => rfl
  | cons i is ih =>
    rw [List.foldl_cons, ih, ackPoint_points]
    by_cases first : j = i
    · simp only [first, if_true, List.mem_cons, true_or, onAck_onAck, ite_self]
    · simp only [first, if_false, List.mem_cons, false_or]

theorem ackAll_points (s : State) (cause : Nat) (j : Fin 25) :
    (s.ackAll cause).alarms.points[j] = { s.alarms.points[j] with ann := s.alarms.points[j].ann.onAck } := by
  rw [ackAll, ackList_points, if_pos (List.mem_finRange j)]

/-- What the record of an acknowledged point shows (R153). -/
def ackShown (cause : Nat) (s : State) (i : Fin 25) : EventKind × Station × Nat × List Word :=
  (.alarmChange, s.own, i.val, [if s.alarms.points[i].ann = .alert then 2 else 0, valueOf cause])

/-- An acknowledge changes the unseen points, those in ALERT or RETURNED. -/
theorem onAck_ne_iff (p : PointState) : p.ann.onAck ≠ p.ann ↔ p.unseen = true := by
  obtain ⟨raw, ann⟩ := p
  cases ann <;> simp [PointState.unseen, Annunciator.onAck]

theorem ackPoint_of_seen {s : State} (cause : Nat) {i : Fin 25} (still : ¬ s.alarms.points[i].unseen = true) : s.ackPoint cause i = s := by
  rw [← onAck_ne_iff, not_not] at still
  exact if_pos still

/-- The record of an unseen point shows its new state and the cause. -/
theorem alarmRecord_shown (s : State) (cause : Nat) {i : Fin 25} (unseen : s.alarms.points[i].unseen = true) :
    (s.alarmRecord i s.alarms.points[i].ann.onAck cause).values = [if s.alarms.points[i].ann = .alert then 2 else 0, valueOf cause] := by
  revert unseen
  unfold alarmRecord
  generalize s.alarms.points[i] = p
  obtain ⟨raw, ann⟩ := p
  cases ann <;> simp [PointState.unseen, Annunciator.onAck, annunciatorCode, valueOf]

/-- The record an acknowledged point offers. -/
theorem ackPoint_events {s : State} (cause : Nat) {i : Fin 25} (started : s.started = true) (takes : s.takesClass 0 = true)
    (none : s.events.overflow = 0) (room : s.events.records.length < 64) (change : s.alarms.points[i].unseen = true) :
    (s.ackPoint cause i).events = s.events.push (s.alarmRecord i s.alarms.points[i].ann.onAck cause) := by
  rw [← onAck_ne_iff] at change
  unfold ackPoint
  rw [if_neg change, setPoint_events_of_change _ started change, if_pos takes, EventQueue.takeIn_of_none_lost _ _ (by omega) none]

/-- The records of a run of acknowledges: one for each point that changes, in the order of the points. -/
theorem ackList_records (cause : Nat) (is : List (Fin 25)) (s : State) (started : s.started = true) (takes : s.takesClass 0 = true)
    (nodup : is.Nodup) (none : s.events.overflow = 0) (room : s.events.records.length + is.length ≤ 64) :
    ∃ added, (is.foldl (ackPoint cause) s).events.records = s.events.records ++ added ∧
      added.map (fun r => (r.kind, r.source, r.subject.toNat, r.values)) = (is.filter (fun i => s.alarms.points[i].unseen)).map (s.ackShown cause) := by
  induction is generalizing s with
  | nil => exact ⟨[], (List.append_nil _).symm, rfl⟩
  | cons i is ih =>
    obtain ⟨first, rest⟩ := List.nodup_cons.mp nodup
    rw [List.length_cons] at room
    rw [List.foldl_cons]
    by_cases change : s.alarms.points[i].unseen = true
    case neg =>
      rw [ackPoint_of_seen cause change, List.filter_cons_of_neg (p := fun i : Fin 25 => s.alarms.points[i].unseen) change]
      exact ih s started takes rest none (by omega)
    case pos =>
      have events := ackPoint_events cause started takes none (by omega) change
      have points (j : Fin 25) (mem : j ∈ is) : (s.ackPoint cause i).alarms.points[j] = s.alarms.points[j] := by
        rw [ackPoint_points, if_neg (fun same : j = i => first (same ▸ mem))]
      obtain ⟨added, records, shown⟩ := ih (s.ackPoint cause i) (by rw [State.started, ackPoint_start]; exact started)
        (by rw [takesClass, classMask, cfg, ackPoint_start]; exact takes) rest (by rw [events]; exact none)
        (by rw [events, EventQueue.push, List.length_append, List.length_singleton]; omega)
      refine ⟨{ s.alarmRecord i s.alarms.points[i].ann.onAck cause with sequence := s.events.counter } :: added, ?_, ?_⟩
      · rw [records, events, EventQueue.push, List.append_assoc, List.singleton_append]
      · have same : (is.filter fun j => (s.ackPoint cause i).alarms.points[j].unseen) = is.filter fun j => s.alarms.points[j].unseen :=
          List.filter_congr fun j mem => by rw [points j mem]
        have maps : (is.filter fun j => s.alarms.points[j].unseen).map ((s.ackPoint cause i).ackShown cause) =
            (is.filter fun j => s.alarms.points[j].unseen).map (s.ackShown cause) :=
          List.map_congr_left fun j mem => by
            rw [ackShown, points j (List.mem_of_mem_filter mem), own, ackPoint_start]; rfl
        rw [List.map_cons, shown, same, maps, List.filter_cons_of_pos (p := fun i : Fin 25 => s.alarms.points[i].unseen) change, List.map_cons]
        congr 1
        rw [ackShown, ← alarmRecord_shown s cause change]
        have small : i.val % 2 ^ 8 = i.val := Nat.mod_eq_of_lt (by omega)
        simp only [alarmRecord, BitVec.toNat_ofNat, small]

theorem ackAll_records (s : State) (cause : Nat) (started : s.started = true) (takes : s.takesClass 0 = true)
    (none : s.events.overflow = 0) (room : s.events.records.length + 25 ≤ 64) :
    ((s.ackAll cause).events.records.drop s.events.records.length).map (fun r => (r.kind, r.source, r.subject.toNat, r.values)) =
      ((List.finRange 25).filter (fun i => s.alarms.points[i].unseen)).map (s.ackShown cause) := by
  obtain ⟨added, records, shown⟩ := ackList_records cause (List.finRange 25) s started takes (List.nodup_finRange 25) none
    (by rw [List.length_finRange]; exact room)
  rw [ackAll, records, List.drop_left]
  exact shown

theorem ackAll_seen (s : State) (cause : Nat) (i : Fin 25) : (s.ackAll cause).alarms.points[i].unseen = false :=
  (congrArg PointState.unseen (ackAll_points s cause i)).trans (PointState.onAck_seen _ _)

theorem ackAll_ack (s : State) (cause : Nat) : (s.ackAll cause).alarms.ack = s.alarms.ack := by
  have all (is : List (Fin 25)) (s : State) : (is.foldl (ackPoint cause) s).alarms.ack = s.alarms.ack := by
    induction is generalizing s with
    | nil => rfl
    | cons i is ih =>
      rw [List.foldl_cons, ih]
      unfold ackPoint
      split
      · rfl
      · rw [setPoint_alarms]; rfl
  rw [ackAll]
  exact all _ s

end State

/-- Settles O18. -/
theorem alarmTimersRaiseAndFall : Obligations.AlarmTimersRaiseAndFall := by
  intro s
  refine ⟨?disagree, ?silence, ?never, ?failure⟩
  case disagree =>
    intro started due
    refine ⟨(s.withBalance { s.balance with disagree := .reached }).deliver .levelDisagree true, congrArg Host.Outcome.next (if_pos due),
      State.deliver_alarmsOnly (s.withBalance { s.balance with disagree := .reached }) _ _, State.deliver_delivers _ _ started⟩
  case silence =>
    intro started due timeout
    have due : s.town.silence.due s.cfg.silenceLimit = true := by rw [Settings.silenceLimit, if_neg timeout]; exact due
    refine ⟨(s.withTown { s.town with silence := .reached }).deliver .townSilent true, congrArg Host.Outcome.next (if_pos ⟨due, timeout⟩),
      State.deliver_alarmsOnly (s.withTown { s.town with silence := .reached }) _ _, State.deliver_delivers _ _ started⟩
  case never =>
    intro _ _ timeout
    exact ⟨_, congrArg Host.Outcome.next (if_neg fun due => due.2 timeout), rfl⟩
  case failure =>
    intro started due
    refine ⟨(s.withLink { s.link with failure := .stopped }).deliver .bayTxFail false, congrArg Host.Outcome.next (if_pos due),
      State.deliver_alarmsOnly (s.withLink { s.link with failure := .stopped }) _ _, State.deliver_delivers _ _ started⟩

/-- Settles O25. -/
theorem acknowledgeAtThePanel : Obligations.AcknowledgeAtThePanel := by
  intro s
  refine ⟨?press, ?release⟩
  case release =>
    intro due low
    refine ⟨_, congrArg Host.Outcome.next (if_pos ⟨due, low⟩), rfl⟩
  case press =>
    intro started due high
    have only := (s.takeAck true).ackAll_alarmsOnly 3
    refine ⟨(s.takeAck true).ackAll 3, congrArg Host.Outcome.next (if_pos ⟨due, high⟩), (State.AlarmsOnly.trans rfl only), ?_, ?_, ?_, ?_⟩
    · rw [State.ackAll_ack]; rfl
    · intro i
      rw [State.ackAll_points]
      rfl
    · intro takes none room
      have records := (s.takeAck true).ackAll_records 3 started takes none room
      have unseen : (fun i : Fin 25 => s.alarms.points[i].unseen) =
          fun i => decide (s.alarms.points[i].ann = .alert ∨ s.alarms.points[i].ann = .returned) :=
        funext fun i => s.alarms.points[i].unseen_eq
      exact records.trans (by rw [← unseen]; rfl)
    · intro follows
      obtain ⟨horn, _, _⟩ := (State.ackAll_orderly 3 (s.takeAck true)).relays follows
      rw [horn, lampAny]
      simp only [State.ackAll_seen, Bool.and_false, List.any_eq_false]
      exact fun _ _ => Bool.false_ne_true

end Sys2Proof.Machine
end

section
/-! The rake (chapter 7): its cycle, its inputs (O24) and its six timers (O45). -/

namespace Sys2Proof.Machine

/-! ## The rake as a cycle starts, pauses and ends -/

/-- A started interval timer is started anew with the cycle (R126, R133). -/
theorem Screen.cycling_started (cause : RakeCause) (interval : Nat) (u : Screen) :
    Screen.cycling cause interval { u with interval := .start } =
      { u.cycling cause interval with interval := if interval = 0 then .stopped else .running 0 } := by
  unfold cycling
  by_cases off : interval = 0
  · rw [off]; rfl
  · have anew : Timer.start.restart (interval * 60000) = .running 0 := by
      rw [Timer.start, Timer.restart, if_neg (by omega)]; rfl
    rw [if_neg off]
    dsimp only
    rw [anew, if_neg off]

namespace State

theorem startCycle_of_clear {s : State} (cause : RakeCause) (clear : s.screen.overload.active = false) :
    s.startCycle cause = s.withScreen (s.screen.cycling cause s.cfg.rakeInterval) := by
  unfold startCycle
  exact (if_neg (Bool.eq_false_iff.mp clear)).trans rfl

theorem restOver_iff (u : Screen) : u.restOver = true ↔ u.rest.isRunning = false := by
  rw [Screen.restOver, Bool.not_eq_true']

theorem trigger_of_ready {s : State} (cause : RakeCause) (idle : s.screen.rake = .rakeIdle) (rested : s.screen.rest.isRunning = false)
    (clear : s.screen.overload.active = false) : s.trigger cause = s.withScreen (s.screen.cycling cause s.cfg.rakeInterval) := by
  rw [trigger, if_pos ⟨idle, (restOver_iff _).mpr rested⟩, startCycle_of_clear cause clear]

theorem trigger_of_busy {s : State} (cause : RakeCause) (busy : s.screen.rake ≠ .rakeIdle ∨ s.screen.rest.isRunning = true) :
    s.trigger cause = s.withScreen { s.screen with pendingFlag := true, pendingCause := cause } := by
  refine if_neg ?_
  rintro ⟨idle, rested⟩
  rw [restOver_iff] at rested
  rcases busy with other | running
  · exact other idle
  · exact Bool.false_ne_true (rested.symm.trans running)

theorem startPending_of_ready {s : State} (idle : s.screen.rake = .rakeIdle) (rested : s.screen.rest.isRunning = false)
    (pending : s.screen.pendingFlag = true) (clear : s.screen.overload.active = false) :
    s.startPending = s.withScreen (s.screen.cycling s.screen.pendingCause s.cfg.rakeInterval) := by
  rw [startPending, if_pos ⟨idle, (restOver_iff _).mpr rested, pending⟩, startCycle_of_clear _ clear]

theorem startPending_of_none {s : State} (none : s.screen.rake ≠ .rakeIdle ∨ s.screen.pendingFlag = false) : s.startPending = s := by
  refine if_neg ?_
  rintro ⟨idle, _, pending⟩
  rcases none with other | quiet
  · exact other idle
  · exact Bool.false_ne_true (quiet.symm.trans pending)

theorem checkCam_of_inactive {s : State} (inactive : s.screen.cam.active = false) :
    s.checkCam = s.withScreen { s.screen with camArmed := true, camCheck := .stopped } :=
  if_neg (Bool.eq_false_iff.mp inactive)

theorem overloadForward_of_few {s : State} (few : s.screen.overloads < 2) :
    s.overloadForward = s.withScreen
      { s.screen with
        overloads := s.screen.overloads + 1, overloadCount := min 65535 (s.screen.overloadCount + 1), rake := .clearing,
        forwardOut := false, reverseOut := true, reverse := .running 0 } := by
  unfold overloadForward
  exact (if_neg (show ¬ 3 ≤ s.screen.overloads + 1 by omega)).trans rfl

theorem overloadForward_of_third {s : State} (third : 2 ≤ s.screen.overloads) :
    s.overloadForward = (s.withScreen s.screen.countOverload).jamRake := by
  unfold overloadForward
  exact if_pos (show 3 ≤ s.screen.overloads + 1 by omega)

theorem Delivers.of_alarms {s u t : State} {p : AlarmPoint} {raw : Bool} (h : u.Delivers t p raw) (alarms : u.alarms = s.alarms) :
    s.Delivers t p raw := by
  unfold Delivers PointsBut at *
  rw [← alarms]
  exact h

theorem Records.of_blocks {s u t : State} {n : Nat} {kind : EventKind} {source : Station} {subject : Nat} {values : List Word}
    (h : u.Records t n kind source subject values) (start : u.start = s.start) (events : u.events = s.events) :
    s.Records t n kind source subject values := by
  unfold Records takesClass classMask cfg at *
  rw [← start, ← events]
  exact h

/-- The last event a state offers stands in its queue. -/
theorem records_of_offer {s u : State} (m : Nat) {n : Nat} {kind : EventKind} {subject : Nat} {values : List Word}
    (started : s.started = true) (start : u.start = s.start) (before : s.events.Grows m u.events) (le : m + 1 ≤ n := by omega) :
    s.Records (u.offer kind subject values) n kind s.own subject values :=
  records_of_offerFrom started start before
    (by rw [offer, own, own, start]) (offer_clock ..) le

/-! ## Jams and faults -/

section Latched

variable {s : State} (started : s.started = true)

include started

theorem jamRake_delivers : s.Delivers s.jamRake .rakeJammed true := by
  have delivers := deliver_delivers (s := s.withScreen (s.screen.stopTimers.enterRake .jammed)) .rakeJammed true started
  refine ⟨?_, ?_⟩
  · rw [jamRake, rawOf, offer_alarms]; exact delivers.1
  · rw [PointsBut, jamRake, offer_alarms]; exact delivers.2

theorem jamRake_records : s.Records s.jamRake 2 .rakeJammed s.own (rakeStateCode s.screen.rake)
    [BitVec.ofNat 32 s.screen.overloads, BitVec.ofNat 32 s.screen.cycles] :=
  records_of_offer 1 started (deliver_start ..) ((s.withScreen (s.screen.stopTimers.enterRake .jammed)).deliver_grows _ _)

theorem faultRake_delivers (cause : RakeFaultCause) : s.Delivers (s.faultRake cause) .rakeFault true := by
  have delivers := deliver_delivers (s := s.withScreen (s.screen.stopTimers.enterRake .fault)) .rakeFault true started
  refine ⟨?_, ?_⟩
  · rw [faultRake, rawOf, offer_alarms]; exact delivers.1
  · rw [PointsBut, faultRake, offer_alarms]; exact delivers.2

theorem faultRake_records (cause : RakeFaultCause) : s.Records (s.faultRake cause) 2 .rakeFault s.own (rakeFaultCode cause)
    [BitVec.ofNat 32 (rakeStateCode s.screen.rake), BitVec.ofNat 32 s.cycleSeconds] :=
  records_of_offer 1 started (deliver_start ..) ((s.withScreen (s.screen.stopTimers.enterRake .fault)).deliver_grows _ _)

end Latched

theorem jamRake_alarmsOnly (s : State) : (s.withScreen (s.screen.stoppedIn .jammed)).AlarmsOnly s.jamRake :=
  (deliver_alarmsOnly (s.withScreen (s.screen.stoppedIn .jammed)) .rakeJammed true).trans (offer_alarmsOnly ..)

theorem faultRake_alarmsOnly (s : State) (cause : RakeFaultCause) :
    (s.withScreen (s.screen.stoppedIn .fault)).AlarmsOnly (s.faultRake cause) :=
  (deliver_alarmsOnly (s.withScreen (s.screen.stoppedIn .fault)) .rakeFault true).trans (offer_alarmsOnly ..)

theorem offer_events_only (s : State) (kind : EventKind) (subject : Nat) (values : List Word) :
    s.offer kind subject values = s.withEvents (s.offer kind subject values).events := by
  obtain ⟨q, same⟩ := offerFrom_eq s.own kind subject values s
  rw [offer, same]
  rfl

/-! ## The cam check and the end of the pause -/

theorem hasReached_iff (t : Timer) : t.hasReached = true ↔ t = .reached := by cases t <;> simp [Timer.hasReached]

theorem exec_camCheck_of_forward {s : State} (due : s.screen.camCheck.due camCheckTime = true) (forward : s.screen.rake = .forward) :
    exec .camCheckExpiry s = .next s.checkCam := by
  change execCamCheckExpiry s = _
  rw [execCamCheckExpiry, if_pos due, if_pos forward]

/-- FORWARD again (R128, R129): a cam check that fell due is made first. -/
def resumeRake (s : State) : State :=
  if (s.screen.camCheck.hasReached) = true then (s.withScreen { s.screen.enterRake .forward with pause := .stopped }).checkCam
  else s.withScreen { s.screen.enterRake .forward with pause := .stopped }

theorem exec_pause {s : State} (due : s.screen.pause.due pauseTime = true) (pause : s.screen.rake = .pause) :
    exec .pauseTimerExpiry s = .next
      (if s.resumeRake.screen.rake = .forward ∧ s.resumeRake.screen.overload.active = true then s.resumeRake.overloadForward
       else s.resumeRake) := by
  change execPauseTimerExpiry s = _
  rw [execPauseTimerExpiry, if_pos ⟨due, pause⟩]
  rfl

/-! ## The overload input -/

theorem exec_overload_of_active {s : State} (runs : s.screenRuns = true) (due : s.screen.overload.timer.due fastFilter = true)
    (high : s.pins.dovl = true) :
    exec .overloadFilterExpiry s = .next
      (match s.screen.rake with
       | .forward => (s.withScreen { s.screen with overload := { active := true, timer := .stopped } }).overloadForward
       | .clearing => ((s.withScreen { s.screen with overload := { active := true, timer := .stopped } }).withScreen
           (s.withScreen { s.screen with overload := { active := true, timer := .stopped } }).screen.countOverload).jamRake
       | _ => s.withScreen { s.screen with overload := { active := true, timer := .stopped } }) := by
  change execOverloadFilterExpiry s = _
  rw [execOverloadFilterExpiry, if_pos ⟨runs, due⟩, high]
  rfl

end State

/-- Settles O24. -/
theorem rakeInputsEndOrReverse : Obligations.RakeInputsEndOrReverse := by
  intro s
  refine ⟨?complete, ?camAlone, ?reverse, ?jam, ?overloadAlone⟩
  case complete =>
    intro runs due high forward armed
    refine ⟨((s.withScreen { s.screen.stoppedIn .rakeIdle with cam := { active := true, timer := .stopped }, rest := .running 0,
                                                               cycles := min 65535 (s.screen.cycles + 1) }).offer .rakeDone
      (rakeCauseCode s.screen.cycleCause) [valueOf s.cycleSeconds, valueOf s.screen.overloads]), ?_, State.offer_events_only ..,
      ?_⟩
    · change Host.Outcome.next (if s.screenRuns = true ∧ s.screen.cam.timer.due fastFilter = true then _ else _) = _
      rw [if_pos ⟨runs, due⟩, high]
      exact congrArg Host.Outcome.next (if_pos ⟨rfl, forward, armed⟩)
    · exact State.records_of_offer 0 (State.started_of_screenRuns runs) rfl (.refl _ _)
  case camAlone =>
    intro runs due cause
    refine ⟨_, ?_, rfl⟩
    change Host.Outcome.next (if s.screenRuns = true ∧ s.screen.cam.timer.due fastFilter = true then _ else _) = _
    rw [if_pos ⟨runs, due⟩]
    refine congrArg Host.Outcome.next (if_neg ?_)
    rintro ⟨high, forward, armed⟩
    rcases cause with low | other | unarmed
    · exact Bool.false_ne_true (low.symm.trans high)
    · exact other forward
    · exact Bool.false_ne_true (unarmed.symm.trans armed)
  case reverse =>
    intro runs due high forward few
    refine ⟨_, ?_, rfl⟩
    rw [State.exec_overload_of_active runs due high, forward]
    exact congrArg Host.Outcome.next (State.overloadForward_of_few few)
  case jam =>
    intro runs due high rake
    have started := State.started_of_screenRuns runs
    obtain ⟨u, taken⟩ : ∃ u, u = (s.withScreen { s.screen with overload := { active := true, timer := .stopped } }).withScreen
      { s.screen with
        overload := { active := true, timer := .stopped }, overloads := s.screen.overloads + 1,
        overloadCount := min 65535 (s.screen.overloadCount + 1) } := ⟨_, rfl⟩
    refine ⟨u.jamRake, ?_, ?_, ?_, ?_⟩
    · rw [State.exec_overload_of_active runs due high]
      rcases rake with ⟨forward, third⟩ | clearing
      · rw [forward, taken]
        exact congrArg Host.Outcome.next (State.overloadForward_of_third third)
      · rw [clearing, taken]
        rfl
    · have only := u.jamRake_alarmsOnly
      rw [taken] at only ⊢
      exact only
    · exact (State.jamRake_delivers (s := u) (by rw [taken]; exact started)).of_alarms (by rw [taken]; rfl)
    · have records := State.jamRake_records (s := u) (by rw [taken]; exact started)
      have same := records.of_blocks (s := s) (by rw [taken]; rfl) (by rw [taken]; rfl)
      rw [taken] at same ⊢
      exact same
  case overloadAlone =>
    intro runs due cause
    refine ⟨_, ?_, rfl⟩
    rcases cause with low | ⟨notForward, notClearing⟩
    · change Host.Outcome.next (if s.screenRuns = true ∧ s.screen.overload.timer.due fastFilter = true then _ else _) = _
      rw [if_pos ⟨runs, due⟩, low]
      rfl
    · cases high : s.pins.dovl
      · change Host.Outcome.next (if s.screenRuns = true ∧ s.screen.overload.timer.due fastFilter = true then _ else _) = _
        rw [if_pos ⟨runs, due⟩, high]
        rfl
      · rw [State.exec_overload_of_active runs due high]
        split
        case h_1 forward => exact absurd forward notForward
        case h_2 clearing => exact absurd clearing notClearing
        case h_3 => rfl

/-- Settles O45. -/
theorem rakeTimersDriveTheCycle : Obligations.RakeTimersDriveTheCycle := by
  intro s
  refine ⟨?camStuck, ?camGood, ?camWaits, ?reversed, ?resumes, ?resumesOverloaded, ?resumesChecked, ?timeout, ?rested, ?restedPending,
    ?interval, ?intervalPending⟩
  case camStuck =>
    intro started due forward active
    refine ⟨s.faultRake .camStuck, ?_, s.faultRake_alarmsOnly _, State.faultRake_delivers started _, State.faultRake_records started _⟩
    rw [State.exec_camCheck_of_forward due forward, State.checkCam, if_pos active]
  case camGood =>
    intro due forward inactive
    refine ⟨_, ?_, rfl⟩
    rw [State.exec_camCheck_of_forward due forward, State.checkCam_of_inactive inactive]
    rfl
  case camWaits =>
    intro due other
    refine ⟨_, ?_, rfl⟩
    exact congrArg Host.Outcome.next ((if_pos due).trans (if_neg other))
  case reversed =>
    intro due clearing
    exact ⟨_, congrArg Host.Outcome.next (if_pos ⟨due, clearing⟩), rfl⟩
  case resumes =>
    intro due pause waits inactive
    refine ⟨_, ?_, rfl⟩
    rw [State.exec_pause due pause, State.resumeRake, if_neg (mt (State.hasReached_iff _).mp waits)]
    exact congrArg Host.Outcome.next (if_neg fun overload => Bool.false_ne_true (inactive.symm.trans overload.2))
  case resumesOverloaded =>
    intro due pause waits active few
    refine ⟨_, ?_, rfl⟩
    rw [State.exec_pause due pause, State.resumeRake, if_neg (mt (State.hasReached_iff _).mp waits)]
    have counted := State.overloadForward_of_few (s := s.withScreen { s.screen.enterRake .forward with pause := .stopped }) few
    rw [if_pos ⟨rfl, active⟩, counted]
    rfl
  case resumesChecked =>
    intro due pause reached inactive quiet
    refine ⟨_, ?_, rfl⟩
    rw [State.exec_pause due pause, State.resumeRake, if_pos ((State.hasReached_iff _).mpr reached),
      State.checkCam_of_inactive (s := s.withScreen { s.screen.enterRake .forward with pause := .stopped }) inactive]
    exact congrArg Host.Outcome.next (if_neg fun overload => Bool.false_ne_true (quiet.symm.trans overload.2))
  case timeout =>
    intro started due turning
    obtain ⟨u, reached⟩ : ∃ u, u = s.withScreen { s.screen with cycle := .reached } := ⟨_, rfl⟩
    refine ⟨u.faultRake .timeout, ?_, ?_, ?_, ?_⟩
    · rw [reached]
      exact congrArg Host.Outcome.next (if_pos ⟨due, turning⟩)
    · have only := u.faultRake_alarmsOnly .timeout
      rw [reached] at only ⊢
      exact only
    · exact (State.faultRake_delivers (s := u) (by rw [reached]; exact started) .timeout).of_alarms (by rw [reached]; rfl)
    · have records := State.faultRake_records (s := u) (by rw [reached]; exact started) .timeout
      have seconds : u.cycleSeconds = s.cfg.cycleTimeout := by
        rw [reached]
        exact Nat.mul_div_cancel _ (by omega)
      have rake : u.screen.rake = s.screen.rake := by rw [reached]; rfl
      have source : u.own = s.own := by rw [reached]; rfl
      rw [seconds, rake, source] at records
      exact records.of_blocks (by rw [reached]; rfl) (by rw [reached]; rfl)
  case rested =>
    intro due none
    refine ⟨_, ?_, rfl⟩
    exact congrArg Host.Outcome.next ((if_pos due).trans (State.startPending_of_none none))
  case restedPending =>
    intro due idle pending clear
    refine ⟨_, ?_, rfl⟩
    have begun := State.startPending_of_ready (s := s.withScreen { s.screen with rest := .stopped }) idle rfl pending clear
    exact congrArg Host.Outcome.next ((if_pos due).trans (begun.trans rfl))
  case interval =>
    intro due drawing idle rested clear
    refine ⟨_, ?_, rfl⟩
    have triggered := State.trigger_of_ready (s := s.withScreen { s.screen with interval := .start }) .interval idle rested clear
    refine (congrArg Host.Outcome.next ((if_pos ⟨due, drawing, by rw [idle]; exact fun h => nomatch h⟩).trans triggered)).trans ?_
    have cycling := s.screen.cycling_started .interval s.cfg.rakeInterval
    change Host.Outcome.next (s.withScreen (Screen.cycling .interval s.cfg.rakeInterval { s.screen with interval := .start })) = _
    rw [cycling]
    rfl
  case intervalPending =>
    intro due drawing on busy
    refine ⟨_, ?_, rfl⟩
    have left := State.trigger_of_busy (s := s.withScreen { s.screen with interval := .start }) .interval busy
    exact congrArg Host.Outcome.next ((if_pos ⟨due, drawing, on⟩).trans (left.trans rfl))

end Sys2Proof.Machine
end

section
/-! A sample event of a channel: how it moves the channel (O12). -/

namespace Sys2Proof.Machine

/-! ## Classes of current (R4) -/

theorem classifyCurrent_of_outside {i : Int} (outside : i < 3000 ∨ 22000 < i) : classifyCurrent i = none := by
  unfold classifyCurrent
  rcases outside with low | high
  · exact if_pos low
  · simp only [show ¬ i < 3000 by omega, show ¬ i < 3800 by omega, show ¬ i < 4000 by omega, show ¬ i ≤ 20000 by omega,
      show ¬ i ≤ 20500 by omega, show ¬ i ≤ 22000 by omega, if_false]

theorem classifyCurrent_of_inClass {i used : Int} {q : SampleQuality} (inside : InClass i used q) : classifyCurrent i = some (used, q) := by
  unfold classifyCurrent
  rcases inside with ⟨lo, hi, rfl, rfl⟩ | ⟨lo, hi, rfl, rfl⟩ | ⟨lo, hi, rfl, rfl⟩ | ⟨lo, hi, rfl, rfl⟩ | ⟨lo, hi, rfl, rfl⟩
  · rw [if_neg (by omega), if_pos (by omega)]
  · rw [if_neg (by omega), if_neg (by omega), if_pos (by omega)]
  · rw [if_neg (by omega), if_neg (by omega), if_neg (by omega), if_pos (by omega)]
  · rw [if_neg (by omega), if_neg (by omega), if_neg (by omega), if_neg (by omega), if_pos (by omega)]
  · rw [if_neg (by omega), if_neg (by omega), if_neg (by omega), if_neg (by omega), if_neg (by omega), if_pos (by omega)]

namespace Channel

variable {g : ChannelSettings} {c : Channel} {conversion level sample : Int} {q : SampleQuality}

/-! ## A valid sample (R6 to R9, R12) -/

theorem recover_of_clear (clear : c.fault = .clear) : c.recover = c := if_pos clear

theorem recover_of_fault (fault : c.fault ≠ .clear) : c.recover = { c with fault := .clear, hold := .stopped, samples := [] } := if_neg fault

theorem takeValid_of_empty (empty : c.samples = []) : c.takeValid g sample q = c.fill sample q := if_pos empty

theorem outOfStep_of_near (known : c.level = some level) (near : g.stepLimit = 0 ∨ |sample - level| ≤ g.stepLimit) :
    c.outOfStep g sample = false := by
  rw [outOfStep, known, Option.getD_some, Bool.and_eq_false_iff, decide_eq_false_iff_not, not_lt]
  exact near.imp (fun off => by rw [off]; rfl) id

theorem outOfStep_of_far (known : c.level = some level) (on : g.stepLimit ≠ 0) (far : (g.stepLimit : Int) < |sample - level|) :
    c.outOfStep g sample = true := by
  rw [outOfStep, known, Option.getD_some, Bool.and_eq_true, decide_eq_true_iff]
  exact ⟨bne_iff_ne.mpr on, far⟩

theorem ne_nil_of_eight (eight : c.samples.length = 8) : c.samples ≠ [] := fun empty => by
  rw [empty] at eight
  exact absurd eight (by decide)

theorem takeValid_of_near (eight : c.samples.length = 8) (near : c.outOfStep g sample = false) :
    c.takeValid g sample q = c.join sample q := by
  rw [takeValid, if_neg (ne_nil_of_eight eight), if_neg (Bool.eq_false_iff.mp near)]

theorem takeValid_of_far (eight : c.samples.length = 8) (far : c.outOfStep g sample = true) :
    c.takeValid g sample q = if c.consecutive < 2 then c.reject else c.fill sample q := by
  rw [takeValid, if_neg (ne_nil_of_eight eight), if_pos far]

/-! ## A conversion, by the phase (R3, R14, R15) -/

theorem sample_of_settling (settling : c.phase = .settling) : c.sample g conversion = c.settle g := by
  rw [Channel.sample, settling]

theorem sample_of_checking (checking : c.phase = .checking) : c.sample g conversion = c.checkEvent g conversion := by
  rw [Channel.sample, checking]

theorem sample_of_due (sampling : c.phase = .sampling) (due : c.check.hasReached = true) : c.sample g conversion = c.beginCheck := by
  rw [Channel.sample, sampling]
  exact if_pos due

theorem sample_of_outside (sampling : c.phase = .sampling) (due : c.check.hasReached = false)
    (outside : clampInt 0 25000 conversion - c.offset < 3000 ∨ 22000 < clampInt 0 25000 conversion - c.offset) :
    c.sample g conversion = c.faultSample g := by
  rw [Channel.sample, sampling]
  refine (if_neg (Bool.eq_false_iff.mp due)).trans ?_
  rw [classified, classifyCurrent_of_outside outside]

theorem sample_of_inClass {used : Int} (sampling : c.phase = .sampling) (due : c.check.hasReached = false)
    (inside : InClass (clampInt 0 25000 conversion - c.offset) used q) :
    c.sample g conversion = c.recover.takeValid g (g.datum + roundHalfUp ((used - 4000) * g.span) 16000) q := by
  rw [Channel.sample, sampling]
  refine (if_neg (Bool.eq_false_iff.mp due)).trans ?_
  rw [classified, classifyCurrent_of_inClass inside]
  rfl

theorem checkEvent_one (period : c.period = 1) : c.checkEvent g conversion = { c with period := 2 } := by
  rw [checkEvent, period]
  rfl

theorem checkEvent_two (period : c.period = 2) :
    c.checkEvent g conversion = { c with period := 3, firstRef := clampInt (-1000) 1000 conversion } := by
  rw [checkEvent, period]
  rfl

theorem checkEvent_three {mean : Int} (period : c.period = 3) (formed : mean = truncDiv (c.firstRef + clampInt (-1000) 1000 conversion) 2) :
    c.checkEvent g conversion =
      { c with period := 4, offset := max (-200) (min 200 mean), checkFlag := decide (MeanOutside mean) } := by
  rw [checkEvent, period, formed]
  rfl

theorem checkEvent_four (period : c.period = 4) : c.checkEvent g conversion = { c with period := 5 } := by
  rw [checkEvent, period]
  rfl

theorem checkEvent_five (period : c.period = 5) :
    c.checkEvent g conversion =
      { c with phase := .sampling, period := 1, check := if g.checkInterval = 0 then .stopped else .running 0 } := by
  rw [checkEvent, period]
  rfl

theorem beginCheck_quality (sampling : c.phase = .sampling) :
    c.beginCheck.quality = if c.quality = .invalid then .invalid else .held := by
  unfold quality beginCheck
  by_cases unknown : c.level = none
  · simp [unknown]
  by_cases expired : c.fault = .expired
  · simp [unknown, expired, sampling]
  by_cases holding : c.fault = .holding
  · simp [unknown, holding, sampling]
  · simp [unknown, expired, holding, sampling, quality]

end Channel

/-- Settles O12. -/
theorem samplesBecomeLevels : Obligations.SamplesBecomeLevels := by
  intro g c conversion level current used sample mean quality
  refine ⟨?settling, ?outside, ?inside, ?due, ?one, ?two, ?three, ?four, ?five⟩
  case settling =>
    intro settling left
    rw [Channel.sample_of_settling settling, Channel.settle, if_neg (by omega)]
  case outside =>
    rintro sampling waits rfl outside
    rw [Channel.sample_of_outside sampling waits outside]
    exact ⟨fun clear => if_pos clear, fun fault => if_neg fault⟩
  case inside =>
    rintro sampling waits rfl inside rfl
    rw [Channel.sample_of_inClass sampling waits inside]
    refine ⟨?fills, ?joins, ?rejected, ?refills, ?recovers⟩
    case fills =>
      intro clear empty
      rw [Channel.recover_of_clear clear, Channel.takeValid_of_empty empty]
      rfl
    case joins =>
      intro clear eight known near
      rw [Channel.recover_of_clear clear, Channel.takeValid_of_near eight (Channel.outOfStep_of_near known near)]
      rfl
    case rejected =>
      intro clear eight known on far few
      rw [Channel.recover_of_clear clear, Channel.takeValid_of_far eight (Channel.outOfStep_of_far known on far), if_pos few]
      rfl
    case refills =>
      intro clear eight known on far third
      rw [Channel.recover_of_clear clear, Channel.takeValid_of_far eight (Channel.outOfStep_of_far known on far), if_neg (by omega)]
      rfl
    case recovers =>
      intro fault
      rw [Channel.recover_of_fault fault, Channel.takeValid_of_empty rfl]
      rfl
  case due =>
    intro sampling due
    rw [Channel.sample_of_due sampling due]
    exact ⟨rfl, Channel.beginCheck_quality sampling⟩
  case one => exact fun checking period => (Channel.sample_of_checking checking).trans (Channel.checkEvent_one period)
  case two => exact fun checking period => (Channel.sample_of_checking checking).trans (Channel.checkEvent_two period)
  case three => exact fun checking period formed => (Channel.sample_of_checking checking).trans (Channel.checkEvent_three period formed)
  case four => exact fun checking period => (Channel.sample_of_checking checking).trans (Channel.checkEvent_four period)
  case five => exact fun checking period => (Channel.sample_of_checking checking).trans (Channel.checkEvent_five period)

end Sys2Proof.Machine
end

section
/-! What a sample event does beside its channel: the offer to the balance unit (O13) and to the screen unit (O14), the two raw conditions
(O11), and the channel's own times (O15). -/

namespace Sys2Proof.Machine

namespace State

/-! ## One channel is replaced -/

section Chan

variable (s : State) (ch : ChannelId) (c : Channel)

theorem withChan_chan : (s.withChan ch c).chan ch = c := by cases ch <;> rfl

theorem withChan_other {other : ChannelId} (ne : other ≠ ch) : (s.withChan ch c).chan other = s.chan other := by
  cases ch <;> cases other <;> first | exact absurd rfl ne | rfl

end Chan

/-! ## What the users of a level may touch (R18) -/

/-- What a user of a level leaves alone: every block but the balance unit, the screen unit, the sequencer, the port and the window, the
counts of the peer table, and four alarm points. -/
structure TakesLevel (s t : State) : Prop where
  start : t.start = s.start
  clock : t.clock = s.clock
  pins : t.pins = s.pins
  chanW : t.chanW = s.chanW
  chanX : t.chanX = s.chanX
  floats : t.floats = s.floats
  spill : t.spill = s.spill
  town : t.town = s.town
  pending : t.pending = s.pending
  entries : t.table.entries = s.table.entries
  isolated : t.table.isolated = s.table.isolated
  silence : t.table.silence = s.table.silence
  generator : t.table.generator = s.table.generator
  points : s.PointsBut t [.levelDisagree, .houseLevelLost, .overflowRisk, .screenBlinded]

namespace TakesLevel

variable {s t u : State}

theorem refl (s : State) : s.TakesLevel s :=
  ⟨rfl, rfl, rfl, rfl, rfl, rfl, rfl, rfl, rfl, rfl, rfl, rfl, rfl, .refl s _⟩

theorem trans (h : s.TakesLevel t) (k : t.TakesLevel u) : s.TakesLevel u :=
  ⟨k.start.trans h.start, k.clock.trans h.clock, k.pins.trans h.pins, k.chanW.trans h.chanW, k.chanX.trans h.chanX,
    k.floats.trans h.floats, k.spill.trans h.spill, k.town.trans h.town, k.pending.trans h.pending, k.entries.trans h.entries,
    k.isolated.trans h.isolated, k.silence.trans h.silence, k.generator.trans h.generator, h.points.trans k.points⟩

theorem of_moves (moves : s.Moves t) (points : s.PointsBut t [.overflowRisk]) : s.TakesLevel t :=
  ⟨moves.start, moves.clock, moves.pins, moves.chanW, moves.chanX, moves.floats, moves.spill, moves.town, moves.pending,
    by rw [moves.table], by rw [moves.table], by rw [moves.table], by rw [moves.table], points.mono⟩

theorem withBalance (b : Balance) (s : State) : s.TakesLevel (s.withBalance b) :=
  ⟨rfl, rfl, rfl, rfl, rfl, rfl, rfl, rfl, rfl, rfl, rfl, rfl, rfl, .refl s _⟩

theorem withScreen (v : Screen) (s : State) : s.TakesLevel (s.withScreen v) :=
  ⟨rfl, rfl, rfl, rfl, rfl, rfl, rfl, rfl, rfl, rfl, rfl, rfl, rfl, .refl s _⟩

theorem deliver (s : State) (p : AlarmPoint) (raw : Bool)
    (mem : p ∈ [AlarmPoint.levelDisagree, .houseLevelLost, .overflowRisk, .screenBlinded] := by simp) : s.TakesLevel (s.deliver p raw) :=
  ⟨deliver_start .., deliver_clock .., deliver_pins .., deliver_chanW .., deliver_chanX .., deliver_floats .., deliver_spill ..,
    deliver_town .., deliver_pending .., by rw [deliver_table], by rw [deliver_table], by rw [deliver_table], by rw [deliver_table],
    (s.deliver_pointsBut p raw).mono (by simpa using mem)⟩

theorem usable (h : s.TakesLevel t) : t.chanW.usable = s.chanW.usable := by rw [h.chanW]

end TakesLevel

/-! ## The balance unit takes a level (R21 to R25, R30, R31, R35, R36) -/

/-- The comparison of the own level moves the disagree timer and its point alone, and stops it where there is nothing to compare (R23). -/
theorem compareLevel_cases (s : State) :
    ∃ d, (s.compareLevel = s.withBalance { s.balance with disagree := d } ∨
        s.compareLevel = (s.withBalance { s.balance with disagree := d }).deliver .levelDisagree false) ∧
      (s.chanW.usable = none ∨ s.balance.level = none → d = .stopped) := by
  unfold compareLevel
  split
  case h_1 own h usable level =>
    have known : ¬ (s.chanW.usable = none ∨ s.balance.level = none) := by rw [usable, level]; simp
    split
    · split
      · exact ⟨.start, .inl rfl, fun unknown => absurd unknown known⟩
      · exact ⟨s.balance.disagree, .inl rfl, fun unknown => absurd unknown known⟩
    · exact ⟨.stopped, .inr rfl, fun _ => rfl⟩
  case h_2 => exact ⟨.stopped, .inr rfl, fun _ => rfl⟩

theorem compareLevel_takes (s : State) : s.TakesLevel s.compareLevel := by
  obtain ⟨d, same | same, _⟩ := s.compareLevel_cases
  · rw [same]; exact .withBalance _ s
  · rw [same]; exact (TakesLevel.withBalance _ s).trans (.deliver _ _ _)

theorem compareLevel_balance (s : State) :
    ∃ d, s.compareLevel.balance = { s.balance with disagree := d } ∧ (s.chanW.usable = none ∨ s.balance.level = none → d = .stopped) := by
  obtain ⟨d, same | same, stops⟩ := s.compareLevel_cases
  · exact ⟨d, by rw [same]; rfl, stops⟩
  · exact ⟨d, by rw [same, deliver_balance]; rfl, stops⟩

theorem compareLevel_screen (s : State) : s.compareLevel.screen = s.screen := by
  obtain ⟨d, same | same, _⟩ := s.compareLevel_cases
  · rw [same]; rfl
  · rw [same, deliver_screen]; rfl

/-- The state whose D and E an own W sample recomputes. -/
def levelFormed (s : State) : State := ((s.withBalance (s.balance.takeLevel s.cfg s.formLevel)).compareLevel).evalLevelLost

theorem onWSample_of_working {s : State} (working : s.working = true) : s.onWSample = s.levelFormed.redemand := if_pos working

theorem levelFormed_takes (s : State) : s.TakesLevel s.levelFormed :=
  ((TakesLevel.withBalance _ s).trans (compareLevel_takes _)).trans (.deliver _ _ _)

theorem levelFormed_screen (s : State) : s.levelFormed.screen = s.screen := by
  rw [levelFormed, evalLevelLost, deliver_screen, compareLevel_screen]
  rfl

theorem levelFormed_balance (s : State) :
    ∃ d, s.levelFormed.balance = { s.balance.takeLevel s.cfg s.formLevel with disagree := d } ∧
      (s.chanW.usable = none ∨ (s.balance.takeLevel s.cfg s.formLevel).level = none → d = .stopped) := by
  obtain ⟨d, same, stops⟩ := (s.withBalance (s.balance.takeLevel s.cfg s.formLevel)).compareLevel_balance
  exact ⟨d, by rw [levelFormed, evalLevelLost, deliver_balance, same]; rfl, stops⟩

theorem levelFormed_lost {s : State} (started : s.started = true) :
    s.levelFormed.rawOf .houseLevelLost = (s.levelFormed.operating && s.levelFormed.balance.level.isNone) := by
  obtain ⟨u, compared⟩ : ∃ u, u = (s.withBalance (s.balance.takeLevel s.cfg s.formLevel)).compareLevel := ⟨_, rfl⟩
  have start : u.start = s.start := by rw [compared]; exact (compareLevel_takes _).start
  have delivered := (u.deliver_delivers .houseLevelLost (u.operating && u.balance.level.isNone) (by rw [State.started, start]; exact started)).1
  rw [levelFormed, ← compared, evalLevelLost, delivered, operating, operating, deliver_start, deliver_balance]

theorem withDemand_takes (s : State) : s.TakesLevel s.withDemand := by
  unfold withDemand
  split
  · exact .withBalance _ s
  · exact .refl s

theorem redemand_takes (s : State) : s.TakesLevel s.redemand :=
  (withDemand_takes s).trans (.of_moves s.redemand_moves s.redemand_reacts.points)

theorem redemand_points (s : State) : s.PointsBut s.redemand [.overflowRisk] := by
  refine (PointsBut.of_alarms ?_ _).trans s.redemand_reacts.points
  unfold withDemand
  split <;> rfl

theorem redemand_balance (s : State) :
    s.redemand.balance = { s.balance with
      demand := s.redemand.balance.demand, limit := s.redemand.balance.limit, effective := s.redemand.balance.effective } := by
  have moved := s.redemand_moves.balance
  rw [moved]
  unfold withDemand
  split <;> rfl

theorem redemand_screen (s : State) : s.redemand.screen = s.screen := by
  rw [s.redemand_moves.screen]
  unfold withDemand
  split <;> rfl

theorem onWSample_takes (s : State) : s.TakesLevel s.onWSample := by
  unfold onWSample
  split
  · exact (levelFormed_takes s).trans (redemand_takes _)
  · exact .refl s

theorem onWSample_screen (s : State) : s.onWSample.screen = s.screen := by
  unfold onWSample
  split
  · exact (redemand_screen _).trans (levelFormed_screen s)
  · rfl

/-! ## The screen unit takes a level (R122 to R125) -/

/-- A cycle starts with its overloads at 0, so it moves the screen unit alone, and of that nothing an X sample has formed. -/
theorem startCycle_cases (s : State) (cause : RakeCause) :
    ∃ u, s.startCycle cause = s.withScreen u ∧ u.delta = s.screen.delta ∧ u.condition = s.screen.condition ∧ u.limit = s.screen.limit := by
  have begun : s.startCycle cause = if s.screen.overload.active = true then
      (s.withScreen (s.screen.cycling cause s.cfg.rakeInterval)).overloadForward
    else s.withScreen (s.screen.cycling cause s.cfg.rakeInterval) := rfl
  rw [begun]
  split
  · have few : (s.withScreen (s.screen.cycling cause s.cfg.rakeInterval)).screen.overloads < 2 := Nat.zero_lt_two
    exact ⟨_, overloadForward_of_few few, rfl, rfl, rfl⟩
  · exact ⟨_, rfl, rfl, rfl, rfl⟩

theorem trigger_cases (s : State) (cause : RakeCause) :
    ∃ u, s.trigger cause = s.withScreen u ∧ u.delta = s.screen.delta ∧ u.condition = s.screen.condition ∧ u.limit = s.screen.limit := by
  unfold trigger
  split
  · exact s.startCycle_cases cause
  · exact ⟨_, rfl, rfl, rfl, rfl⟩

/-- The screen condition an X sample forms (R123). -/
def formCondition (s : State) : ScreenCondition := nextCondition s.cfg s.screen.condition s.differential

/-- The screen unit with the differential, the condition and the limit of an X sample (R122 to R124). -/
def judgedScreen (s : State) : Screen :=
  { s.screen with delta := s.differential, condition := s.formCondition, limit := conditionLimit s.cfg s.formCondition }

/-- An X sample judged and handed on, its LEVEL trigger still to come. -/
def judged (s : State) : State :=
  ((s.withScreen s.judgedScreen).deliver .screenBlinded (s.formCondition == .blinded)).recount

theorem onXSample_of_screenRuns {s : State} (runs : s.screenRuns = true) :
    s.onXSample = if (s.differential.map (fun d => decide (s.cfg.rakeLevel ≤ d))).getD false = true then s.judged.trigger .level
      else s.judged := if_pos runs

theorem judged_takes (s : State) : s.TakesLevel s.judged :=
  ((TakesLevel.withScreen _ s).trans (.deliver _ _ _)).trans (.of_moves (recount_moves _) (recount_reacts _).points)

theorem judged_moves (s : State) : ((s.withScreen s.judgedScreen).deliver .screenBlinded (s.formCondition == .blinded)).Moves s.judged :=
  recount_moves _

theorem judged_screen (s : State) : s.judged.screen = s.judgedScreen := by
  rw [s.judged_moves.screen, deliver_screen]
  rfl

theorem judged_balance (s : State) :
    s.judged.balance = { s.balance with limit := s.judged.balance.limit, effective := s.judged.balance.effective } := by
  have moved := s.judged_moves.balance
  rw [deliver_balance] at moved
  exact moved

theorem judged_blinded {s : State} (started : s.started = true) : s.judged.rawOf .screenBlinded = (s.formCondition == .blinded) := by
  have kept := (recount_reacts ((s.withScreen s.judgedScreen).deliver .screenBlinded (s.formCondition == .blinded))).points.rawOf
    (p := .screenBlinded)
  exact kept.trans (deliver_delivers (s := s.withScreen s.judgedScreen) _ _ started).1

theorem onXSample_takes (s : State) : s.TakesLevel s.onXSample := by
  by_cases runs : s.screenRuns = true
  · rw [onXSample_of_screenRuns runs]
    split
    · obtain ⟨u, same, _⟩ := s.judged.trigger_cases .level
      rw [same]
      exact (judged_takes s).trans (.withScreen _ _)
    · exact judged_takes s
  · rw [onXSample, if_neg runs]
    exact .refl s

/-- Beside its own screen unit an X sample moves R and E alone of the balance unit. -/
theorem onXSample_balance (s : State) :
    s.onXSample.balance = { s.balance with limit := s.onXSample.balance.limit, effective := s.onXSample.balance.effective } := by
  by_cases runs : s.screenRuns = true
  · rw [onXSample_of_screenRuns runs]
    split
    · obtain ⟨u, same, _⟩ := s.judged.trigger_cases .level
      rw [same]
      exact s.judged_balance
    · exact s.judged_balance
  · rw [onXSample, if_neg runs]

theorem onXSample_of_other {s : State} (role : s.cfg.role ≠ .screen) : s.onXSample = s := by
  refine if_neg ?_
  rw [screenRuns, Bool.and_eq_true, beq_iff_eq]
  exact fun runs => role runs.2

/-! ## A sample event (R1, R18, R19) -/

/-- The state whose level the channel offers: the channel moved, its two raw conditions delivered. -/
def sampled (ch : ChannelId) (c : Channel) (s : State) : State :=
  ((s.withChan ch c).deliver (faultPoint ch) (c.fault != .clear)).deliver (checkPoint ch) c.checkFlag

theorem offerLevel_takes (s : State) (ch : ChannelId) : s.TakesLevel (s.offerLevel ch) := by
  cases ch
  · exact s.onWSample_takes
  · exact s.onXSample_takes

/-- What a sample event leaves alone, and what its channel shows. -/
structure Samples (s t : State) (ch : ChannelId) (c : Channel) : Prop where
  own : t.chan ch = c
  others : ∀ other, other ≠ ch → t.chan other = s.chan other
  fault : t.rawOf (faultPoint ch) = (c.fault != .clear)
  check : t.rawOf (checkPoint ch) = c.checkFlag
  points : s.PointsBut t [faultPoint ch, checkPoint ch, .levelDisagree, .houseLevelLost, .overflowRisk, .screenBlinded]
  start : t.start = s.start
  clock : t.clock = s.clock
  pins : t.pins = s.pins
  floats : t.floats = s.floats
  spill : t.spill = s.spill
  town : t.town = s.town
  pending : t.pending = s.pending
  entries : t.table.entries = s.table.entries
  isolated : t.table.isolated = s.table.isolated
  silence : t.table.silence = s.table.silence
  generator : t.table.generator = s.table.generator

theorem Samples.shown {s t : State} {ch : ChannelId} {c : Channel} (h : s.Samples t ch c) :
    (∀ other, other ≠ ch → t.chan other = s.chan other) ∧ t.rawOf (faultPoint ch) = (c.fault != .clear) ∧
      t.rawOf (checkPoint ch) = (t.chan ch).checkFlag ∧
      s.PointsBut t [faultPoint ch, checkPoint ch, .levelDisagree, .houseLevelLost, .overflowRisk, .screenBlinded] ∧
      t.start = s.start ∧ t.clock = s.clock ∧ t.pins = s.pins ∧ t.floats = s.floats ∧ t.spill = s.spill ∧ t.town = s.town ∧
      t.pending = s.pending ∧ t.table.entries = s.table.entries :=
  ⟨h.others, h.fault, by rw [h.own]; exact h.check, h.points, h.start, h.clock, h.pins, h.floats, h.spill, h.town, h.pending, h.entries⟩

section Sampled

variable (s : State) (ch : ChannelId) (c : Channel)

theorem sampled_alarmsOnly : (s.withChan ch c).AlarmsOnly (s.sampled ch c) :=
  (deliver_alarmsOnly (s.withChan ch c) (faultPoint ch) (c.fault != .clear)).trans (deliver_alarmsOnly _ (checkPoint ch) c.checkFlag)

theorem sampled_points : s.PointsBut (s.sampled ch c) [faultPoint ch, checkPoint ch] := by
  have channel : s.PointsBut (s.withChan ch c) [faultPoint ch, checkPoint ch] := .of_alarms (by cases ch <;> rfl) _
  exact (channel.trans ((deliver_pointsBut _ (faultPoint ch) _).mono)).trans ((deliver_pointsBut _ (checkPoint ch) _).mono)

/-- What neither a channel's replacement nor a delivery touches is as before a sample event. -/
theorem sampled_frame {α : Type} (f : State → α) (chan : f (s.withChan ch c) = f s)
    (alarms : ∀ (u : State) (a : Alarms) (q : EventQueue), f ((u.withAlarms a).withEvents q) = f u := by intros; rfl) :
    f (s.sampled ch c) = f s := by
  rw [s.sampled_alarmsOnly ch c, alarms, chan]

theorem sampled_chan (other : ChannelId) : (s.sampled ch c).chan other = (s.withChan ch c).chan other := by
  rw [(s.sampled_alarmsOnly ch c)]
  cases other <;> rfl

theorem faultPoint_ne_checkPoint : faultPoint ch ≠ checkPoint ch := by cases ch <;> simp [faultPoint, checkPoint]

theorem sampled_fault (started : s.started = true) : (s.sampled ch c).rawOf (faultPoint ch) = (c.fault != .clear) := by
  have kept := (((s.withChan ch c).deliver (faultPoint ch) (c.fault != .clear)).deliver_pointsBut (checkPoint ch) c.checkFlag).rawOf
    (p := faultPoint ch) (by simpa using faultPoint_ne_checkPoint ch)
  exact kept.trans (deliver_delivers (s := s.withChan ch c) _ _ (by cases ch <;> exact started)).1

theorem sampled_check (started : s.started = true) : (s.sampled ch c).rawOf (checkPoint ch) = c.checkFlag :=
  (deliver_delivers (s := (s.withChan ch c).deliver (faultPoint ch) (c.fault != .clear)) _ _
    (by rw [State.started, deliver_start]; cases ch <;> exact started)).1

theorem samples_of_offer (started : s.started = true) : s.Samples ((s.sampled ch c).offerLevel ch) ch c := by
  have takes := (s.sampled ch c).offerLevel_takes ch
  have chans (other : ChannelId) : ((s.sampled ch c).offerLevel ch).chan other = (s.withChan ch c).chan other := by
    rw [← sampled_chan]
    cases other
    · exact takes.chanW
    · exact takes.chanX
  have start := s.sampled_frame ch c State.start (by cases ch <;> rfl)
  have table := s.sampled_frame ch c State.table (by cases ch <;> rfl)
  constructor
  case own => rw [chans, withChan_chan]
  case others => exact fun other ne => by rw [chans, withChan_other s ch c ne]
  case fault => exact (takes.points.rawOf (by cases ch <;> simp [faultPoint])).trans (s.sampled_fault ch c started)
  case check => exact (takes.points.rawOf (by cases ch <;> simp [checkPoint])).trans (s.sampled_check ch c started)
  case points => exact (s.sampled_points ch c).mono.trans takes.points.mono
  case start => exact takes.start.trans start
  case clock => exact takes.clock.trans (s.sampled_frame ch c State.clock (by cases ch <;> rfl))
  case pins => exact takes.pins.trans (s.sampled_frame ch c State.pins (by cases ch <;> rfl))
  case floats => exact takes.floats.trans (s.sampled_frame ch c State.floats (by cases ch <;> rfl))
  case spill => exact takes.spill.trans (s.sampled_frame ch c State.spill (by cases ch <;> rfl))
  case town => exact takes.town.trans (s.sampled_frame ch c State.town (by cases ch <;> rfl))
  case pending => exact takes.pending.trans (s.sampled_frame ch c State.pending (by cases ch <;> rfl))
  case entries => exact takes.entries.trans (by rw [table])
  case isolated => exact takes.isolated.trans (by rw [table])
  case silence => exact takes.silence.trans (by rw [table])
  case generator => exact takes.generator.trans (by rw [table])

end Sampled

theorem sampleChannel_of_runs {s : State} {ch : ChannelId} (conversion : Int) (runs : (s.chan ch).phase ≠ .stopped) :
    s.sampleChannel ch conversion = (s.sampled ch ((s.chan ch).sample (s.cfg.channel ch) conversion).offer).offerLevel ch := if_neg runs

theorem sampleChannel_samples {s : State} {ch : ChannelId} {conversion : Int} (working : s.working = true)
    (runs : (s.chan ch).phase ≠ .stopped) :
    s.Samples (s.sampleChannel ch conversion) ch ((s.chan ch).sample (s.cfg.channel ch) conversion).offer := by
  rw [sampleChannel_of_runs conversion runs]
  exact s.samples_of_offer ch _ (started_of_working working)

end State

/-- Settles O11. -/
theorem sampleEventRuns : Obligations.SampleEventRuns := by
  intro s ch conversion working runs
  have h := State.sampleChannel_samples (conversion := conversion) working runs
  refine ⟨s.sampleChannel ch conversion, rfl, h.own, by rw [h.own]; rfl, by rw [h.own]; rfl, h.others, by rw [h.own]; exact h.fault,
    by rw [h.own]; exact h.check, ?screen, ?balance, ?plain, h.points, h.start, h.clock, h.pins, h.floats, h.spill, h.town, h.pending,
    h.entries, h.isolated, h.silence, h.generator⟩
  case screen =>
    rintro rfl
    rw [State.sampleChannel_of_runs conversion runs]
    exact (State.onWSample_screen _).trans (s.sampled_frame .w _ State.screen rfl)
  case balance =>
    rintro rfl
    rw [State.sampleChannel_of_runs conversion runs]
    have moved := (s.sampled .x ((s.chan .x).sample (s.cfg.channel .x) conversion).offer).onXSample_balance
    rw [s.sampled_frame .x ((s.chan .x).sample (s.cfg.channel .x) conversion).offer State.balance rfl] at moved
    rw [State.offerLevel, moved]
    exact ⟨rfl, rfl, rfl⟩
  case plain =>
    rintro rfl role
    have start := s.sampled_frame .x ((s.chan .x).sample (s.cfg.channel .x) conversion).offer State.start rfl
    rw [h.own, State.sampleChannel_of_runs conversion runs, State.offerLevel,
      State.onXSample_of_other (by rw [State.cfg, start]; exact role)]
    exact ⟨s.sampled_alarmsOnly .x _, s.sampled_points .x _⟩

/-! ## The channel's own times (R3, R12, R14 to R17) -/

theorem Channel.quality_of_expired {c : Channel} (expired : c.fault = .expired) : c.quality = .invalid := by
  rw [quality, if_pos expired, ite_self]

theorem Channel.settle_of_last {g : ChannelSettings} {c : Channel} (last : c.discard = 1) :
    c.settle g = { c with discard := 0, phase := .sampling, check := if g.checkInterval = 0 then .stopped else .running 0 } := by
  rw [settle, if_pos (by omega)]
  rfl

/-- Settles O15. -/
theorem channelTimesRun : Obligations.ChannelTimesRun := by
  intro s ch conversion mean
  refine ⟨?settling, ?checkDue, ?begins, ?counts, ?first, ?second, ?ends, ?hold⟩
  case settling =>
    intro working settling last
    have h := State.sampleChannel_samples (s := s) (ch := ch) (conversion := 0) working (by rw [settling]; exact fun h => nomatch h)
    rw [Channel.sample_of_settling settling, Channel.settle_of_last last] at h
    exact ⟨s.sampleChannel ch 0, congrArg Host.Outcome.next (if_pos ⟨settling, by omega⟩), h.own, h.shown⟩
  case checkDue =>
    intro due
    exact ⟨_, congrArg Host.Outcome.next (if_pos due), rfl⟩
  case begins =>
    intro working sampling reached
    have h := State.sampleChannel_samples (s := s) (ch := ch) (conversion := conversion) working
      (by rw [sampling]; exact fun h => nomatch h)
    rw [Channel.sample_of_due sampling ((State.hasReached_iff _).mpr reached)] at h
    exact ⟨s.sampleChannel ch conversion, rfl, h.own, by rw [h.own]; exact Channel.beginCheck_quality sampling, h.shown⟩
  case counts =>
    intro working checking period
    have h := State.sampleChannel_samples (s := s) (ch := ch) (conversion := conversion) working
      (by rw [checking]; exact fun h => nomatch h)
    have counted : (s.chan ch).checkEvent (s.cfg.channel ch) conversion = { s.chan ch with period := (s.chan ch).period + 1 } := by
      rcases period with one | four
      · rw [Channel.checkEvent_one one, one]
      · rw [Channel.checkEvent_four four, four]
    rw [Channel.sample_of_checking checking, counted] at h
    exact ⟨s.sampleChannel ch conversion, rfl, h.own, h.shown⟩
  case first =>
    intro working checking period
    have h := State.sampleChannel_samples (s := s) (ch := ch) (conversion := conversion) working
      (by rw [checking]; exact fun h => nomatch h)
    rw [Channel.sample_of_checking checking, Channel.checkEvent_two period] at h
    exact ⟨s.sampleChannel ch conversion, rfl, h.own, h.shown⟩
  case second =>
    intro working checking period formed
    have h := State.sampleChannel_samples (s := s) (ch := ch) (conversion := conversion) working
      (by rw [checking]; exact fun h => nomatch h)
    rw [Channel.sample_of_checking checking, Channel.checkEvent_three period formed] at h
    exact ⟨s.sampleChannel ch conversion, rfl, h.own, h.check, h.shown⟩
  case ends =>
    intro working checking period
    have h := State.sampleChannel_samples (s := s) (ch := ch) (conversion := 0) working (by rw [checking]; exact fun h => nomatch h)
    rw [Channel.sample_of_checking checking, Channel.checkEvent_five period] at h
    exact ⟨s.sampleChannel ch 0, congrArg Host.Outcome.next (if_pos ⟨checking, period⟩), h.own, h.shown⟩
  case hold =>
    intro holding due
    refine ⟨_, congrArg Host.Outcome.next (if_pos ⟨holding, due⟩), rfl, ?_, ?_⟩
    · rw [State.withChan_chan]
      exact Channel.quality_of_expired rfl
    · rw [State.withChan_chan]
      rfl

/-! ## The house level at an own W sample (O13) -/

theorem Balance.takeLevel_level (g : Settings) (h : Option Int) (b : Balance) : (b.takeLevel g h).level = h := by
  cases h with
  | some level => rfl
  | none =>
    unfold takeLevel
    dsimp only
    split <;> rfl

theorem Balance.takeLevel_of_lost {g : Settings} {b : Balance} (known : b.level.isSome = true) :
    b.takeLevel g none = { b with level := none, held := b.demand, invalidHold := .running 0 } := if_pos known

theorem Balance.takeLevel_of_missing {g : Settings} {b : Balance} (unknown : b.level = none) : b.takeLevel g none = { b with level := none } :=
  if_neg (by rw [unknown]; exact Bool.false_ne_true)

/-- Outside its level, V, Db, the held demand and the invalid hold the balance unit takes nothing from a level. -/
theorem Balance.takeLevel_frame (g : Settings) (h : Option Int) (b : Balance) :
    b.takeLevel g h = { b with
      level := (b.takeLevel g h).level, volume := (b.takeLevel g h).volume, band := (b.takeLevel g h).band,
      held := (b.takeLevel g h).held, invalidHold := (b.takeLevel g h).invalidHold } := by
  cases h with
  | some level => rfl
  | none =>
    unfold takeLevel
    dsimp only
    split <;> rfl

theorem Balance.takeLevel_none_volume (g : Settings) (b : Balance) :
    (b.takeLevel g none).volume = b.volume ∧ (b.takeLevel g none).band = b.band := by
  unfold takeLevel
  dsimp only
  split <;> exact ⟨rfl, rfl⟩

/-- Settles O13. -/
theorem levelBecomesDemand : Obligations.LevelBecomesDemand := by
  intro s conversion working runs
  obtain ⟨c, moved⟩ : ∃ c, c = (s.chanW.sample (s.cfg.channel .w) conversion).offer := ⟨_, rfl⟩
  obtain ⟨u, sampled⟩ : ∃ u, u = s.sampled .w c := ⟨_, rfl⟩
  have start : u.start = s.start := by rw [sampled]; exact s.sampled_frame .w c State.start rfl
  have balance : u.balance = s.balance := by rw [sampled]; exact s.sampled_frame .w c State.balance rfl
  have table : u.table = s.table := by rw [sampled]; exact s.sampled_frame .w c State.table rfl
  have running : u.working = true := by rw [State.working, start]; exact working
  have step : s.sampleChannel .w conversion = u.levelFormed.redemand := by
    rw [State.sampleChannel_of_runs (ch := .w) conversion runs, sampled, moved]
    rw [sampled, moved] at running
    exact State.onWSample_of_working running
  have takes := (u.levelFormed_takes).trans (State.redemand_takes _)
  have formed : u.formLevel = medianLevel (u.levelFormed.redemand.chanW.usable.toList ++
      if s.table.isolated then [] else s.table.list.filterMap PeerEntry.candidate) := by
    rw [State.formLevel, State.candidates, takes.chanW, table]
  obtain ⟨d, watched, stops⟩ := u.levelFormed_balance
  have filled := u.levelFormed.redemand_balance
  rw [watched, balance, State.cfg, start] at filled
  rw [balance, Balance.takeLevel_level] at stops
  have level : u.levelFormed.redemand.balance.level = u.formLevel := by rw [filled]; exact Balance.takeLevel_level ..
  have started : u.started = true := State.started_of_working running
  have lost : u.levelFormed.redemand.rawOf .houseLevelLost = (s.operating && u.levelFormed.redemand.balance.level.isNone) := by
    have raised := State.levelFormed_lost started
    rw [State.operating, (u.levelFormed_takes).start, start] at raised
    rw [(State.redemand_points u.levelFormed).rawOf, raised, level, watched, balance]
    exact congrArg (fun l => s.operating && l.isNone) (Balance.takeLevel_level ..)
  have tallied := u.levelFormed.redemand_tallied
  refine ⟨u.levelFormed.redemand, congrArg Host.Outcome.next step, level.trans formed, ?_, ?_, ?_, ?_, ?_, ?_, lost, ?_, tallied.1, tallied.2⟩
  · intro h valid
    rw [level] at valid
    rw [filled, valid]
    exact ⟨rfl, rfl, rfl, rfl⟩
  · intro unknown
    rw [level] at unknown
    rw [filled, unknown]
    exact Balance.takeLevel_none_volume ..
  · intro unknown known
    rw [level] at unknown
    rw [filled, unknown, Balance.takeLevel_of_lost known]
    exact ⟨rfl, rfl⟩
  · intro unknown missing
    rw [level] at unknown
    rw [filled, unknown, Balance.takeLevel_of_missing missing]
    exact ⟨rfl, rfl⟩
  · intro nothing
    rw [takes.usable, level] at nothing
    rw [filled]
    exact stops nothing
  · exact State.redemand_row (s := u.levelFormed) (by rw [State.working, (u.levelFormed_takes).start, start]; exact working)
  · rw [filled, Balance.takeLevel_frame]

end Sys2Proof.Machine
end

section
/-! An own X sample at a screen station (O14). -/

namespace Sys2Proof.Machine

theorem nextCondition_of_known (g : Settings) (present : ScreenCondition) (d : Int) :
    nextCondition g present (some d) =
      if g.blindLevel ≤ d ∨ (present = .blinded ∧ g.blindClear ≤ d) then .blinded else if g.rakeLevel ≤ d then .loaded else .clear := by
  unfold nextCondition
  dsimp only
  by_cases stays : present = .blinded ∧ g.blindClear ≤ d
  · rw [if_pos stays, if_pos (.inr stays)]
  · by_cases rises : g.blindLevel ≤ d
    · rw [if_neg stays, if_pos rises, if_pos (.inl rises)]
    · rw [if_neg stays, if_neg rises, if_neg (c := _ ∨ _) (not_or.mpr ⟨rises, stays⟩)]

theorem nextCondition_unknown_iff (g : Settings) (present : ScreenCondition) (delta : Option Int) :
    nextCondition g present delta = .unknown ↔ delta = none := by
  cases delta with
  | none => simp [nextCondition]
  | some d =>
    rw [nextCondition_of_known]
    split
    · simp
    · split <;> simp

namespace State

/-- The outcome of an X sample at a screen station: the unit as judged, but for what its LEVEL trigger moves. -/
theorem onXSample_cases {s : State} (runs : s.screenRuns = true) :
    ∃ v, s.onXSample = s.judged.withScreen v ∧ v.delta = s.differential ∧ v.condition = s.formCondition ∧
      v.limit = conditionLimit s.cfg s.formCondition := by
  rw [onXSample_of_screenRuns runs]
  split
  · obtain ⟨v, same, delta, condition, limit⟩ := s.judged.trigger_cases .level
    exact ⟨v, same, by rw [delta, judged_screen]; rfl, by rw [condition, judged_screen]; rfl, by rw [limit, judged_screen]; rfl⟩
  · exact ⟨s.judgedScreen, by rw [← judged_screen]; rfl, rfl, rfl, rfl⟩

theorem onXSample_of_low {s : State} {d : Int} (runs : s.screenRuns = true) (delta : s.differential = some d) (low : d < s.cfg.rakeLevel) :
    s.onXSample = s.judged := by
  rw [onXSample_of_screenRuns runs, delta]
  exact if_neg (by simpa using low)

theorem onXSample_of_unknown {s : State} (runs : s.screenRuns = true) (delta : s.differential = none) : s.onXSample = s.judged := by
  rw [onXSample_of_screenRuns runs, delta]
  exact if_neg Bool.false_ne_true

theorem onXSample_of_high {s : State} {d : Int} (runs : s.screenRuns = true) (delta : s.differential = some d)
    (high : s.cfg.rakeLevel ≤ d) : s.onXSample = s.judged.trigger .level := by
  rw [onXSample_of_screenRuns runs, delta]
  exact if_pos (by simpa using high)

theorem judged_cfg (s : State) : s.judged.cfg = s.cfg := by unfold cfg; rw [s.judged_takes.start]

/-- The counts stand as of the screen unit's new limit after an X sample (R96, R124). -/
theorem onXSample_screenLimit {s : State} (runs : s.screenRuns = true) : s.onXSample.table.screenLimit = s.onXSample.slim := by
  obtain ⟨v, same, delta, condition, limit⟩ := onXSample_cases runs
  obtain ⟨counts, _⟩ := recount_tallied ((s.withScreen s.judgedScreen).deliver .screenBlinded (s.formCondition == .blinded))
  rw [screenRuns, Bool.and_eq_true] at runs
  have working : s.judged.working = true := by rw [State.working, s.judged_takes.start]; exact runs.1
  obtain ⟨_, _, _, slim⟩ := counts working
  have limits : (s.judged.withScreen v).slim = s.judged.slim := by
    unfold State.slim
    rw [withScreen_screen, limit, judged_screen]
    rfl
  rw [same, limits]
  exact slim

theorem onXSample_blinded {s : State} (runs : s.screenRuns = true) :
    s.onXSample.rawOf .screenBlinded = (s.onXSample.screen.condition == .blinded) := by
  obtain ⟨v, same, delta, condition, limit⟩ := onXSample_cases runs
  rw [same, withScreen_screen, condition]
  exact judged_blinded (started_of_screenRuns runs)

end State

/-- Settles O14. -/
theorem differentialJudgesTheScreen : Obligations.DifferentialJudgesTheScreen := by
  intro s conversion runs on
  obtain ⟨c, moved⟩ : ∃ c, c = (s.chanX.sample (s.cfg.channel .x) conversion).offer := ⟨_, rfl⟩
  obtain ⟨u, sampled⟩ : ∃ u, u = s.sampled .x c := ⟨_, rfl⟩
  have start : u.start = s.start := by rw [sampled]; exact s.sampled_frame .x c State.start rfl
  have balance : u.balance = s.balance := by rw [sampled]; exact s.sampled_frame .x c State.balance rfl
  have screen : u.screen = s.screen := by rw [sampled]; exact s.sampled_frame .x c State.screen rfl
  have chanW : u.chanW = s.chanW := by rw [sampled]; exact s.sampled_frame .x c State.chanW rfl
  have cfg : u.cfg = s.cfg := by unfold State.cfg; rw [start]
  have running : u.screenRuns = true := by rw [State.screenRuns, State.working, cfg, start]; exact runs
  have working : s.working = true := by rw [State.screenRuns, Bool.and_eq_true] at runs; exact runs.1
  have h := State.sampleChannel_samples (s := s) (ch := .x) (conversion := conversion) working on
  rw [State.sampleChannel_of_runs (ch := .x) conversion on] at h
  have step : s.sampleChannel .x conversion = u.onXSample := by
    rw [State.sampleChannel_of_runs (ch := .x) conversion on, sampled, moved]
    rfl
  rw [show s.chan .x = s.chanX from rfl, ← moved, ← sampled] at h
  have takes := u.onXSample_takes
  have judged : u.judged.screen = u.judgedScreen := u.judged_screen
  have judgedCfg : u.judged.cfg = s.cfg := u.judged_cfg.trans cfg
  have whole := u.onXSample_balance
  have limits := State.onXSample_screenLimit running
  have blinded := State.onXSample_blinded running
  obtain ⟨v, same, delta, condition, limit⟩ := State.onXSample_cases running
  have formed : u.onXSample.screen = v := by rw [same]; rfl
  have differential : u.differential = (match u.onXSample.chanX.usable, s.balance.level, s.chanW.usable with
      | some x, some h, _ => some (x - h) | some x, none, some w => some (x - w) | _, _, _ => none) := by
    rw [State.differential, takes.chanX, balance, chanW]
    cases u.chanX.usable <;> cases s.balance.level <;> cases s.chanW.usable <;> rfl
  refine ⟨u.onXSample, congrArg Host.Outcome.next step, ?_, ?_, ?_, ?_, ?_, ?_, ?_, ?_, ?_, ?_, limits, h.clock, h.pins, ?_, h.spill, h.floats,
    h.town⟩
  · rw [formed, delta]
    exact differential
  · intro unknown
    rw [formed, delta] at unknown
    have conditionUnknown : u.formCondition = .unknown := (nextCondition_unknown_iff ..).mpr unknown
    rw [State.onXSample_of_unknown running unknown, judged, ← screen]
    exact ⟨conditionUnknown, by rw [State.judgedScreen, conditionUnknown, ← cfg]; rfl, rfl, rfl⟩
  · intro d known
    rw [formed, delta] at known
    rw [formed, condition, State.formCondition, known, nextCondition_of_known, cfg, screen]
  · intro isBlinded
    rw [formed, condition] at isBlinded
    rw [formed, limit, isBlinded, cfg]
    rfl
  · intro clearOrLoaded
    rw [formed, condition] at clearOrLoaded
    rw [formed, limit]
    rcases clearOrLoaded with clear | loaded
    · rw [clear]; rfl
    · rw [loaded]; rfl
  · exact blinded
  · intro d known low
    rw [formed, delta] at known
    rw [State.onXSample_of_low running known (by rw [cfg]; exact low), judged, State.judgedScreen, known, screen]
  · intro d known high idle rested clear
    rw [formed, delta] at known
    have triggered := State.trigger_of_ready (s := u.judged) .level (by rw [judged, State.judgedScreen, screen]; exact idle)
      (by rw [judged, State.judgedScreen, screen]; exact rested) (by rw [judged, State.judgedScreen, screen]; exact clear)
    rw [State.onXSample_of_high running known (by rw [cfg]; exact high), triggered, State.withScreen_screen, judged, judgedCfg,
      State.judgedScreen, known, screen]
    rfl
  · intro d known high busy
    rw [formed, delta] at known
    have left := State.trigger_of_busy (s := u.judged) .level (by rw [judged, State.judgedScreen, screen]; exact busy)
    rw [State.onXSample_of_high running known (by rw [cfg]; exact high), left, State.withScreen_screen, judged, State.judgedScreen, known,
      screen]
  · rw [balance] at whole
    exact whole
  · exact h.others .w (by simp)

end Sys2Proof.Machine
end

section
/-! The balance event (O16), the invalid hold and the generator contact (O17). -/

namespace Sys2Proof.Machine

/-! ## The estimate and the bookkeeping of a balance event (R27 to R29, R32) -/

namespace Balance

variable {g : Settings} {b : Balance} {outflow : Nat} {h : Int}

theorem atEvent_of_valid (level : b.level = some h) (valid : b.prevValid = true) :
    b.atEvent g outflow = b.estimate (rawInflow b outflow (volumeAt g.volumeTable h) g.balanceInterval) := by
  unfold atEvent
  rw [level]
  exact if_pos valid

theorem atEvent_of_missing (missing : b.level = none ∨ b.prevValid = false) :
    b.atEvent g outflow = { b with age := min 65535 (b.age + 1) } := by
  unfold atEvent
  split
  case h_1 h level =>
    rcases missing with none | invalid
    · exact absurd none (by rw [level]; exact fun h => nomatch h)
    · exact if_neg (Bool.eq_false_iff.mp invalid)
  case h_2 => rfl

theorem bookkeep_of_known (level : b.level = some h) :
    b.bookkeep g outflow = { b with
      outflowPrev := outflow, volumePrev := volumeAt g.volumeTable h, prevValid := true, trend := trendDemand g h b.smoothed,
      timer := .running 0 } := by
  unfold bookkeep
  rw [level]
  rfl

theorem bookkeep_of_unknown (level : b.level = none) :
    b.bookkeep g outflow = { b with outflowPrev := outflow, prevValid := false, timer := .running 0 } := by
  unfold bookkeep
  rw [level]
  rfl

end Balance

namespace State

/-! ## The balance event -/

theorem offerBalanceLow_cases (s : State) (before : Balance) (outflow : Nat) :
    s.offerBalanceLow before outflow = s ∨
      ∃ values, s.offerBalanceLow before outflow = s.offer .balanceLow 0 values := by
  unfold offerBalanceLow
  split
  · split
    · exact .inr ⟨_, rfl⟩
    · exact .inl rfl
  · exact .inl rfl

theorem offerBalanceLow_eq (s : State) (before : Balance) (outflow : Nat) :
    s.offerBalanceLow before outflow = s.withEvents (s.offerBalanceLow before outflow).events := by
  obtain same | ⟨values, same⟩ := s.offerBalanceLow_cases before outflow
  · rw [same]; rfl
  · rw [same]; exact s.offer_events_only ..

/-- The state whose D and E a balance event recomputes. -/
def balanced (s : State) : State :=
  ((s.withBalance (s.balance.atEvent s.cfg s.outflow)).offerBalanceLow s.balance s.outflow).withBalance
    ((s.balance.atEvent s.cfg s.outflow).bookkeep s.cfg s.outflow)

theorem exec_balanceEvent {s : State} (working : s.working = true) (due : s.balance.timer.due s.cfg.balanceTime = true) :
    exec .balanceEvent s = .next s.balanced.redemand := by
  change execBalanceEvent s = _
  rw [execBalanceEvent, if_pos ⟨working, due⟩]
  dsimp only
  rw [offerBalanceLow_eq]
  unfold balanced
  rw [offerBalanceLow_eq (s.withBalance _)]
  rfl

theorem balanced_eq (s : State) :
    s.balanced = (s.withBalance ((s.balance.atEvent s.cfg s.outflow).bookkeep s.cfg s.outflow)).withEvents s.balanced.events := by
  unfold balanced
  rw [offerBalanceLow_eq (s.withBalance _)]
  rfl

/-- What a balance event leaves alone. -/
structure Balances (s t : State) : Prop where
  start : t.start = s.start
  clock : t.clock = s.clock
  pins : t.pins = s.pins
  chanW : t.chanW = s.chanW
  chanX : t.chanX = s.chanX
  floats : t.floats = s.floats
  screen : t.screen = s.screen
  spill : t.spill = s.spill
  town : t.town = s.town
  pending : t.pending = s.pending
  entries : t.table.entries = s.table.entries
  isolated : t.table.isolated = s.table.isolated
  silence : t.table.silence = s.table.silence

theorem balanced_balances (s : State) : s.Balances s.balanced.redemand := by
  obtain ⟨u, same⟩ : ∃ u, u = s.balanced := ⟨_, rfl⟩
  have frame := s.balanced_eq
  rw [← same] at frame ⊢
  have takes := u.redemand_takes
  have table : u.table = s.table := by rw [frame]; rfl
  exact ⟨takes.start.trans (by rw [frame]; rfl), takes.clock.trans (by rw [frame]; rfl), takes.pins.trans (by rw [frame]; rfl),
    takes.chanW.trans (by rw [frame]; rfl), takes.chanX.trans (by rw [frame]; rfl), takes.floats.trans (by rw [frame]; rfl),
    u.redemand_screen.trans (by rw [frame]; rfl), takes.spill.trans (by rw [frame]; rfl), takes.town.trans (by rw [frame]; rfl),
    takes.pending.trans (by rw [frame]; rfl), takes.entries.trans (by rw [table]), takes.isolated.trans (by rw [table]),
    takes.silence.trans (by rw [table])⟩

theorem balanced_redemand_balance (s : State) :
    s.balanced.redemand.balance = { (s.balance.atEvent s.cfg s.outflow).bookkeep s.cfg s.outflow with
      demand := s.balanced.redemand.balance.demand, limit := s.balanced.redemand.balance.limit,
      effective := s.balanced.redemand.balance.effective } := by
  have frame : s.balanced.balance = (s.balance.atEvent s.cfg s.outflow).bookkeep s.cfg s.outflow := by rw [balanced_eq]; rfl
  have moved := s.balanced.redemand_balance
  rw [frame] at moved
  exact moved

theorem balanced_row {s : State} (working : s.working = true) : s.balanced.redemand.balance.demand = s.balanced.redemand.demandRow :=
  redemand_row s.balanced (by rw [balanced_eq]; exact working)

theorem redemand_grows (s : State) : s.events.Grows 6 s.redemand.events := by
  have grows := s.redemand_reacts.grows
  have same : s.withDemand.events = s.events := by unfold withDemand; split <;> rfl
  rw [same] at grows
  exact grows

theorem balanced_records {s : State} {h : Int} (started : s.started = true) (level : s.balance.level = some h)
    (valid : s.balance.prevValid = true) (high : s.balance.low = false)
    (low : rawInflow s.balance s.outflow (volumeAt s.cfg.volumeTable h) s.cfg.balanceInterval < 0) :
    s.Records s.balanced.redemand 12 .balanceLow s.own 0
      [BitVec.ofInt 32 (rawInflow s.balance s.outflow (volumeAt s.cfg.volumeTable h) s.cfg.balanceInterval), BitVec.ofNat 32 s.outflow] := by
  have rises : (s.balance.atEvent s.cfg s.outflow).low = true := by rw [Balance.atEvent_of_valid level valid]; exact decide_eq_true low
  have offered : (s.withBalance (s.balance.atEvent s.cfg s.outflow)).offerBalanceLow s.balance s.outflow =
      (s.withBalance (s.balance.atEvent s.cfg s.outflow)).offer .balanceLow 0
        [BitVec.ofInt 32 (rawInflow s.balance s.outflow (volumeAt s.cfg.volumeTable h) s.cfg.balanceInterval), valueOf s.outflow] := by
    unfold offerBalanceLow
    rw [level]
    exact if_pos ⟨high, rises⟩
  have events : s.balanced.events = ((s.withBalance (s.balance.atEvent s.cfg s.outflow)).offer .balanceLow 0
      [BitVec.ofInt 32 (rawInflow s.balance s.outflow (volumeAt s.cfg.volumeTable h) s.cfg.balanceInterval),
        valueOf s.outflow]).events := by
    rw [← offered]
    rfl
  have after := s.balanced.redemand_grows.1
  rw [events] at after
  exact records_of_offerFrom (m := 0) (u := s.withBalance (s.balance.atEvent s.cfg s.outflow)) started rfl (.refl _ _) after
    s.balanced_balances.clock

end State

/-- Settles O16. -/
theorem balanceEventEstimates : Obligations.BalanceEventEstimates := by
  intro s h q
  refine ⟨?valid, ?missing⟩
  case valid =>
    rintro working due level valid rfl
    have frame := s.balanced_balances
    have filled := s.balanced_redemand_balance
    rw [Balance.atEvent_of_valid level valid,
      Balance.bookkeep_of_known (b := s.balance.estimate _) (h := h) level] at filled
    refine ⟨s.balanced.redemand, State.exec_balanceEvent working due, rfl, ?_, ?_, ?_, ?_, ?_, ?_, ?_, ?_, State.balanced_row working,
      fun high low => State.balanced_records (State.started_of_working working) level valid high low, frame.start, frame.clock, frame.pins,
      frame.chanW, frame.chanX, frame.floats, frame.screen, frame.spill, frame.town, frame.pending, frame.entries, frame.isolated,
      frame.silence⟩
    all_goals rw [filled]
    all_goals rfl
  case missing =>
    intro working due missing
    have frame := s.balanced_balances
    have filled := s.balanced_redemand_balance
    obtain ⟨b, aged⟩ : ∃ b : Balance, b = { s.balance with age := min 65535 (s.balance.age + 1) } := ⟨_, rfl⟩
    have level : b.level = s.balance.level := by rw [aged]
    rw [Balance.atEvent_of_missing missing, ← aged] at filled
    refine ⟨s.balanced.redemand, State.exec_balanceEvent working due, ?_, ?_, ?_, State.balanced_row working, frame.start, frame.clock,
      frame.pins, frame.chanW, frame.chanX, frame.floats, frame.screen, frame.spill, frame.town, frame.pending, frame.entries,
      frame.isolated, frame.silence⟩
    · cases known : s.balance.level with
      | none =>
        have valid : s.balance.level.isSome = false := by rw [known]; rfl
        rw [Balance.bookkeep_of_unknown (level.trans known), aged] at filled
        rw [filled, ← known, valid]
      | some v =>
        have valid : s.balance.level.isSome = true := by rw [known]; rfl
        rw [Balance.bookkeep_of_known (level.trans known), aged] at filled
        rw [filled, ← known, valid]
    · intro v known
      rw [Balance.bookkeep_of_known (level.trans known), aged] at filled
      rw [filled]
      exact ⟨rfl, rfl⟩
    · intro unknown
      rw [Balance.bookkeep_of_unknown (level.trans unknown), aged] at filled
      rw [filled]
      exact ⟨rfl, rfl⟩

end Sys2Proof.Machine
end

section
/-! The invalid hold and the generator contact (O17), the floats (O19), and a raw level at a pin (O20). -/

namespace Sys2Proof.Machine

namespace State

theorem withDemand_of_row {s : State} {d : Nat} (working : s.working = true) (row : s.demandRow = d) :
    s.withDemand = s.withBalance { s.balance with demand := d } := by
  rw [withDemand, if_pos working, row]

theorem demandRow_of_fallback {s : State} (low : s.lowLowInForce = false) (high : s.highHighInForce = false)
    (unknown : s.balance.level = none) (reached : s.balance.invalidHold = .reached) : s.demandRow = s.cfg.fallbackDemand := by
  rw [demandRow, if_neg (Bool.eq_false_iff.mp low), if_neg (Bool.eq_false_iff.mp high), unknown, reached]
  rfl

theorem Reacts.rawOf {s t : State} {ps : List AlarmPoint} {n : Nat} (h : s.Reacts t ps n) {p : AlarmPoint} (outside : p ∉ ps := by simp) :
    t.rawOf p = s.rawOf p := h.points.rawOf outside

/-- The house supply by the own generator contact and the entries (R94). -/
theorem houseSupply_eq {s t : State} (entries : t.table.entries = s.table.entries) :
    t.houseSupply = if t.table.generator.active || s.table.list.any (fun e => (e.seen.map Report.generator).getD false) then .generator
      else .utility := by
  rw [houseSupply, PeerTable.list, PeerTable.list, entries]

end State

/-- Settles O17. -/
theorem holdAndSupplyReachDemand : Obligations.HoldAndSupplyReachDemand := by
  intro s
  refine ⟨?hold, ?generator⟩
  case hold =>
    intro working due unknown low high
    obtain ⟨u, expired⟩ : ∃ u, u = s.withBalance { s.balance with invalidHold := .reached } := ⟨_, rfl⟩
    have running : u.working = true := by rw [expired]; exact working
    have row : u.demandRow = s.cfg.fallbackDemand := by rw [expired]; exact State.demandRow_of_fallback low high unknown rfl
    have taken := State.withDemand_of_row running row
    have moves := u.redemand_moves
    have reacts := u.redemand_reacts
    have tallied := u.redemand_tallied
    refine ⟨u.redemand, ?_, ?_, ?_, tallied.1, tallied.2, ?_⟩
    · rw [expired]
      exact congrArg Host.Outcome.next (if_pos due)
    · rw [moves.demand, taken]
      rfl
    · rw [taken, expired] at moves
      rw [expired] at *
      exact moves
    · exact (State.PointsBut.of_alarms (by rw [expired]; rfl) _).trans u.redemand_points
  case generator =>
    intro working due
    obtain ⟨v, taken⟩ : ∃ v, v = s.withTable { s.table with generator := { active := s.pins.dgen, timer := .stopped } } := ⟨_, rfl⟩
    obtain ⟨u, shown⟩ : ∃ u, u = v.deliver .onGenerator s.pins.dgen := ⟨_, rfl⟩
    have started : v.started = true := by rw [taken]; exact State.started_of_working working
    have delivered := v.deliver_delivers .onGenerator s.pins.dgen started
    have moves : v.Moves u.recount := by
      rw [shown]
      exact (State.deliver_reacts v ..).moves.trans (State.recount_moves _)
    have tallied := u.recount_tallied
    have running : u.recount.working = true := by rw [State.working, moves.start, taken]; exact working
    have cfg : u.recount.cfg = s.cfg := by unfold State.cfg; rw [moves.start, taken]; rfl
    have generator : u.recount.table.generator = { active := s.pins.dgen, timer := .stopped } := by rw [moves.table, taken]; rfl
    have entries : u.recount.table.entries = s.table.entries := by rw [moves.table, taken]; rfl
    obtain ⟨_, _, supply, _⟩ := tallied.1 running
    obtain ⟨_, limit⟩ := tallied.2 running
    rw [State.houseSupply_eq entries, generator] at supply
    refine ⟨u.recount, ?_, generator, ?_, ?_, ?_, ?_, tallied.1, tallied.2, ?_⟩
    · rw [shown, taken]
      exact congrArg Host.Outcome.next (if_pos due)
    · rw [(State.recount_reacts u).rawOf, shown]
      exact delivered.1
    · intro on
      rw [on, Bool.true_or, if_pos rfl] at supply
      exact ⟨supply, by rw [limit, supply, cfg]; rfl⟩
    · intro off none
      have quiet : s.table.list.any (fun e => (e.seen.map Report.generator).getD false) = false := by
        rw [List.any_eq_false]
        intro e mem
        have no := List.all_eq_true.mp none e mem
        rw [Bool.not_eq_true'] at no
        exact Bool.eq_false_iff.mp no
      rw [off, quiet, Bool.or_self, if_neg Bool.false_ne_true] at supply
      exact ⟨supply, by rw [limit, supply, cfg]; rfl⟩
    · rw [taken] at moves
      exact moves
    · have points : s.PointsBut u [.onGenerator, .overflowRisk] := by
        rw [shown]
        exact (State.PointsBut.of_alarms (by rw [taken]; rfl) _).trans delivered.2.mono
      exact points.trans (State.recount_reacts u).points.mono

end Sys2Proof.Machine
end

section
/-! What entries to pump states, trips and stops make of the pump, the start window and the port (R46, R47, R49, R52 to R57, R59, R65, R77,
R78, R117). -/

namespace Sys2Proof.Machine

/-! ## The pump at entry to a state -/

namespace Pump

variable (p : Pump)

theorem enter_off : p.enter .off = p.halted .off := rfl

theorem enter_watched {st : PumpState} (watched : st.strayWatched = true) :
    p.enter st = { p.halted st with lockout := if st = .lockout then .running 0 else .stopped, stray := p.strayAtEntry } := by
  unfold enter halted strayAtEntry
  cases st <;> simp_all [PumpState.strayWatched, Timer.start]

theorem enter_starting : p.enter .starting = p.launched := by
  unfold enter launched halted satInc16 satAdd
  cases active : p.runFb.active <;> simp [PumpState.strayWatched, Timer.start]

theorem enter_idle : p.enter .idle = { p.halted .idle with stray := p.strayAtEntry } := p.enter_watched rfl

theorem enter_waiting : p.enter .waiting = { p.halted .waiting with stray := p.strayAtEntry } := p.enter_watched rfl

theorem enter_claiming : p.enter .claiming = { p.halted .claiming with stray := p.strayAtEntry } := p.enter_watched rfl

theorem enter_inhibited : p.enter .inhibited = { p.halted .inhibited with stray := p.strayAtEntry } := p.enter_watched rfl

theorem enter_lockout : p.enter .lockout = { p.halted .lockout with lockout := .running 0, stray := p.strayAtEntry } := p.enter_watched rfl

theorem enter_halted {st st' : PumpState} (plain : st ≠ .starting) : (p.enter st).halted st' = p.halted st' := by
  unfold enter halted
  simp [plain]

end Pump

/-! ## The port once a REPORT is queued (R76, R78) -/

/-- The port with a REPORT offered and the report timer from 0. -/
def Link.reported (l : Link) : Link := { l.offer .report with report := .running 0 }

theorem upsert_upsert (b : TxBody) (q : List TxEntry) : upsert b (upsert b q) = upsert b q := by
  induction q with
  | nil => simp [upsert]
  | cons e rest ih =>
    by_cases same : e.body.cls = b.cls
    · simp [upsert, same]
    · by_cases before : b.cls < e.body.cls
      · simp [upsert, same, before]
      · simp [upsert, same, before, ih]

theorem Link.reported_reported (l : Link) : l.reported.reported = l.reported := by
  unfold reported offer sendingClass
  by_cases sending : l.sending.map FrameBody.cls = some TxBody.report.cls
  · simp [sending]
  · simp [sending, upsert_upsert]

namespace State

variable {s : State}

/-! ## Entry to a state -/

theorem queueReport_link (started : s.started = true) : s.queueReport.link = s.link.reported := by
  rw [queueReport, if_pos started]
  rfl

theorem enter_link (started : s.started = true) (st : PumpState) : (s.enter st).link = s.link.reported := by
  rw [enter, evalRisk, deliver_link, withCounts_link]
  exact queueReport_link (s := (s.withPump _).withWindow _) started

theorem enter_quiet_window {st : PumpState} (other : st ≠ .waiting) : (s.enter st).window = { s.window with patience := .stopped } := by
  rw [enter_window, if_neg other]

theorem closeOwnClaim_of_none (outcome : ClaimOutcome) (none : ¬ s.holdsClaim) : s.closeOwnClaim outcome = s := if_neg none

theorem closeOwnClaim_of_holds (outcome : ClaimOutcome) (holds : s.holdsClaim) : s.closeOwnClaim outcome = s.closeClaim outcome :=
  if_pos holds

theorem closeClaim_of_waiting (outcome : ClaimOutcome) (waits : s.closingWaits) :
    s.closeClaim outcome = s.withLink { s.link with closing := some (s.window.number, outcome) } := by
  obtain ⟨pending, sending⟩ := waits
  rw [closeClaim, pending]
  exact if_pos sending

theorem closeClaim_of_pending (outcome : ClaimOutcome) (pending : s.window.claim = .pending) (idle : s.link.sendingClass ≠ some 1) :
    s.closeClaim outcome = s.endClaim.withLink s.link.withdrawClaim := by
  rw [closeClaim, pending]
  exact if_neg idle

theorem closeClaim_of_none (outcome : ClaimOutcome) (none : s.window.claim = .none) : s.closeClaim outcome = s := by
  rw [closeClaim, none]

theorem closeClaim_of_sent (outcome : ClaimOutcome) (sent : s.window.claim = .holding ∨ s.window.claim = .granted) :
    s.closeClaim outcome = s.endClaim.offerFrame (.startDone s.window.number outcome) := by
  rcases sent with claim | claim <;> rw [closeClaim, claim]

/-- The port once the own claim is closed. -/
theorem closeOwnClaim_link (s : State) (outcome : ClaimOutcome) : (s.closeOwnClaim outcome).link.reported = s.linkLeft outcome := by
  unfold linkLeft
  by_cases holds : s.holdsClaim
  case neg => rw [closeOwnClaim_of_none outcome holds, if_neg holds]; rfl
  rw [closeOwnClaim_of_holds outcome holds, if_pos holds]
  cases claim : s.window.claim
  case pending =>
    by_cases sending : s.link.sendingClass = some 1
    · rw [closeClaim_of_waiting outcome ⟨claim, sending⟩]
      simp only [if_pos sending]
      rfl
    · rw [closeClaim_of_pending outcome claim sending]
      simp only [if_neg sending]
      rfl
  all_goals
    rw [closeClaim, claim]
    rfl

theorem closeOwnClaim_window (s : State) (outcome : ClaimOutcome) :
    { (s.closeOwnClaim outcome).window with patience := .stopped } = s.windowLeft := by
  unfold windowLeft
  by_cases holds : s.holdsClaim
  case neg => rw [closeOwnClaim_of_none outcome holds, if_neg fun h => holds h.1]
  rw [closeOwnClaim_of_holds outcome holds]
  by_cases none : s.window.claim = .none
  · rw [closeClaim_of_none outcome none, if_neg fun h => h.2.1 none]
  by_cases waits : s.closingWaits
  · rw [closeClaim_of_waiting outcome waits, if_neg fun h => h.2.2 waits]
    rfl
  · rw [if_pos ⟨holds, none, waits⟩]
    cases claim : s.window.claim
    case none => exact absurd claim none
    case pending =>
      rw [closeClaim_of_pending outcome claim fun sending => waits ⟨claim, sending⟩]
      rfl
    case holding =>
      rw [closeClaim_of_sent outcome (.inl claim)]
      rfl
    case granted =>
      rw [closeClaim_of_sent outcome (.inr claim)]
      rfl

theorem leave_link (started : s.started = true) (outcome : ClaimOutcome) (st : PumpState) :
    ((s.closeOwnClaim outcome).enter st).link = s.linkLeft outcome := by
  rw [enter_link (by rw [State.started, (closeOwnClaim_moves outcome s).start]; exact started), closeOwnClaim_link]

theorem leave_window (s : State) (outcome : ClaimOutcome) {st : PumpState} (other : st ≠ .waiting) :
    ((s.closeOwnClaim outcome).enter st).window = s.windowLeft := by
  rw [enter_quiet_window other, closeOwnClaim_window]

/-! ## Trips (R59, R65, R66) -/

/-- The state a trip closes the claim of: the latch set, and the raw condition of its cause risen. -/
def latched (cause : TripCause) (s : State) : State :=
  if cause = .pumpFault then s.withPump { s.pump with latch := some cause }
  else (s.withPump { s.pump with latch := some cause }).deliver (tripPoint cause) true

theorem trip_eq (s : State) (cause : TripCause) :
    s.trip cause = (((s.latched cause).closeOwnClaim .failed).enter .tripped).offer .tripped (pointIndex (tripPoint cause)).val
      [valueOf (pumpStateCode s.pump.state)] := rfl

theorem latched_pump (s : State) (cause : TripCause) : (s.latched cause).pump = { s.pump with latch := some cause } := by
  unfold latched
  split
  · rfl
  · rw [deliver_pump]; rfl

theorem latched_window (s : State) (cause : TripCause) : (s.latched cause).window = s.window := by
  unfold latched
  split
  · rfl
  · rw [deliver_window]; rfl

theorem latched_link (s : State) (cause : TripCause) : (s.latched cause).link = s.link := by
  unfold latched
  split
  · rfl
  · rw [deliver_link]; rfl

theorem latched_started (s : State) (cause : TripCause) : (s.latched cause).started = s.started := by
  unfold latched State.started
  split
  · rfl
  · rw [deliver_start]; rfl

theorem windowLeft_of_same {t : State} (pump : t.pump.state = s.pump.state) (window : t.window = s.window) (link : t.link = s.link) :
    t.windowLeft = s.windowLeft := by
  unfold windowLeft holdsClaim closingWaits
  rw [pump, window, link]

theorem linkLeft_of_same {t : State} (outcome : ClaimOutcome) (pump : t.pump.state = s.pump.state) (window : t.window = s.window)
    (link : t.link = s.link) : t.linkLeft outcome = s.linkLeft outcome := by
  unfold linkLeft holdsClaim
  rw [pump, window, link]

theorem trip_window (s : State) (cause : TripCause) : (s.trip cause).window = s.windowLeft := by
  rw [trip_eq, offer_window, leave_window _ _ (by simp), windowLeft_of_same (by rw [latched_pump]) (latched_window s cause)
    (latched_link s cause)]

theorem trip_link (started : s.started = true) (cause : TripCause) : (s.trip cause).link = s.linkLeft .failed := by
  rw [trip_eq, offer_link, leave_link (by rw [latched_started]; exact started), linkLeft_of_same .failed (by rw [latched_pump])
    (latched_window s cause) (latched_link s cause)]

theorem trip_halted (s : State) (cause : TripCause) : (s.trip cause).pump = { s.pump.halted .tripped with latch := some cause } := by
  rw [trip_pump]
  rfl

theorem latched_reacts (s : State) (cause : TripCause) : s.Reacts (s.latched cause) [tripPoint cause, .overflowRisk] 1 :=
  .ite (fun _ => (withPump_reacts []).mono) (fun _ => (((withPump_reacts _).trans (deliver_reacts ..)).mono))

theorem trip_records (started : s.started = true) (cause : TripCause) :
    s.Records (s.trip cause) 3 .tripped s.own (pointIndex (tripPoint cause)).val [BitVec.ofNat 32 (pumpStateCode s.pump.state)] := by
  have before := ((s.latched_reacts cause).trans ((closeOwnClaim_reacts _ .failed [tripPoint cause, .overflowRisk]).trans
    ((enter_reacts _ .tripped).mono (Nat.le_refl 1))))
  exact records_of_offer 2 started before.moves.start before.grows

/-- The raw condition of the trip's cause stands after it, PUMP_FAULT apart (R59). -/
theorem trip_raw (started : s.started = true) {cause : TripCause} (other : cause ≠ .pumpFault) :
    (s.trip cause).rawOf (tripPoint cause) = true := by
  have shown : (s.latched cause).rawOf (tripPoint cause) = true := by
    rw [latched, if_neg other]
    exact (deliver_delivers (s := s.withPump { s.pump with latch := some cause }) _ _ started).1
  have after := (closeOwnClaim_reacts (s.latched cause) .failed [.overflowRisk]).trans (enter_reacts _ .tripped)
  rw [trip_eq, rawOf, offer_alarms]
  exact (after.rawOf (by cases cause <;> simp [tripPoint])).trans shown

end State

/-- Settles O27. -/
theorem timersTripThePump : Obligations.TimersTripThePump := by
  intro s c cause started alternatives
  obtain ⟨trips, other⟩ : exec c s = .next (s.trip cause) ∧ cause ≠ .pumpFault := by
    rcases alternatives with ⟨rfl, due, state, rfl⟩ | ⟨rfl, due, state, running, rfl⟩ | ⟨rfl, due, state, rfl⟩ | ⟨rfl, due, state, rfl⟩ |
      ⟨rfl, due, watched, rfl⟩
    · refine ⟨(congrArg Host.Outcome.next (if_pos due)).trans ?_, by simp⟩
      rw [state]
    · refine ⟨(congrArg Host.Outcome.next (if_pos due)).trans ?_, by simp⟩
      rw [state]
      exact congrArg Host.Outcome.next (if_pos running)
    · refine ⟨(congrArg Host.Outcome.next (if_pos due)).trans ?_, by simp⟩
      rw [state]
    · refine ⟨(congrArg Host.Outcome.next (if_pos due)).trans ?_, by simp⟩
      rw [state]
    · exact ⟨congrArg Host.Outcome.next (if_pos ⟨due, watched⟩), by simp⟩
  have reacts := s.trip_reacts cause
  exact ⟨s.trip cause, trips, s.trip_halted cause, s.trip_window cause, State.trip_link started cause, State.trip_raw started other,
    reacts.points, reacts.moves, State.trip_records started cause⟩

end Sys2Proof.Machine
end

section
/-! Rest, stops and the end of a stop (R54 to R57, R59): their pump, window, port and records. The fault contact (O22), the settled start
(O28) and the stop rule (O29). -/

namespace Sys2Proof.Machine

namespace State

variable {s : State}

theorem Reacts.started {t : State} {ps : List AlarmPoint} {n : Nat} (h : s.Reacts t ps n) (started : s.started = true) : t.started = true := by
  rw [State.started, h.moves.start]
  exact started

/-- A pump in a state without a claim trips without closing one. -/
theorem windowLeft_of_none (none : ¬ s.holdsClaim) : s.windowLeft = { s.window with patience := .stopped } := by
  rw [windowLeft, if_neg fun h => none h.1]

theorem linkLeft_of_none (outcome : ClaimOutcome) (none : ¬ s.holdsClaim) : s.linkLeft outcome = s.link.reported := by
  rw [linkLeft, if_neg none]
  rfl

theorem not_holdsClaim_of_state {st : PumpState} (state : s.pump.state = st) (other : st ≠ .claiming ∧ st ≠ .starting := by decide) :
    ¬ s.holdsClaim := by
  rintro (claiming | ⟨starting, _⟩)
  · exact other.1 (state.symm.trans claiming)
  · exact other.2 (state.symm.trans starting)

/-! ## Entry to LOCKOUT and INHIBITED -/

theorem enterRest_of_well {st : PumpState} (well : s.pump.faultContact.active = false) : s.enterRest st = s.enter st := by
  unfold enterRest
  exact if_neg (by rw [enter_pump]; exact Bool.eq_false_iff.mp well)

theorem enterRest_of_fault {st : PumpState} (fault : s.pump.faultContact.active = true) : s.enterRest st = (s.enter st).trip .pumpFault := by
  unfold enterRest
  exact if_pos (by rw [enter_pump]; exact fault)

/-- At rest the patience timer is stopped; no claim is closed (R47, R105). -/
theorem enterRest_window {st : PumpState} (rest : st ≠ .claiming ∧ st ≠ .starting ∧ st ≠ .waiting) :
    (s.enterRest st).window = { s.window with patience := .stopped } := by
  have none : ¬ (s.enter st).holdsClaim := not_holdsClaim_of_state (st := st) (by rw [enter_pump]; rfl) ⟨rest.1, rest.2.1⟩
  cases fault : s.pump.faultContact.active
  · rw [enterRest_of_well fault, enter_quiet_window rest.2.2]
  · rw [enterRest_of_fault fault, trip_window, windowLeft_of_none none, enter_quiet_window rest.2.2]

/-- At rest a REPORT is queued; no claim is closed (R78). -/
theorem enterRest_link (started : s.started = true) {st : PumpState} (rest : st ≠ .claiming ∧ st ≠ .starting ∧ st ≠ .waiting) :
    (s.enterRest st).link = s.link.reported := by
  have none : ¬ (s.enter st).holdsClaim := not_holdsClaim_of_state (st := st) (by rw [enter_pump]; rfl) ⟨rest.1, rest.2.1⟩
  cases fault : s.pump.faultContact.active
  · rw [enterRest_of_well fault, enter_link started]
  · rw [enterRest_of_fault fault, trip_link ((s.enter_reacts st).started started), linkLeft_of_none _ none, enter_link started,
      Link.reported_reported]

theorem enterRest_pump_of_well {st : PumpState} (well : s.pump.faultContact.active = false) : (s.enterRest st).pump = s.pump.enter st := by
  rw [enterRest_of_well well, enter_pump]

theorem enterRest_pump_of_fault {st : PumpState} (plain : st ≠ .starting) (fault : s.pump.faultContact.active = true) :
    (s.enterRest st).pump = { s.pump.halted .tripped with latch := some .pumpFault } := by
  rw [enterRest_of_fault fault, trip_halted, enter_pump, Pump.enter_halted _ plain]

/-! ## The end of a stop (R57) -/

/-- The state a completed stop leads to (R57, R61). -/
def restState (s : State) : PumpState := if s.pump.inhibit then .inhibited else .lockout

theorem completeStop_eq (s : State) : s.completeStop = s.enterRest s.restState := by
  unfold completeStop restState
  split <;> rfl

theorem restState_rests (s : State) : s.restState ≠ .claiming ∧ s.restState ≠ .starting ∧ s.restState ≠ .waiting := by
  unfold restState
  split <;> decide

theorem completeStop_window (s : State) : s.completeStop.window = { s.window with patience := .stopped } := by
  rw [completeStop_eq, enterRest_window s.restState_rests]

theorem completeStop_link (started : s.started = true) : s.completeStop.link = s.link.reported := by
  rw [completeStop_eq, enterRest_link started s.restState_rests]

/-- At rest the pump is halted, with the lockout from 0 where no inhibit holds it, and the stray-run watch runs (R47, R49, R57). -/
theorem completeStop_pump_of_well (well : s.pump.faultContact.active = false) :
    s.completeStop.pump = { s.pump.halted (if s.pump.inhibit then .inhibited else .lockout) with
      lockout := if s.pump.inhibit then .stopped else .running 0, stray := s.pump.strayAtEntry } := by
  rw [completeStop_eq, enterRest_pump_of_well well, restState]
  cases s.pump.inhibit
  · exact Pump.enter_lockout _
  · exact Pump.enter_inhibited _

theorem completeStop_pump_of_fault (fault : s.pump.faultContact.active = true) :
    s.completeStop.pump = { s.pump.halted .tripped with latch := some .pumpFault } := by
  rw [completeStop_eq, enterRest_pump_of_fault s.restState_rests.2.1 fault]

theorem completeStop_state (s : State) :
    s.completeStop.pump.state = if s.pump.faultContact.active then .tripped else if s.pump.inhibit then .inhibited else .lockout := by
  cases fault : s.pump.faultContact.active
  · rw [completeStop_pump_of_well fault]; rfl
  · rw [completeStop_pump_of_fault fault]; rfl

/-! ## Stops (R54 to R57, R66) -/

/-- The pump in STOPPING, STOPPED not yet offered. -/
def stopping (s : State) : State := (s.closeOwnClaim .withdrawn).enter .stopping

theorem stopping_pump (s : State) : s.stopping.pump = { s.pump.halted .stopping with feedback := .running 0 } := by
  rw [stopping, enter_pump, closeOwnClaim_pump]
  rfl

theorem stopping_reacts (s : State) : s.Reacts s.stopping [.overflowRisk] 1 := (s.closeOwnClaim_reacts ..).trans (enter_reacts ..)

theorem stopPump_of_running (cause : StopCause) (running : s.pump.runFb.active = true) : s.stopPump cause = s.stopping.offerStopped cause := by
  unfold stopPump
  exact if_pos (by rw [offerStopped_pump, enter_pump, closeOwnClaim_pump]; exact running)

theorem stopPump_of_still (cause : StopCause) (still : s.pump.runFb.active = false) :
    s.stopPump cause = (s.stopping.offerStopped cause).completeStop := by
  unfold stopPump
  exact if_neg (by rw [offerStopped_pump, enter_pump, closeOwnClaim_pump]; exact Bool.eq_false_iff.mp still)

theorem stopPump_pump_of_running (cause : StopCause) (running : s.pump.runFb.active = true) :
    (s.stopPump cause).pump = { s.pump.halted .stopping with feedback := .running 0 } := by
  rw [stopPump_of_running cause running, offerStopped_pump, stopping_pump]

theorem stopPump_state (s : State) (cause : StopCause) :
    (s.stopPump cause).pump.state =
      if s.pump.runFb.active then .stopping else if s.pump.faultContact.active then .tripped
      else if s.pump.inhibit then .inhibited else .lockout := by
  cases running : s.pump.runFb.active
  · rw [stopPump_of_still cause running, completeStop_state, offerStopped_pump, stopping_pump]; rfl
  · rw [stopPump_pump_of_running cause running]; rfl

/-- A stop leaves what no pump state has for itself. -/
theorem stopPump_keeps (s : State) (cause : StopCause) :
    (s.stopPump cause).pump.spacing = s.pump.spacing ∧ (s.stopPump cause).pump.inhibit = s.pump.inhibit := by
  cases running : s.pump.runFb.active
  · rw [stopPump_of_still cause running]
    cases fault : s.pump.faultContact.active
    · rw [completeStop_pump_of_well (by rw [offerStopped_pump, stopping_pump]; exact fault), offerStopped_pump, stopping_pump]
      exact ⟨rfl, rfl⟩
    · rw [completeStop_pump_of_fault (by rw [offerStopped_pump, stopping_pump]; exact fault), offerStopped_pump, stopping_pump]
      exact ⟨rfl, rfl⟩
  · rw [stopPump_pump_of_running cause running]
    exact ⟨rfl, rfl⟩

theorem stopPump_window (s : State) (cause : StopCause) : (s.stopPump cause).window = s.windowLeft := by
  have stopping : (s.stopping.offerStopped cause).window = s.windowLeft := by
    rw [offerStopped, offer_window]
    exact s.leave_window .withdrawn (by simp)
  cases running : s.pump.runFb.active
  · rw [stopPump_of_still cause running, completeStop_window, stopping]
    rfl
  · rw [stopPump_of_running cause running, stopping]

theorem stopPump_link (started : s.started = true) (cause : StopCause) : (s.stopPump cause).link = s.linkLeft .withdrawn := by
  have stopping : (s.stopping.offerStopped cause).link = s.linkLeft .withdrawn := by
    rw [offerStopped, offer_link]
    exact leave_link started .withdrawn .stopping
  cases running : s.pump.runFb.active
  · rw [stopPump_of_still cause running,
      completeStop_link ((s.stopping_reacts.trans (offerStopped_reacts _ cause [.overflowRisk])).started started), stopping]
    exact Link.reported_reported _
  · rw [stopPump_of_running cause running, stopping]

theorem stopPump_records (started : s.started = true) (cause : StopCause) {n : Nat} (two : 2 ≤ n := by omega) :
    s.Records (s.stopPump cause) n .stopped s.own (stopCode cause)
      [BitVec.ofNat 32 s.pump.closedSeconds, BitVec.ofNat 32 s.pump.runHours] := by
  have reacts := s.stopping_reacts
  have values : s.stopping.offerStopped cause = s.stopping.offerFrom s.own .stopped (stopCode cause)
      [valueOf s.pump.closedSeconds, valueOf s.pump.runHours] := by
    rw [offerStopped, offer, stopping_pump, own, own, reacts.moves.start]
    rfl
  refine records_of_offerFrom (m := 1) started reacts.moves.start reacts.grows (t := s.stopPump cause) ?_ ?_
  · cases running : s.pump.runFb.active
    · rw [stopPump_of_still cause running, values]
      exact (completeStop_reacts _).grows.1
    · rw [stopPump_of_running cause running, values]
      exact List.prefix_refl _
  · exact ((s.stopPump_reacts cause).moves.clock).trans reacts.moves.clock.symm

theorem latched_pumpFault_grows (u : State) : u.events.Grows 1 (((u.latched .pumpFault).closeOwnClaim .failed).enter .tripped).events := by
  have grows := ((closeOwnClaim_reacts (u.latched .pumpFault) .failed [.overflowRisk]).trans (enter_reacts _ .tripped)).grows
  exact grows

/-- A trip by the fault contact, after `m` records at most. -/
theorem trip_pumpFault_records {u : State} {m n : Nat} (started : s.started = true) (start : u.start = s.start)
    (before : s.events.Grows m u.events) (le : m + 2 ≤ n := by omega) :
    s.Records (u.trip .pumpFault) n .tripped s.own 10 [BitVec.ofNat 32 (pumpStateCode u.pump.state)] := by
  have left := ((closeOwnClaim_reacts (u.latched .pumpFault) .failed [.overflowRisk]).trans (enter_reacts _ .tripped)).moves.start
  rw [trip_eq]
  exact records_of_offer (m + 1) started (left.trans start) (before.trans u.latched_pumpFault_grows) le

/-! ## Counts that stay (R92, R93, R96) -/

/-- Where the sequencer alone moves and the pump stays in duty, A, the supply and Slim stay, and with them E. -/
theorem steady_effective {t : State} (moves : s.Moves t) (before : s.Tallied) (after : t.Tallied) (working : s.working = true)
    (duty : t.pump.state.inDuty = s.pump.state.inDuty) : t.balance.effective = s.balance.effective := by
  have running : t.working = true := by rw [moves.working]; exact working
  obtain ⟨_, available, supply, slim⟩ := before.1 working
  obtain ⟨_, available', supply', slim'⟩ := after.1 running
  obtain ⟨effective, limit⟩ := before.2 working
  obtain ⟨effective', limit'⟩ := after.2 running
  have table := moves.table
  have same : t.availableCount = s.availableCount := by rw [availableCount, availableCount, duty, table]; rfl
  have fed : t.houseSupply = s.houseSupply := by rw [houseSupply, houseSupply, table]; rfl
  have limits : t.slim = s.slim := by rw [State.slim, State.slim, moves.cfg, moves.screen, table]; rfl
  rw [effective', limit', slim', available', supply', moves.demand, moves.cfg, same, fed, limits, ← available, ← supply, ← slim, ← limit,
    ← effective]

/-- Where it neither enters nor leaves STARTING either, C stays. -/
theorem steady_drawing {t : State} (moves : s.Moves t) (before : s.Tallied) (after : t.Tallied) (working : s.working = true)
    (starting : t.pump.state = .starting ↔ s.pump.state = .starting) (runFb : t.pump.runFb.active = s.pump.runFb.active) :
    t.table.drawing = s.table.drawing := by
  have running : t.working = true := by rw [moves.working]; exact working
  obtain ⟨drawing, _⟩ := before.1 working
  obtain ⟨drawing', _⟩ := after.1 running
  have table := moves.table
  have same : t.drawingCount = s.drawingCount := by
    have drawn : (t.pump.state = .starting ∨ t.pump.runFb.active = true) ↔ (s.pump.state = .starting ∨ s.pump.runFb.active = true) := by
      rw [starting, runFb]
    rw [drawingCount, drawingCount, if_congr drawn rfl rfl, table]
    rfl
  rw [drawing', same, ← drawing]

theorem Kept.tallied (kept : s.Kept) : s.Tallied := by
  obtain ⟨_, _, _, limited, counts, _⟩ := kept
  exact ⟨counts, limited⟩

theorem immediateStop_of_other (other : s.pump.state ≠ .running) : s.immediateStop = s := if_neg other

theorem immediateStop_of_demand (low : s.lowLowInForce = false) (demand : 0 < s.balance.effective) : s.immediateStop = s := by
  unfold immediateStop
  split
  · rw [if_neg (Bool.eq_false_iff.mp low), if_neg (by omega)]
  · rfl

end State

/-- Settles O22. -/
theorem faultContactTrips : Obligations.FaultContactTrips := by
  intro s
  refine ⟨?trips, ?shows⟩
  case trips =>
    intro started due high auto notTripped
    obtain ⟨v, taken⟩ : ∃ v, v = s.withPump { s.pump with faultContact := { active := true, timer := .stopped } } := ⟨_, rfl⟩
    obtain ⟨u, shown⟩ : ∃ u, u = v.deliver .pumpFault true := ⟨_, rfl⟩
    have delivered := v.deliver_delivers .pumpFault true (by rw [taken]; exact started)
    have reacts : s.Reacts u [.pumpFault, .overflowRisk] 1 := by
      rw [shown, taken]
      exact (State.withPump_reacts [.pumpFault, .overflowRisk]).trans ((State.deliver_reacts _ .pumpFault true).mono (Nat.le_refl 1))
    have pump : u.pump = { s.pump with faultContact := { active := true, timer := .stopped } } := by
      rw [shown, State.deliver_pump, taken]; rfl
    have window : u.window = s.window := by rw [shown, State.deliver_window, taken]; rfl
    have link : u.link = s.link := by rw [shown, State.deliver_link, taken]; rfl
    have trips := u.trip_pumpFault_reacts
    refine ⟨u.trip .pumpFault, ?_, ?_, ?_, ?_, ?_, ?_, ?_, ?_⟩
    · rw [shown, taken, ← high]
      exact congrArg Host.Outcome.next ((if_pos due).trans (if_pos ⟨high, auto, notTripped⟩))
    · rw [State.trip_halted, pump]
      rfl
    · rw [State.trip_window, State.windowLeft_of_same (by rw [pump]) window link]
    · rw [State.trip_link (reacts.started started), State.linkLeft_of_same .failed (by rw [pump]) window link]
    · rw [trips.rawOf, shown]
      exact delivered.1
    · exact reacts.points.trans trips.points.mono
    · exact reacts.moves.trans trips.moves
    · have records := State.trip_pumpFault_records started reacts.moves.start reacts.grows (n := 3)
      rw [pump] at records
      exact records
  case shows =>
    intro started due cause
    obtain ⟨v, taken⟩ : ∃ v, v = s.withPump { s.pump with faultContact := { active := s.pins.dflt, timer := .stopped } } := ⟨_, rfl⟩
    refine ⟨v.deliver .pumpFault s.pins.dflt, ?_, ?_, ?_⟩
    · rw [taken]
      refine congrArg Host.Outcome.next ((if_pos due).trans (if_neg ?_))
      rintro ⟨high, auto, notTripped⟩
      rcases cause with low | other | tripped
      · exact Bool.false_ne_true (low.symm.trans high)
      · exact Bool.false_ne_true (other.symm.trans auto)
      · exact notTripped tripped
    · have only := v.deliver_alarmsOnly .pumpFault s.pins.dflt
      rw [taken] at only ⊢
      exact only
    · exact (v.deliver_delivers .pumpFault s.pins.dflt (by rw [taken]; exact started)).of_alarms (by rw [taken]; rfl)

end Sys2Proof.Machine
end

section
/-! The settled start (O28), the stop rule (O29), the grant and the stagger (O30), and the end of the lockout (O26). -/

namespace Sys2Proof.Machine

namespace State

variable {s : State}

/-! ## The pump runs (R53) -/

/-- The state at entry to RUNNING, STARTED not yet offered. -/
def settled (s : State) : State := (s.closeOwnClaim .started).enter .running

theorem settled_reacts (s : State) : s.Reacts s.settled [.overflowRisk] 1 := (s.closeOwnClaim_reacts ..).trans (enter_reacts ..)

theorem settled_pump (s : State) :
    s.settled.pump = { s.pump.halted .running with contactor := true, run := .running 0, loss := s.pump.loss } := by
  rw [settled, enter_pump, closeOwnClaim_pump]
  rfl

theorem settled_tallied (s : State) : s.settled.Tallied := enter_tallied ..

theorem exec_settle (due : s.pump.settle.due s.cfg.settleTime = true) (starting : s.pump.state = .starting) :
    exec .settleTimerExpiry s = .next (s.settled.offer .started (pumpStateCode .starting)
      [valueOf s.pump.startCount, valueOf s.pump.runHours]).immediateStop := congrArg Host.Outcome.next (if_pos ⟨due, starting⟩)

end State

/-- Settles O28. -/
theorem settledStartRuns : Obligations.SettledStartRuns := by
  intro s kept operating starting due low demand
  have working := State.working_of_operating operating
  have started := State.started_of_working working
  have reacts := s.settled_reacts
  have effective := State.steady_effective reacts.moves kept.tallied s.settled_tallied working (by rw [State.settled_pump, starting]; rfl)
  obtain ⟨t, offered⟩ : ∃ t, t = s.settled.offer .started (pumpStateCode .starting) [valueOf s.pump.startCount, valueOf s.pump.runHours] :=
    ⟨_, rfl⟩
  have runs : t.immediateStop = t := by
    refine State.immediateStop_of_demand ?_ ?_
    · rw [State.lowLowInForce, offered, State.offer_floats, reacts.moves.floats]; exact low
    · rw [offered, State.offer_balance, effective]; exact demand
  have all : s.Reacts t [.overflowRisk] 2 := by rw [offered]; exact reacts.trans (State.offer_reacts ..)
  have link : t.link = s.linkLeft .started := by
    rw [offered, State.offer_link]
    exact State.leave_link started .started .running
  refine ⟨t, ?_, ?_, ?_, all.moves, all.points, ?_, ?_, ?_⟩
  · rw [State.exec_settle due starting, ← offered, runs]
  · rw [offered, State.offer_pump, State.settled_pump]
  · rw [offered, State.offer_window]
    exact s.leave_window .started (by simp)
  · intro via granted
    rw [link, State.linkLeft, if_pos (.inr ⟨starting, via⟩), granted]
  · intro none
    rw [State.QueuesReport, link, State.linkLeft]
    rcases none with plain | none
    · rw [if_neg]
      rintro (claiming | ⟨_, via⟩)
      · exact absurd (starting.symm.trans claiming) (by decide)
      · exact Bool.false_ne_true (plain.symm.trans via)
    · rw [none]
      split <;> rfl
  · rw [offered]
    exact State.records_of_offer 1 started reacts.moves.start reacts.grows

namespace State

variable {s : State}

/-! ## The stop rule (R55, R64) -/

theorem dutyStop_of_holds (running : s.pump.state = .running) (holds : (if s.table.isolated then s.isolatedStopHolds else s.stopRuleHolds) = true) :
    s.dutyStop = s.stopPump .duty := if_pos ⟨running, holds⟩

theorem stopRuleHolds_iff : s.stopRuleHolds = true ↔ s.pump.run = .reached ∧ s.balance.effective < s.table.drawing ∧
    (s.table.keysOf [.running]).all (fun k => k.better s.ownKey) = true ∧ s.pump.spacing.isRunning = false := by
  rw [stopRuleHolds, Bool.and_eq_true, Bool.and_eq_true, Bool.and_eq_true, hasReached_iff, decide_eq_true_iff, Bool.not_eq_true',
    worstRunning, and_assoc, and_assoc]

theorem isolatedStopHolds_iff : s.isolatedStopHolds = true ↔ s.pump.run = .reached ∧ s.balance.demand < s.cfg.isolatedPosition := by
  rw [isolatedStopHolds, Bool.and_eq_true, hasReached_iff, decide_eq_true_iff]

/-- Some peer's key is not better than the own one. -/
theorem not_all_better {keys : List DutyKey} {own : DutyKey} (some : keys.any (fun k => !k.better own) = true) :
    ¬ keys.all (fun k => k.better own) = true := by
  rw [List.any_eq_true] at some
  obtain ⟨k, mem, worse⟩ := some
  intro all
  rw [List.all_eq_true] at all
  rw [all k mem] at worse
  exact absurd worse (by decide)

/-- The duty stop of a RUNNING pump, as the stop timers make it. -/
structure DutyStopped (s t : State) : Prop where
  pump : s.pump.runFb.active = true → t.pump = { s.pump.halted .stopping with feedback := .running 0, spacing := t.pump.spacing }
  rest : s.pump.runFb.active = false → t.pump.state ∈ [PumpState.lockout, .inhibited, .tripped]
  contactor : t.pump.contactor = false
  window : t.window = { s.window with patience := .stopped }
  moves : s.Moves t
  points : s.PointsBut t [.overflowRisk]
  records : s.Records t 4 .stopped s.own 0 [BitVec.ofNat 32 s.pump.closedSeconds, BitVec.ofNat 32 s.pump.runHours]

/-- The duty stop of a RUNNING pump in which only the run timer or the spacing timer has moved. -/
theorem dutyStopped_of_timer {p : Pump} (started : s.started = true) (running : s.pump.state = .running)
    (halted : { p.halted .stopping with spacing := s.pump.spacing } = s.pump.halted .stopping := by rfl)
    (state : p.state = s.pump.state := by rfl) (runFb : p.runFb = s.pump.runFb := by rfl)
    (closed : p.closedSeconds = s.pump.closedSeconds := by rfl) (hours : p.runSeconds = s.pump.runSeconds := by rfl)
    (contactor : p.contactor = s.pump.contactor := by rfl) :
    s.DutyStopped ((s.withPump p).stopPump .duty) := by
  obtain ⟨u, moved⟩ : ∃ u, u = s.withPump p := ⟨_, rfl⟩
  have pump : u.pump = p := by rw [moved]; rfl
  have timed : s.Reacts u [.overflowRisk] 0 := by rw [moved]; exact withPump_reacts _ state contactor (by rw [runFb])
  have stops := u.stopPump_reacts .duty
  rw [← moved]
  constructor
  case pump =>
    intro fed
    rw [stopPump_pump_of_running .duty (by rw [pump, runFb]; exact fed), pump, ← halted]
  case rest =>
    intro still
    rw [stopPump_state, pump, runFb, still]
    cases p.faultContact.active <;> cases p.inhibit <;> decide
  case contactor => exact (stopPump_open .duty u).1
  case window =>
    rw [stopPump_window, windowLeft_of_none (not_holdsClaim_of_state (st := .running) (by rw [pump, state]; exact running)), moved]
    rfl
  case moves => exact timed.moves.trans stops.moves
  case points => exact timed.points.trans stops.points
  case records =>
    have records := stopPump_records (s := u) (timed.started started) .duty (n := 4)
    have stamped := records.of_blocks (s := s) (by rw [moved]; rfl) (by rw [moved]; rfl)
    have own : u.own = s.own := by rw [moved]; rfl
    rw [own, pump, closed, Pump.runHours, hours] at stamped
    exact stamped

end State

/-- Settles O29. -/
theorem dutyStopsFollowTheRule : Obligations.DutyStopsFollowTheRule := by
  intro s
  refine ⟨?duty, ?isolated, ?stays, ?spaced, ?spacedStays⟩
  case duty =>
    intro started due running joined surplus worst free
    have stopped := State.dutyStopped_of_timer (p := { s.pump with run := .reached }) started running
    have holds : (s.withPump { s.pump with run := .reached }).stopRuleHolds = true :=
      State.stopRuleHolds_iff.mpr ⟨rfl, surplus, worst, free⟩
    refine ⟨(s.withPump { s.pump with run := .reached }).stopPump .duty, congrArg Host.Outcome.next ((if_pos due).trans
      (State.dutyStop_of_holds (s := s.withPump { s.pump with run := .reached }) running ((if_neg (Bool.eq_false_iff.mp joined)).trans holds))),
      stopped.pump, stopped.rest, stopped.contactor, stopped.window, stopped.moves, stopped.points, stopped.records,
      ((s.withPump { s.pump with run := .reached }).stopPump_keeps .duty).1⟩
  case isolated =>
    intro started due running alone low
    have stopped := State.dutyStopped_of_timer (p := { s.pump with run := .reached }) started running
    have holds : (s.withPump { s.pump with run := .reached }).isolatedStopHolds = true := State.isolatedStopHolds_iff.mpr ⟨rfl, low⟩
    refine ⟨(s.withPump { s.pump with run := .reached }).stopPump .duty, congrArg Host.Outcome.next ((if_pos due).trans
      (State.dutyStop_of_holds (s := s.withPump { s.pump with run := .reached }) running ((if_pos alone).trans holds))),
      stopped.pump, stopped.rest, stopped.contactor, stopped.window, stopped.moves, stopped.points, stopped.records,
      ((s.withPump { s.pump with run := .reached }).stopPump_keeps .duty).1⟩
  case stays =>
    intro due reason
    refine ⟨_, congrArg Host.Outcome.next ((if_pos due).trans (if_neg ?_)), rfl⟩
    rintro ⟨running, holds⟩
    rcases reason with other | ⟨joined, reason⟩ | ⟨alone, wanted⟩
    · exact other running
    · rw [show (s.withPump { s.pump with run := .reached }).table.isolated = false from joined, if_neg Bool.false_ne_true,
        State.stopRuleHolds_iff] at holds
      obtain ⟨_, surplus, worst, free⟩ := holds
      rcases reason with enough | better | spacing
      · exact absurd surplus (Nat.not_lt.mpr enough)
      · exact State.not_all_better better worst
      · exact Bool.false_ne_true (free.symm.trans spacing)
    · rw [show (s.withPump { s.pump with run := .reached }).table.isolated = true from alone, if_pos rfl,
        State.isolatedStopHolds_iff] at holds
      exact absurd holds.2 (Nat.not_lt.mpr wanted)
  case spaced =>
    intro started due reached running joined surplus worst
    have stopped := State.dutyStopped_of_timer (p := { s.pump with spacing := .stopped }) started running
    have holds : (s.withPump { s.pump with spacing := .stopped }).stopRuleHolds = true :=
      State.stopRuleHolds_iff.mpr ⟨reached, surplus, worst, rfl⟩
    refine ⟨(s.withPump { s.pump with spacing := .stopped }).stopPump .duty, congrArg Host.Outcome.next ((if_pos due).trans
      ((if_neg (Bool.eq_false_iff.mp joined)).trans (State.dutyStop_of_holds (s := s.withPump { s.pump with spacing := .stopped }) running
        ((if_neg (Bool.eq_false_iff.mp joined)).trans holds)))),
      stopped.pump, stopped.rest, stopped.contactor, stopped.window, stopped.moves, stopped.points, stopped.records,
      ((s.withPump { s.pump with spacing := .stopped }).stopPump_keeps .duty).1⟩
  case spacedStays =>
    intro due reason
    by_cases alone : s.table.isolated = true
    · exact ⟨_, congrArg Host.Outcome.next ((if_pos due).trans (if_pos alone)), rfl⟩
    refine ⟨_, congrArg Host.Outcome.next ((if_pos due).trans ((if_neg alone).trans (if_neg ?_))), rfl⟩
    rintro ⟨running, holds⟩
    rw [show (s.withPump { s.pump with spacing := .stopped }).table.isolated = false from Bool.eq_false_iff.mpr alone,
      if_neg Bool.false_ne_true, State.stopRuleHolds_iff] at holds
    obtain ⟨reached, surplus, worst, _⟩ := holds
    rcases reason with other | isolated | early | enough | better
    · exact other running
    · exact alone isolated
    · exact early reached
    · exact absurd surplus (Nat.not_lt.mpr enough)
    · exact State.not_all_better better worst

namespace State

variable {s : State}

/-! ## Starts (R52, R64) -/

theorem enterStarting_pump (s : State) (viaClaim : Bool) : (s.enterStarting viaClaim).pump = s.pump.launched := by
  rw [enterStarting, enter_pump]
  exact Pump.enter_starting _

theorem enterStarting_window (s : State) (viaClaim : Bool) :
    (s.enterStarting viaClaim).window = { s.window with viaClaim := viaClaim, patience := .stopped } := by
  rw [enterStarting, enter_quiet_window (by simp)]
  rfl

theorem enterStarting_link (started : s.started = true) (viaClaim : Bool) : (s.enterStarting viaClaim).link = s.link.reported := by
  rw [enterStarting, enter_link (s := s.withWindow { s.window with viaClaim := viaClaim }) started]
  rfl

theorem wanted_of_isolated (alone : s.table.isolated = true) :
    s.wanted = true ↔ s.cfg.isolatedPosition ≤ s.balance.demand ∧ 1 ≤ s.balance.effective := by
  rw [wanted, if_pos alone, Bool.and_eq_true, decide_eq_true_iff, decide_eq_true_iff]

theorem wanted_of_joined (joined : s.table.isolated = false) : s.wanted = true ↔ s.table.drawing < s.balance.effective := by
  rw [wanted, if_neg (Bool.eq_false_iff.mp joined), decide_eq_true_iff]

/-! ## Entry to IDLE and WAITING with the house values current (R49, R50) -/

/-- Whether the pump is wanted, where the sequencer moved between duty states other than STARTING. -/
theorem steady_wanted {t : State} (moves : s.Moves t) (before : s.Tallied) (after : t.Tallied) (working : s.working = true)
    (duty : t.pump.state.inDuty = s.pump.state.inDuty) (starting : t.pump.state = .starting ↔ s.pump.state = .starting)
    (runFb : t.pump.runFb.active = s.pump.runFb.active) : t.wanted = s.wanted := by
  have isolated : t.table.isolated = s.table.isolated := by rw [moves.table]
  rw [wanted, wanted, isolated, moves.cfg, moves.demand, steady_effective moves before after working duty,
    steady_drawing moves before after working starting runFb]

theorem enter_wanted {st : PumpState} (tallied : s.Tallied) (working : s.working = true) (duty : st.inDuty = s.pump.state.inDuty)
    (starting : st = .starting ↔ s.pump.state = .starting) : (s.enter st).wanted = s.wanted :=
  steady_wanted (s.enter_reacts st).moves tallied (s.enter_tallied st) working (by rw [enter_pump]; exact duty)
    (by rw [enter_pump]; exact starting) (by rw [enter_pump]; rfl)

theorem enterIdle_of_unwanted (unwanted : (s.enter .idle).wanted = false) : s.enterIdle = s.enter .idle :=
  if_neg (Bool.eq_false_iff.mp unwanted)

theorem enterIdle_of_wanted (wanted : (s.enter .idle).wanted = true) : s.enterIdle = (s.enter .idle).enterWaiting := if_pos wanted

theorem endLockout_of_lockout (lockout : s.pump.state = .lockout) : s.endLockout = s.enterIdle := if_pos lockout

/-- The pump in WAITING on its way from another state of duty. -/
def waited (s : State) : State := (s.enter .idle).enter .waiting

theorem waited_pump (s : State) : s.waited.pump = { s.pump.halted .waiting with stray := s.pump.strayAtEntry } := by
  rw [waited, enter_pump, enter_pump, Pump.enter_waiting, Pump.enter_halted _ (by simp)]
  rfl

theorem waited_window (s : State) : s.waited.window = { s.window with patience := .running 0 } := by
  rw [waited, enter_window, enter_window]
  rfl

theorem waited_reacts (s : State) : s.Reacts s.waited [.overflowRisk] 2 := (s.enter_reacts .idle).trans (enter_reacts ..)

theorem enterIdle_waits (tallied : s.Tallied) (working : s.working = true) (duty : s.pump.state.inDuty = true)
    (other : s.pump.state ≠ .starting) (wanted : s.wanted = true) :
    s.enterIdle = if s.table.isolated = true then s.waited.beginStagger else s.waited.evalClaim := by
  have idle : (s.enter .idle).wanted = true := by
    rw [enter_wanted (st := .idle) tallied working duty.symm ⟨(fun h => nomatch h), (absurd · other)⟩]; exact wanted
  have running : (s.enter .idle).working = true := by rw [(s.enter_reacts .idle).moves.working]; exact working
  have waiting : s.waited.wanted = true := by
    rw [waited, enter_wanted (enter_tallied ..) running (by rw [enter_pump]; rfl) (by rw [enter_pump]; simp)]
    exact idle
  have isolated : s.waited.table.isolated = s.table.isolated := by rw [s.waited_reacts.moves.table]
  rw [enterIdle_of_wanted idle]
  unfold enterWaiting
  rw [← isolated]
  exact if_pos waiting

theorem enterIdle_rests (tallied : s.Tallied) (working : s.working = true) (duty : s.pump.state.inDuty = true)
    (other : s.pump.state ≠ .starting) (unwanted : ¬ s.wanted = true) : s.enterIdle = s.enter .idle :=
  enterIdle_of_unwanted (by
    rw [enter_wanted (st := .idle) tallied working duty.symm ⟨(fun h => nomatch h), (absurd · other)⟩]
    exact Bool.eq_false_iff.mpr unwanted)

end State

/-- Settles O30. -/
theorem grantsAndStaggersStart : Obligations.GrantsAndStaggersStart := by
  intro s
  refine ⟨?grants, ?withdraws, ?staggers, ?stays⟩
  case grants =>
    intro holding due claiming surplus low
    have reacts := (s.withWindow_reacts { s.window with claim := .granted, hold := .stopped } [.overflowRisk]).trans
      (State.enterStarting_reacts _ true)
    refine ⟨(s.withWindow { s.window with claim := .granted, hold := .stopped }).enterStarting true,
      congrArg Host.Outcome.next ((if_pos ⟨holding, due, claiming⟩).trans (if_pos ⟨surplus, low⟩)), ?_, ?_, reacts.moves, ?_, reacts.points⟩
    · exact State.enterStarting_pump ..
    · exact State.enterStarting_window ..
    · exact fun started => State.enterStarting_link (s := s.withWindow { s.window with claim := .granted, hold := .stopped }) started true
  case withdraws =>
    intro kept operating holding due claiming joined surplus
    have working := State.working_of_operating operating
    obtain ⟨u, closed⟩ : ∃ u, u = s.closeClaim .withdrawn := ⟨_, rfl⟩
    have reacts : s.Reacts u [.overflowRisk] 0 := by rw [closed]; exact s.closeClaim_reacts ..
    have pump : u.pump = s.pump := by rw [closed, State.closeClaim_pump]
    have running : u.working = true := by rw [reacts.moves.working]; exact working
    have unwanted : ¬ u.wanted = true := by
      rw [State.wanted_of_joined (by rw [reacts.moves.table]; exact joined), closed, State.closeClaim_table, State.closeClaim_balance]
      exact Nat.not_lt.mpr surplus
    have idles := State.enterIdle_rests (reacts.tallied kept.tallied) running (by rw [pump, claiming]; rfl) (by rw [pump, claiming]; simp)
      unwanted
    have enters := reacts.trans (u.enter_reacts .idle)
    have sent := State.closeClaim_of_sent (s := s) .withdrawn (.inl holding)
    refine ⟨u.enter .idle, ?_, ?_, ?_, ?_, enters.moves, enters.points⟩
    · rw [← idles, closed]
      exact congrArg Host.Outcome.next ((if_pos ⟨holding, due, claiming⟩).trans (if_neg fun h => absurd h.1 (Nat.not_lt.mpr surplus)))
    · rw [State.enter_pump, pump, Pump.enter_idle]
    · rw [State.enter_quiet_window (by simp), closed, sent]
      rfl
    · rw [State.enter_link (reacts.started (State.started_of_working working)), closed, sent]
      rfl
  case staggers =>
    intro due waiting alone position demand
    have wanted : s.wanted = true := (State.wanted_of_isolated alone).mpr ⟨position, demand⟩
    have reacts := s.enterStarting_reacts false
    exact ⟨s.enterStarting false, congrArg Host.Outcome.next (if_pos ⟨due, waiting, alone, wanted⟩), s.enterStarting_pump false,
      s.enterStarting_window false, reacts.moves, fun started => State.enterStarting_link started false, reacts.points⟩
  case stays =>
    intro due waiting alone gone
    refine ⟨s, congrArg Host.Outcome.next (if_neg ?_), rfl⟩
    rintro ⟨_, _, _, wanted⟩
    rw [State.wanted_of_isolated alone] at wanted
    omega

namespace State

variable {s : State}

/-! ## A claim (R105, R106) -/

theorem openClaim_pump (s : State) : s.openClaim.pump = { s.pump.halted .claiming with stray := s.pump.strayAtEntry } := by
  unfold openClaim
  exact (enter_pump ..).trans (Pump.enter_claiming _)

theorem openClaim_window (s : State) :
    s.openClaim.window = { s.window with
      view := .own, claim := .pending, number := s.window.number + 1, key := some s.ownKey, hold := .stopped, patience := .stopped } := by
  unfold openClaim
  exact (enter_quiet_window (by simp)).trans rfl

theorem mayClaim_iff : s.mayClaim = true ↔ s.pump.state = .waiting ∧ s.operating = true ∧ s.table.isolated = false ∧
    s.window.view = .free ∧ (s.firstCandidate = true ∨ s.window.patience = .reached) := by
  simp only [mayClaim, Bool.and_eq_true, beq_iff_eq, Bool.not_eq_true', Bool.or_eq_true, hasReached_iff, and_assoc]

theorem firstCandidate_iff (waiting : s.pump.state = .waiting) :
    s.firstCandidate = true ↔ (s.table.keysOf [.idle, .waiting]).all (fun k => s.ownKey.better k) = true := by
  rw [firstCandidate, waiting]
  simp

end State

end Sys2Proof.Machine
end

section
/-! The end of the lockout (O26). -/

namespace Sys2Proof.Machine

theorem PeerTable.keysOf_of_entries {t u : PeerTable} (same : t.entries = u.entries) (states : List PumpState) :
    t.keysOf states = u.keysOf states := by
  unfold keysOf entry
  rw [same]

namespace State

variable {s : State}

theorem exec_lockoutEnd (due : s.pump.lockout.due s.lockoutFigure = true) (lockout : s.pump.state = .lockout) :
    exec .lockoutEnd s = .next s.enterIdle := by
  rw [← endLockout_of_lockout lockout]
  exact congrArg Host.Outcome.next (if_pos due)

/-- The claim conditions at entry to WAITING: the patience timer has only started (R105). -/
theorem waited_mayClaim (operating : s.operating = true) (joined : s.table.isolated = false) :
    s.waited.mayClaim = true ↔
      s.window.view = .free ∧ (s.table.keysOf [.idle, .waiting]).all (fun k => s.ownKey.better k) = true := by
  have moves := s.waited_reacts.moves
  have state : s.waited.pump.state = .waiting := by rw [waited_pump]; rfl
  have keys : s.waited.table.keysOf [.idle, .waiting] = s.table.keysOf [.idle, .waiting] :=
    PeerTable.keysOf_of_entries (by rw [moves.table]) _
  have key : s.waited.ownKey = s.ownKey := by
    rw [State.ownKey, State.ownKey, State.own, State.own, moves.start, waited_pump]
    rfl
  rw [mayClaim_iff, firstCandidate_iff state, keys, key, waited_window, moves.operating, moves.table]
  simp only [state, operating, joined, true_and, reduceCtorEq, or_false]

theorem evalClaim_of_holds (may : s.mayClaim = true) : s.evalClaim = s.openClaim := if_pos may

theorem evalClaim_of_not (not : ¬ s.mayClaim = true) : s.evalClaim = s := if_neg not

end State

/-- Settles O26. -/
theorem lockoutEndsInIdleWaitingOrAClaim : Obligations.LockoutEndsInIdleWaitingOrAClaim := by
  intro s
  have rests (kept : s.Kept) (operating : s.operating = true) (lockout : s.pump.state = .lockout) (unwanted : ¬ s.wanted = true) :
      s.enterIdle = s.enter .idle :=
    State.enterIdle_rests kept.tallied (State.working_of_operating operating) (by rw [lockout]; rfl) (by rw [lockout]; simp) unwanted
  have waits (kept : s.Kept) (operating : s.operating = true) (lockout : s.pump.state = .lockout) (wanted : s.wanted = true) :
      s.enterIdle = if s.table.isolated = true then s.waited.beginStagger else s.waited.evalClaim :=
    State.enterIdle_waits kept.tallied (State.working_of_operating operating) (by rw [lockout]; rfl) (by rw [lockout]; simp) wanted
  have moves := s.enterIdle_reacts.moves
  refine ⟨?idle, ?waiting, ?claiming, ?isolatedIdle, ?staggers, ?starts⟩
  case idle =>
    intro kept operating lockout due joined surplus
    have same := rests kept operating lockout (by rw [State.wanted_of_joined joined]; omega)
    refine ⟨s.enterIdle, State.exec_lockoutEnd due lockout, ?_, moves, ?_, ?_⟩
    · rw [same, State.enter_pump, Pump.enter_idle]
    · rw [State.QueuesReport, same]
      exact State.enter_link (State.started_of_working (State.working_of_operating operating)) .idle
    · rw [same, State.enter_quiet_window (by simp)]
  case waiting =>
    intro kept operating lockout due joined demand reason
    have same := waits kept operating lockout ((State.wanted_of_joined joined).mpr demand)
    rw [joined, if_neg Bool.false_ne_true, State.evalClaim_of_not] at same
    · refine ⟨s.enterIdle, State.exec_lockoutEnd due lockout, ?_, ?_, moves⟩
      · rw [same, State.waited_pump]
      · rw [same, State.waited_window]
    · rw [State.waited_mayClaim operating joined]
      rintro ⟨free, first⟩
      rcases reason with held | better
      · exact held free
      · rw [List.any_eq_true] at better
        obtain ⟨k, mem, worse⟩ := better
        rw [List.all_eq_true] at first
        rw [first k mem] at worse
        exact absurd worse (by decide)
  case claiming =>
    intro kept operating lockout due joined demand free first
    have same := waits kept operating lockout ((State.wanted_of_joined joined).mpr demand)
    rw [joined, if_neg Bool.false_ne_true, State.evalClaim_of_holds ((State.waited_mayClaim operating joined).mpr ⟨free, first⟩)] at same
    refine ⟨s.enterIdle, State.exec_lockoutEnd due lockout, ?_, ?_, moves⟩
    · rw [same, State.openClaim_pump, State.waited_pump]
      rfl
    · have key : s.waited.ownKey = { hours := s.pump.runSeconds / 3600, station := s.own } := by
        rw [State.ownKey, State.own, s.waited_reacts.moves.start, State.waited_pump]
        rfl
      rw [same, State.openClaim_window, State.waited_window, key]
  case isolatedIdle =>
    intro kept operating lockout due alone gone
    have same := rests kept operating lockout (by rw [State.wanted_of_isolated alone]; omega)
    refine ⟨s.enterIdle, State.exec_lockoutEnd due lockout, ?_, moves⟩
    rw [same, State.enter_pump, Pump.enter_idle]
  case staggers =>
    intro kept operating lockout due alone position demand other
    have same := waits kept operating lockout ((State.wanted_of_isolated alone).mpr ⟨position, demand⟩)
    have own : s.waited.own.val ≠ 0 := by
      rw [State.own, s.waited_reacts.moves.start]
      exact fun zero => other (Fin.ext zero)
    rw [alone, if_pos rfl, State.beginStagger, if_neg own] at same
    refine ⟨s.enterIdle, State.exec_lockoutEnd due lockout, ?_, moves⟩
    rw [same, State.waited_pump]
    rfl
  case starts =>
    intro kept operating lockout due alone position demand zero
    have same := waits kept operating lockout ((State.wanted_of_isolated alone).mpr ⟨position, demand⟩)
    have own : s.waited.own.val = 0 := by
      rw [State.own, s.waited_reacts.moves.start]
      exact congrArg Fin.val zero
    rw [alone, if_pos rfl, State.beginStagger, if_pos own] at same
    refine ⟨s.enterIdle, State.exec_lockoutEnd due lockout, ?_, ?_, moves⟩
    · rw [same, State.enterStarting_pump, State.waited_pump]
      rfl
    · rw [same, State.enterStarting_window]

end Sys2Proof.Machine
end

section
/-! A change of RUN_FB (O21). -/

namespace Sys2Proof.Machine

namespace Pump

variable {p : Pump}

/-! ## RUN_FB, by the state it meets (R53, R57, R58) -/

theorem onRunFb_starts (starting : p.state = .starting) (waits : p.feedback.isRunning = true) :
    p.onRunFb true = { p with runFb := { active := true, timer := .stopped }, feedback := .stopped, settle := .running 0 } := by
  unfold onRunFb
  rw [if_pos rfl, if_pos ⟨starting, waits⟩]
  rfl

theorem onRunFb_returns (closed : p.state = .starting ∧ p.feedback.isRunning = false ∨ p.state = .running) :
    p.onRunFb true = { p with runFb := { active := true, timer := .stopped }, loss := .stopped } := by
  unfold onRunFb
  rcases closed with ⟨starting, settles⟩ | running
  · rw [if_pos rfl, if_neg fun h => Bool.false_ne_true (settles.symm.trans h.2), if_pos (.inl starting)]
    rfl
  · rw [if_pos rfl, if_neg fun h => absurd (running.symm.trans h.1) (by decide), if_pos (.inr running)]
    rfl

theorem onRunFb_lost (closed : p.state = .running ∨ (p.state = .starting ∧ p.settle.isRunning = true)) :
    p.onRunFb false = { p with runFb := { active := false, timer := .stopped }, loss := .running 0 } := by
  unfold onRunFb
  rw [if_neg Bool.false_ne_true, if_pos closed]
  rfl

theorem onRunFb_stopped (stopping : p.state = .stopping) :
    p.onRunFb false = { p with runFb := { active := false, timer := .stopped } } := by
  unfold onRunFb
  rw [if_neg Bool.false_ne_true, stopping]
  rfl

theorem onRunFb_watched (active : Bool) (watched : p.state.strayWatched = true) :
    p.onRunFb active = { p with runFb := { active := active, timer := .stopped }, stray := if active then .running 0 else .stopped } := by
  unfold onRunFb
  cases active <;> cases state : p.state <;> simp_all [PumpState.strayWatched, Filter.take, Timer.start]

end Pump

namespace State

variable {s : State}

/-- What the hand-on of new counts makes of the pump: nothing, or what the sequencer makes of the new C, D and E. -/
theorem recount_pump_cases (s : State) : s.recount.pump = s.pump ∨ s.recount.pump = s.withCounts.onDemand.pump := by
  unfold recount handOn
  rw [evalRisk_pump]
  split
  · exact .inr rfl
  · exact .inl (withCounts_pump s)

theorem onDemand_of_quiet (idle : s.pump.state ≠ .idle) (waiting : s.pump.state ≠ .waiting) (running : s.pump.state ≠ .running) :
    s.onDemand = s := by
  unfold onDemand
  split
  case h_1 state => exact absurd state idle
  case h_2 state => exact absurd state waiting
  case h_3 state => exact absurd state running
  case h_4 => rfl

/-- In the states that do not evaluate demand a recount leaves the pump. -/
theorem recount_pump_of_quiet (idle : s.pump.state ≠ .idle) (waiting : s.pump.state ≠ .waiting) (running : s.pump.state ≠ .running) :
    s.recount.pump = s.pump := by
  rcases s.recount_pump_cases with same | moved
  · exact same
  · rw [moved, onDemand_of_quiet (by rw [withCounts_pump]; exact idle) (by rw [withCounts_pump]; exact waiting)
      (by rw [withCounts_pump]; exact running), withCounts_pump]

theorem stopPump_runFb (s : State) (cause : StopCause) : (s.stopPump cause).pump.runFb = s.pump.runFb := by
  cases running : s.pump.runFb.active
  · rw [stopPump_of_still cause running]
    cases fault : s.pump.faultContact.active
    · rw [completeStop_pump_of_well (by rw [offerStopped_pump, stopping_pump]; exact fault), offerStopped_pump, stopping_pump]
      rfl
    · rw [completeStop_pump_of_fault (by rw [offerStopped_pump, stopping_pump]; exact fault), offerStopped_pump, stopping_pump]
      rfl
  · rw [stopPump_pump_of_running cause running]
    rfl

theorem stopPump_not_running (s : State) (cause : StopCause) : (s.stopPump cause).pump.state ≠ .running := by
  obtain ⟨opened, follows⟩ := stopPump_open cause s
  rw [ContactorFollows, opened] at follows
  intro running
  rw [running] at follows
  exact absurd follows (by decide)

/-- A RUNNING pump keeps its block as new counts reach it, or stops. -/
theorem onDemand_of_running (running : s.pump.state = .running) :
    s.onDemand.pump = s.pump ∨
      s.onDemand.pump.state ≠ .running ∧ s.onDemand.pump.contactor = false ∧ s.onDemand.pump.runFb = s.pump.runFb := by
  have stops : s.onDemand = s.immediateStop.dutyStop := by rw [onDemand, running]
  rw [stops]
  rcases s.stops_cases with same | ⟨cause, stopped⟩
  · rw [same]; exact .inl rfl
  · rw [stopped]; exact .inr ⟨s.stopPump_not_running cause, (stopPump_open cause s).1, s.stopPump_runFb cause⟩

/-- What becomes of a pump as it enters WAITING while it is wanted: it waits, with or without its stagger, it claims, or it starts. -/
theorem onWaiting_pump (s : State) (waiting : s.pump.state = .waiting) :
    (if s.table.isolated = true then s.beginStagger else s.evalClaim).pump.runFb = s.pump.runFb ∧
    (if s.table.isolated = true then s.beginStagger else s.evalClaim).pump.state ∈ [PumpState.waiting, .claiming, .starting] ∧
    ((if s.table.isolated = true then s.beginStagger else s.evalClaim).pump.state ≠ .starting →
      (if s.table.isolated = true then s.beginStagger else s.evalClaim).pump.stray = s.pump.stray ∨
      (if s.table.isolated = true then s.beginStagger else s.evalClaim).pump.stray = s.pump.strayAtEntry) := by
  split
  · unfold beginStagger
    split
    · rw [enterStarting_pump]
      exact ⟨rfl, by simp [Pump.launched, Pump.halted], fun other => absurd rfl other⟩
    · exact ⟨rfl, by rw [withPump_pump]; simp [waiting], fun _ => .inl rfl⟩
  · unfold evalClaim
    split
    · rw [openClaim_pump]
      exact ⟨rfl, by simp [Pump.halted], fun _ => .inr rfl⟩
    · exact ⟨rfl, by simp [waiting], fun _ => .inl rfl⟩

/-- What new counts, which are current, make of a pump in IDLE or WAITING. -/
theorem onDemand_of_ready (tallied : s.Tallied) (working : s.working = true) (ready : s.pump.state = .idle ∨ s.pump.state = .waiting) :
    s.onDemand.pump = s.pump ∨
      s.onDemand.pump.state ≠ s.pump.state ∧ s.onDemand.pump.state ∈ [PumpState.idle, .waiting, .claiming, .starting] ∧
      s.onDemand.pump.runFb = s.pump.runFb ∧ (s.onDemand.pump.state ≠ .starting → s.onDemand.pump.stray = s.pump.strayAtEntry) := by
  rcases ready with idle | waiting
  · have react : s.onDemand = if s.wanted = true then s.enterWaiting else s := by rw [onDemand, idle]
    rw [react]
    split
    case isFalse => exact .inl rfl
    case isTrue wanted =>
      have still : (s.enter .waiting).wanted = true := by
        rw [enter_wanted tallied working (by rw [idle]; rfl) (by rw [idle]; simp)]
        exact wanted
      have waits : s.enterWaiting =
          if (s.enter .waiting).table.isolated = true then (s.enter .waiting).beginStagger else (s.enter .waiting).evalClaim := if_pos still
      have pump : (s.enter .waiting).pump = { s.pump.halted .waiting with stray := s.pump.strayAtEntry } := by
        rw [enter_pump, Pump.enter_waiting]
      obtain ⟨runFb, states, stray⟩ := onWaiting_pump (s.enter .waiting) (by rw [pump]; rfl)
      rw [← waits, pump] at runFb stray
      rw [← waits] at states
      refine .inr ⟨?_, ?_, runFb, fun other => (stray other).elim id id⟩
      · rw [idle]
        intro same
        rw [same] at states
        exact absurd states (by decide)
      · exact List.mem_cons_of_mem _ states
  · have react : s.onDemand = if s.wanted = true then s else s.enter .idle := by rw [onDemand, waiting]
    rw [react]
    split
    case isTrue => exact .inl rfl
    case isFalse =>
      rw [enter_pump, Pump.enter_idle, waiting]
      exact .inr ⟨by simp [Pump.halted], by simp [Pump.halted], rfl, fun _ => rfl⟩

end State

namespace State

variable {s : State}

theorem exec_runFb (due : s.pump.runFb.timer.due fastFilter = true) (other : s.pump.state ≠ .stopping) :
    exec .runFbFilterExpiry s = .next (s.withPump (s.pump.onRunFb s.pins.drun)).recount :=
  congrArg Host.Outcome.next ((if_pos due).trans (congrArg recount (if_neg fun h => other h.1)))

theorem exec_runFb_stopped (due : s.pump.runFb.timer.due fastFilter = true) (stopping : s.pump.state = .stopping)
    (gone : s.pins.drun = false) :
    exec .runFbFilterExpiry s = .next (s.withPump (s.pump.onRunFb s.pins.drun)).completeStop.recount :=
  congrArg Host.Outcome.next ((if_pos due).trans (congrArg recount (if_pos ⟨stopping, gone⟩)))

theorem taken_moves (s : State) (p : Pump) : s.Moves (s.withPump p).recount :=
  ((Moves.refl s).withPump p).trans (recount_reacts _).moves

/-- A filtered RUN_FB of a pump in a state that does not evaluate demand leaves what the input itself makes of the pump. -/
theorem runFb_quiet {p : Pump} (due : s.pump.runFb.timer.due fastFilter = true) (other : s.pump.state ≠ .stopping)
    (takes : s.pump.onRunFb s.pins.drun = p) (idle : p.state ≠ .idle) (waiting : p.state ≠ .waiting) (running : p.state ≠ .running) :
    ∃ t, exec .runFbFilterExpiry s = .next t ∧ t.pump = p ∧ s.Moves t ∧ t.CountsCurrent ∧ t.DemandLimited := by
  subst takes
  exact ⟨_, exec_runFb due other, recount_pump_of_quiet idle waiting running, taken_moves .., recount_tallied _⟩

end State

/-- Settles O21, by the state the filtered input meets: the input's own effect, then the recount it causes. -/
theorem runFeedbackDrivesThePump : Obligations.RunFeedbackDrivesThePump := by
  intro s
  refine ⟨?starts, ?losesStart, ?returns, ?runs, ?stops, ?watches, ?readies⟩
  case starts =>
    intro _ due starting waits active
    exact State.runFb_quiet due (by rw [starting]; decide) (by rw [active]; exact Pump.onRunFb_starts starting waits)
      (by simp [starting]) (by simp [starting]) (by simp [starting])
  case losesStart =>
    intro _ due starting settles gone
    exact State.runFb_quiet due (by rw [starting]; decide) (by rw [gone]; exact Pump.onRunFb_lost (.inr ⟨starting, settles⟩))
      (by simp [starting]) (by simp [starting]) (by simp [starting])
  case returns =>
    intro _ due starting settles active
    exact State.runFb_quiet due (by rw [starting]; decide) (by rw [active]; exact Pump.onRunFb_returns (.inl ⟨starting, settles⟩))
      (by simp [starting]) (by simp [starting]) (by simp [starting])
  case runs =>
    intro _ due running
    have takes : s.pump.onRunFb s.pins.drun =
        { s.pump with runFb := { active := s.pins.drun, timer := .stopped }, loss := if s.pins.drun then .stopped else .running 0 } := by
      cases s.pins.drun
      · exact Pump.onRunFb_lost (.inl running)
      · exact Pump.onRunFb_returns (.inr running)
    have step := State.exec_runFb due (by rw [running]; decide)
    rw [takes] at step
    obtain ⟨u, taken⟩ : ∃ u, u = s.withPump { s.pump with
      runFb := { active := s.pins.drun, timer := .stopped }, loss := if s.pins.drun then .stopped else .running 0 } := ⟨_, rfl⟩
    rw [← taken] at step
    have moves : s.Moves u := by rw [taken]; exact (State.Moves.refl s).withPump _
    have pump : u.pump = { s.pump with
        runFb := { active := s.pins.drun, timer := .stopped }, loss := if s.pins.drun then .stopped else .running 0 } := by rw [taken]; rfl
    have outcome : u.recount.pump = u.pump ∨
        u.recount.pump.state ≠ .running ∧ u.recount.pump.contactor = false ∧ u.recount.pump.runFb = u.pump.runFb := by
      rcases u.recount_pump_cases with same | moved
      · exact .inl same
      · have reacts := State.onDemand_of_running (s := u.withCounts) (by rw [State.withCounts_pump, pump]; exact running)
        rw [moved]
        rwa [State.withCounts_pump] at reacts
    refine ⟨u.recount, step, ?_, ?_, ?_, moves.trans u.recount_reacts.moves, u.recount_tallied⟩
    · rcases outcome with same | ⟨_, _, kept⟩
      · rw [same, pump]
      · rw [kept, pump]
    · intro still
      rcases outcome with same | ⟨stopped, _⟩
      · rw [same, pump]
      · exact absurd still stopped
    · intro stopped
      rcases outcome with same | ⟨_, opened, _⟩
      · exact absurd (by rw [same, pump]; exact running) stopped
      · exact opened
  case stops =>
    intro _ due stopping gone
    have step := State.exec_runFb_stopped due stopping gone
    rw [gone, Pump.onRunFb_stopped stopping] at step
    obtain ⟨u, taken⟩ : ∃ u, u = s.withPump { s.pump with runFb := { active := false, timer := .stopped } } := ⟨_, rfl⟩
    have moves : s.Moves u := by rw [taken]; exact (State.Moves.refl s).withPump _
    have pump : u.pump = { s.pump with runFb := { active := false, timer := .stopped } } := by rw [taken]; rfl
    rw [← taken] at step
    have state := u.completeStop_state
    have rests : u.completeStop.recount.pump = u.completeStop.pump := by
      refine State.recount_pump_of_quiet ?_ ?_ ?_ <;>
        (rw [state]; cases u.pump.faultContact.active <;> cases u.pump.inhibit <;> simp)
    refine ⟨u.completeStop.recount, step, ?_, ?_, (moves.trans u.completeStop_reacts.moves).trans (State.recount_reacts _).moves,
      State.recount_tallied _⟩
    · intro well
      rw [rests, State.completeStop_pump_of_well (by rw [pump]; exact well), pump]
      rfl
    · intro fault
      rw [rests, State.completeStop_pump_of_fault (by rw [pump]; exact fault), pump]
      rfl
  case watches =>
    intro _ due watched
    have takes := Pump.onRunFb_watched (p := s.pump) s.pins.drun (by rcases watched with h | h | h <;> rw [h] <;> rfl)
    exact State.runFb_quiet due (by rcases watched with h | h | h <;> rw [h] <;> decide) takes
      (by rcases watched with h | h | h <;> simp [h]) (by rcases watched with h | h | h <;> simp [h])
      (by rcases watched with h | h | h <;> simp [h])
  case readies =>
    intro working due ready
    have takes := Pump.onRunFb_watched (p := s.pump) s.pins.drun (by rcases ready with h | h <;> rw [h] <;> rfl)
    have step := State.exec_runFb due (by rcases ready with h | h <;> rw [h] <;> decide)
    rw [takes] at step
    obtain ⟨u, taken⟩ : ∃ u, u = s.withPump { s.pump with
      runFb := { active := s.pins.drun, timer := .stopped }, stray := if s.pins.drun then .running 0 else .stopped } := ⟨_, rfl⟩
    rw [← taken] at step
    have moves : s.Moves u := by rw [taken]; exact (State.Moves.refl s).withPump _
    have pump : u.pump = { s.pump with
        runFb := { active := s.pins.drun, timer := .stopped }, stray := if s.pins.drun then .running 0 else .stopped } := by rw [taken]; rfl
    have entry : u.pump.strayAtEntry = u.pump.stray := by rw [pump]; rfl
    have outcome : u.recount.pump = u.pump ∨
        u.recount.pump.state ≠ u.pump.state ∧ u.recount.pump.state ∈ [PumpState.idle, .waiting, .claiming, .starting] ∧
        u.recount.pump.runFb = u.pump.runFb ∧ (u.recount.pump.state ≠ .starting → u.recount.pump.stray = u.pump.strayAtEntry) := by
      rcases u.recount_pump_cases with same | moved
      · exact .inl same
      · have running : u.withCounts.working = true := by rw [(State.withCounts_moves u).working, moves.working]; exact working
        have reacts := State.onDemand_of_ready u.withCounts_tallied running (by rw [State.withCounts_pump, pump]; exact ready)
        rw [moved]
        rwa [State.withCounts_pump] at reacts
    refine ⟨u.recount, step, ?_, ?_, ?_, ?_, moves.trans u.recount_reacts.moves, u.recount_tallied⟩
    · rcases outcome with same | ⟨_, _, kept, _⟩
      · rw [same, pump]
      · rw [kept, pump]
    · intro still
      rcases outcome with same | ⟨moved, _⟩
      · rw [same, pump]
      · exact absurd (by rw [still, pump]) moved
    · rcases outcome with same | ⟨_, states, _⟩
      · rw [same, pump]
        rcases ready with h | h <;> simp [h]
      · exact states
    · intro other
      rcases outcome with same | ⟨_, _, _, stray⟩
      · rw [same, pump]
      · rw [stray other, entry, pump]

end Sys2Proof.Machine
end

section
/-! A raw level at a pin reaches that pin's filter (O20). -/

namespace Sys2Proof.Machine

theorem Pins.set_level (pin : Pin) (v : Bool) (p : Pins) : (p.set pin v).level pin = v := by cases pin <;> rfl

theorem Pins.set_level_other {pin other : Pin} (v : Bool) (p : Pins) (ne : other ≠ pin) : (p.set pin v).level other = p.level other := by
  cases pin <;> cases other <;> first | rfl | exact absurd rfl ne

theorem Filter.feed_eq (raw : Bool) (f : Filter) :
    f.feed raw = { active := f.active, timer := if raw = f.active then .stopped else if f.timer.isRunning then f.timer else .running 0 } := by
  unfold Filter.feed
  split
  · rfl
  · split <;> rfl

namespace State

variable {s : State}

/-- Where the filter of an input runs, the raw level reaches it, and the state but for its filters is as before. -/
theorem feed_filterOf {pin : Pin} (v : Bool) (working : s.working = true) (screen : pin = .dcam ∨ pin = .dovl → s.screenRuns = true) :
    (s.feed pin v).filterOf pin = (s.filterOf pin).feed v ∧ (s.feed pin v).withoutFilters = s.withoutFilters := by
  have started := started_of_working working
  cases pin with
  | dcam => simp only [feed, screen (.inl rfl), if_true]; exact ⟨rfl, rfl⟩
  | dovl => simp only [feed, screen (.inr rfl), if_true]; exact ⟨rfl, rfl⟩
  | dhh | dll => simp only [feed, working, if_true]; exact ⟨rfl, rfl⟩
  | drun | dflt | dsh | dsa | dgen | dack => simp only [feed, started, if_true]; exact ⟨rfl, rfl⟩

/-- A raw level reaches no filter but its own pin's. -/
theorem feed_filterOf_other {pin other : Pin} (v : Bool) (s : State) (ne : other ≠ pin) :
    (s.feed pin v).filterOf other = s.filterOf other := by
  cases pin <;> cases other <;> first | exact absurd rfl ne | (simp only [feed]; split <;> rfl)

theorem feed_pins (pin : Pin) (v : Bool) (s : State) : (s.feed pin v).pins = s.pins := by
  cases pin <;> (simp only [feed]; split <;> rfl)

end State

/-- Settles O20. -/
theorem inputsReachTheirFilters : Obligations.InputsReachTheirFilters := by
  intro s pin level working screen
  obtain ⟨fed, rest⟩ := State.feed_filterOf (s := s.withPins (s.pins.set pin level)) level working screen
  refine ⟨_, rfl, ?_, ?_, ?_, ?_, ?_⟩
  · rw [State.feed_pins]
    exact Pins.set_level ..
  · intro other ne
    rw [State.feed_pins]
    exact Pins.set_level_other _ _ ne
  · rw [fed, Filter.feed_eq]
    cases pin <;> rfl
  · intro other ne
    rw [State.feed_filterOf_other _ _ ne]
    cases other <;> rfl
  · rw [rest, State.feed_pins]
    rfl

end Sys2Proof.Machine
end

section
/-! A debounced float (O19). -/

namespace Sys2Proof.Machine

namespace State

variable {s : State}

/-- A record added in the course of a command: some records may stand before it, and others may follow. -/
theorem Records.within {s u v t : State} {m k n : Nat} {kind : EventKind} {source : Station} {subject : Nat} {values : List Word}
    (h : u.Records v k kind source subject values) (start : u.start = s.start) (before : s.events.Grows m u.events)
    (after : v.events.records <+: t.events.records) (clock : t.clock = v.clock) (le : m + k ≤ n := by omega) :
    s.Records t n kind source subject values := by
  intro takes none room
  obtain ⟨old, fits⟩ := before
  obtain ⟨still, few⟩ := fits none (by omega)
  have classes : u.takesClass (eventClass kind) = true := by rw [← takes]; simp only [takesClass, classMask, cfg, start]
  obtain ⟨r, mem, form⟩ := h classes still (by omega)
  refine ⟨r, ?_, by rw [clock]; exact form⟩
  obtain ⟨rest, records⟩ := after
  have mem := List.mem_append_left (rest.drop (u.events.records.length - v.events.records.length)) mem
  rw [← List.drop_append, records] at mem
  exact List.drop_subset_drop_left _ old.length_le mem

theorem TakesLevel.working {t : State} (h : s.TakesLevel t) : t.working = s.working := by
  rw [State.working, State.working, h.start]

theorem redemand_pump_cases (s : State) : s.redemand.pump = s.pump ∨ s.redemand.pump = s.withDemand.withCounts.onDemand.pump := by
  unfold redemand handOn
  rw [evalRisk_pump]
  split
  · exact .inr rfl
  · exact .inl ((withCounts_pump _).trans (by unfold withDemand; split <;> rfl))

/-- In the states that do not evaluate demand a new demand leaves the pump. -/
theorem redemand_pump_of_quiet (idle : s.pump.state ≠ .idle) (waiting : s.pump.state ≠ .waiting) (running : s.pump.state ≠ .running) :
    s.redemand.pump = s.pump := by
  have same : s.withDemand.withCounts.pump = s.pump := (withCounts_pump _).trans (by unfold withDemand; split <;> rfl)
  rcases s.redemand_pump_cases with still | moved
  · exact still
  · rw [moved, onDemand_of_quiet (by rw [same]; exact idle) (by rw [same]; exact waiting) (by rw [same]; exact running), same]

theorem lowLowStop_reacts (s : State) : s.Reacts s.lowLowStop [.overflowRisk] 5 :=
  .ite (fun _ => s.stopPump_reacts .lowLow) (fun _ => .refl ..)

/-- What a stopped pump may be in. -/
theorem stopPump_states (s : State) (cause : StopCause) :
    (s.stopPump cause).pump.state ∈ [PumpState.stopping, .lockout, .inhibited, .tripped] := by
  rw [stopPump_state]
  cases s.pump.runFb.active <;> cases s.pump.faultContact.active <;> cases s.pump.inhibit <;> simp

/-- A stop by the low-low float is not undone by what follows it. -/
theorem lowLow_stopped (s : State) : ((s.stopPump .lowLow).redemand.immediateStop).pump = (s.stopPump .lowLow).pump := by
  have states := s.stopPump_states .lowLow
  have still : (s.stopPump .lowLow).redemand.pump = (s.stopPump .lowLow).pump := by
    refine redemand_pump_of_quiet ?_ ?_ ?_ <;> (intro h; rw [h] at states; simp at states)
  rw [immediateStop_of_other, still]
  rw [still]
  intro h
  rw [h] at states
  simp at states

/-- What follows a taken float: the low-low stop, the new demand, and a stop the new demand asks for. -/
def floatTaken (s : State) : State := s.lowLowStop.redemand.immediateStop

theorem floatTaken_takes (s : State) : s.TakesLevel s.floatTaken :=
  ((TakesLevel.of_moves s.lowLowStop_reacts.moves s.lowLowStop_reacts.points).trans (redemand_takes _)).trans
    (.of_moves (immediateStop_reacts _).moves (immediateStop_reacts _).points)

theorem floatTaken_points (s : State) : s.PointsBut s.floatTaken [.overflowRisk] :=
  (s.lowLowStop_reacts.points.trans (redemand_points _)).trans (immediateStop_reacts _).points

theorem floatTaken_tallied (s : State) : s.floatTaken.Tallied := (immediateStop_reacts _).tallied (redemand_tallied _)

theorem floatTaken_row (working : s.working = true) : s.floatTaken.balance.demand = s.floatTaken.demandRow := by
  have running : s.lowLowStop.working = true := by rw [s.lowLowStop_reacts.moves.working]; exact working
  refine (immediateStop_reacts _).moves.demandCurrent (fun _ => redemand_row _ running) ?_
  rw [show (s.lowLowStop.redemand.immediateStop).working = s.working from (floatTaken_takes s).working]
  exact working

theorem floatTaken_balance (s : State) :
    s.floatTaken.balance = { s.balance with
      demand := s.floatTaken.balance.demand, limit := s.floatTaken.balance.limit, effective := s.floatTaken.balance.effective } := by
  have stop := (immediateStop_reacts s.lowLowStop.redemand).moves.balance
  have demand := redemand_balance s.lowLowStop
  rw [s.lowLowStop_reacts.moves.balance] at demand
  rw [demand] at stop
  rw [floatTaken, stop]

theorem floatTaken_screen (s : State) : s.floatTaken.screen = s.screen := by
  rw [floatTaken, (immediateStop_reacts _).moves.screen, redemand_screen, s.lowLowStop_reacts.moves.screen]

end State

/-- Settles O19. -/
theorem floatsOverrideDemand : Obligations.FloatsOverrideDemand := by
  intro s f working due
  obtain ⟨taken, takes⟩ : ∃ u, u = s.withFloats (s.floats.withFilter f { active := s.pins.level (floatPin f), timer := .stopped }) := ⟨_, rfl⟩
  obtain ⟨first, hfirst⟩ : ∃ u, u = taken.deliver (floatPoint f) (s.pins.level (floatPin f)) := ⟨_, rfl⟩
  obtain ⟨shown, hshown⟩ : ∃ u, u = first.deliver .floatConflict (taken.floats.highHigh.active && taken.floats.lowLow.active) := ⟨_, rfl⟩
  have step : exec (.floatDebounceExpiry f) s = .next shown.floatTaken := by
    rw [hshown, hfirst, takes]
    exact congrArg Host.Outcome.next (if_pos ⟨working, due⟩)
  have started : taken.started = true := by rw [takes]; exact State.started_of_working working
  have only : taken.AlarmsOnly shown := by
    rw [hshown, hfirst]
    exact (State.deliver_alarmsOnly ..).trans (State.deliver_alarmsOnly ..)
  obtain ⟨raw, points⟩ := State.deliver_delivers (s := taken) (floatPoint f) (s.pins.level (floatPin f)) started
  rw [← hfirst] at raw points
  obtain ⟨conflict, others⟩ := State.deliver_delivers (s := first) .floatConflict
    (taken.floats.highHigh.active && taken.floats.lowLow.active) (by rw [hfirst, State.deliver_started]; exact started)
  rw [← hshown] at conflict others
  obtain ⟨a, q, blocks⟩ : ∃ a q, shown = (taken.withAlarms a).withEvents q := ⟨_, _, only⟩
  have kept := State.floatTaken_takes shown
  have demands := State.floatTaken_row (s := shown) (by rw [blocks, takes]; exact working)
  have running : shown.floatTaken.working = true := by rw [kept.working, blocks, takes]; exact working
  have floats : shown.floatTaken.floats = taken.floats := by rw [kept.floats, blocks]; rfl
  have filters : taken.floats = s.floats.withFilter f { active := s.pins.level (floatPin f), timer := .stopped } := by rw [takes]; rfl
  have final := shown.floatTaken_points
  refine ⟨_, step, ?_, ?_, ?_, ?_, ?_, ?_, demands, ?_, ?_, ?_, shown.floatTaken_tallied.1, shown.floatTaken_tallied.2, ?_, ?_, ?_, ?_, ?_,
    ?_, ?_, ?_, ?_, ?_, ?_⟩
  · rw [floats, filters]
    cases f <;> rfl
  · intro other ne
    rw [floats, filters]
    cases f <;> cases other <;> first | exact absurd rfl ne | rfl
  · rw [final.rawOf (by cases f <;> simp [floatPoint]), others.rawOf (by cases f <;> simp [floatPoint]), raw]
  · rw [final.rawOf, conflict, floats]
  · intro low high
    have zero : shown.floatTaken.balance.demand = 0 := by
      rw [demands, State.demandRow, if_pos (by rw [State.lowLowInForce, low, high]; rfl)]
    refine ⟨zero, ?_⟩
    rw [(shown.floatTaken_tallied.2 running).1, zero]
    simp
  · intro high low
    rw [demands, State.demandRow, if_neg (by rw [State.lowLowInForce, low, high]; decide),
      if_pos (by rw [State.highHighInForce, low, high]; rfl)]
  · intro low high closed
    have stop : shown.lowLowStop = shown.stopPump .lowLow := by
      refine if_pos ⟨?_, ?_⟩
      · rw [floats] at low high
        rw [blocks, State.lowLowInForce]
        simp [low, high]
      · rw [blocks, takes]; exact closed
    have pump : shown.floatTaken.pump = (shown.stopPump .lowLow).pump := by rw [State.floatTaken, stop, State.lowLow_stopped]
    have records := State.stopPump_records (s := shown) (by rw [blocks]; exact started) .lowLow (n := 2)
    have before : s.events.Grows 2 shown.events := by
      have one := taken.deliver_grows (floatPoint f) (s.pins.level (floatPin f))
      have two := first.deliver_grows .floatConflict (taken.floats.highHigh.active && taken.floats.lowLow.active)
      rw [← hfirst] at one
      rw [← hshown] at two
      have grows := one.trans two
      rwa [takes] at grows
    have after : (shown.stopPump .lowLow).events.records <+: shown.floatTaken.events.records := by
      rw [State.floatTaken, stop]
      exact (State.redemand_grows _).1.trans (State.immediateStop_reacts _).grows.1
    have clock : shown.floatTaken.clock = (shown.stopPump .lowLow).clock := by
      rw [kept.clock, (shown.stopPump_reacts .lowLow).moves.clock]
    have values : shown.pump = s.pump := by rw [blocks, takes]; rfl
    have number : shown.own = s.own := by rw [blocks, takes]; rfl
    rw [values, number] at records
    exact ⟨by rw [pump]; exact (State.stopPump_open ..).1, by rw [pump]; exact shown.stopPump_states _,
      records.within (by rw [blocks, takes]; rfl) before after clock⟩
  · rw [shown.floatTaken_balance, blocks, takes]
    rfl
  · have base : s.PointsBut taken [floatPoint f, .floatConflict, .overflowRisk] := .of_alarms (by rw [takes]; rfl) _
    exact ((base.trans points.mono).trans (others.mono (by simp))).trans (final.mono (by simp))
  · rw [kept.start, blocks, takes]; rfl
  · rw [kept.clock, blocks, takes]; rfl
  · rw [kept.pins, blocks, takes]; rfl
  · rw [kept.chanW, blocks, takes]; rfl
  · rw [kept.chanX, blocks, takes]; rfl
  · rw [shown.floatTaken_screen, blocks, takes]; rfl
  · rw [kept.spill, blocks, takes]; rfl
  · rw [kept.town, blocks, takes]; rfl
  · rw [kept.pending, blocks, takes]; rfl
  · rw [kept.entries, blocks, takes]; rfl
  · rw [kept.isolated, blocks, takes]; rfl

end Sys2Proof.Machine
end

section
/-! LISTENING_END (O7): the rake's interval timer at entry to operation. -/

namespace Sys2Proof.Machine

namespace State

theorem leaveStartup_moves (s : State) : s.Moves s.leaveStartup := by
  unfold leaveStartup
  split
  · exact (s.enter_reacts .off).moves
  · exact (s.enter_reacts .hand).moves
  · exact (s.enterRest_reacts .lockout).moves

/-- At entry to operation a pending trigger starts its cycle from an interval timer that has just been started (R121, R126, R127). -/
theorem openRake_of_pending {s : State} (runs : s.screenRuns = true) (rested : s.screen.rest.isRunning = false)
    (pending : s.screen.pendingFlag = true) (clear : s.screen.overload.active = false) :
    s.openRake.screen.interval =
      if s.cfg.rakeInterval = 0 then .stopped else (if s.cfg.rakeInterval = 0 then Timer.stopped else .start).restart (s.cfg.rakeInterval * 60000) := by
  unfold openRake
  rw [if_pos runs]
  have ready := startPending_of_ready (s := s.withScreen
    { (s.screen.enterRake .rakeIdle) with interval := if s.cfg.rakeInterval = 0 then .stopped else .start }) rfl rested pending clear
  rw [ready]
  rfl

end State

/-- A screen station in LISTENING with a pending trigger and its interval timer standing renewed at its limit. -/
def renewedInListening : State :=
  { State.reset with
    start := { phase := .listening, station := 0, settings := { Settings.configFault 0 with role := .screen, rakeInterval := 1 },
               listening := .running 1000000 }
    screen := { Screen.reset with pendingFlag := true, interval := .renewed } }

/-- Refutes O7: the unit starts the interval timer and then the cycle restarts it, so it stands at 0; the statement restarts the timer as it
stood before, and an interval timer that stands renewed would stay so. -/
theorem not_listeningEndOpens : ¬ Obligations.ListeningEndOpens := by
  intro claim
  obtain ⟨t, step, _, _, _, _, _, _, _, _, _, _, _, screen, _⟩ := claim renewedInListening rfl (by decide)
  obtain ⟨up, hup⟩ : ∃ u, u = (renewedInListening.withStart
    { renewedInListening.start with phase := .operating, listening := .stopped }).evalLevelLost.evalRisk := ⟨_, rfl⟩
  have opens : exec .listeningEnd renewedInListening =
      .next (up.leaveStartup.openRake.withTable { up.leaveStartup.openRake.table with silence := .start }) := by
    rw [hup]
    exact congrArg Host.Outcome.next (if_pos ⟨rfl, by decide⟩)
  have moves := up.leaveStartup_moves
  have station : up.start = { renewedInListening.start with phase := .operating, listening := .stopped } := by
    rw [hup, State.evalRisk, State.deliver_start, State.evalLevelLost, State.deliver_start]; rfl
  have unit : up.leaveStartup.screen = renewedInListening.screen := by
    rw [moves.screen, hup, State.evalRisk, State.deliver_screen, State.evalLevelLost, State.deliver_screen]; rfl
  have runs : up.leaveStartup.screenRuns = true := by
    rw [State.screenRuns, State.working, State.cfg, moves.start, station]; rfl
  have interval := State.openRake_of_pending runs (by rw [unit]; rfl) (by rw [unit]; rfl) (by rw [unit]; rfl)
  rw [State.cfg, moves.start, station] at interval
  have cycling := screen rfl rfl rfl rfl
  rw [opens] at step
  have same := Host.Outcome.next.inj step
  rw [← same] at cycling
  have stays : Timer.renewed = up.leaveStartup.openRake.screen.interval := (congrArg Screen.interval cycling).symm
  rw [interval] at stays
  simp [renewedInListening, Timer.restart, Timer.start] at stays

end Sys2Proof.Machine
end

section
/-! The selector (O23): what OFF, HAND and AUTO make of the pump (R44, R47, R48, R60). -/

namespace Sys2Proof.Machine

/-! ## A pump at rest -/

/-- The pump but for its state, its timers, the position and the OFF hold: what a selector change cannot tell apart once it has halted it. -/
def Pump.atRest (p : Pump) : Pump := { p.halted .off with position := .off, offHold := .stopped }

theorem Pump.contact_of_atRest {p q : Pump} (rest : q.atRest = p.atRest) (c : Contact) (f : Filter) :
    (q.withContact c f).atRest = (p.withContact c f).atRest := by
  have same (x : Pump) : (x.withContact c f).atRest = (x.atRest.withContact c f).atRest := by cases c <;> rfl
  rw [same q, rest, ← same p]

theorem Pump.halted_of_atRest {p q : Pump} (rest : q.atRest = p.atRest) (st : PumpState) (a : Position) (b : Timer) :
    { q.halted st with position := a, offHold := b } = { p.halted st with position := a, offHold := b } := by
  have same (x : Pump) : { x.halted st with position := a, offHold := b } = { x.atRest.halted st with position := a, offHold := b } := rfl
  rw [same q, rest, ← same p]

theorem Pump.combination_of_atRest {p q : Pump} (rest : q.atRest = p.atRest) : q.combination = p.combination := by
  have same (x : Pump) : x.combination = x.atRest.combination := rfl
  rw [same q, rest, ← same p]

namespace State

variable {s : State}

theorem own_of_moves {t : State} (moves : s.Moves t) : t.own = s.own := by rw [own, own, moves.start]

theorem started_of_operating (operating : s.operating = true) : s.started = true := started_of_working (working_of_operating operating)

/-! ## Leaving AUTO (R47) -/

theorem leaveAuto_eq (s : State) (st : PumpState) :
    s.leaveAuto st = if s.pump.state = .starting ∨ s.pump.state = .running then ((s.closeOwnClaim .withdrawn).enter st).offerStopped .selector
      else (s.closeOwnClaim .withdrawn).enter st := rfl

theorem leaveAuto_reacts (s : State) (st : PumpState) : s.Reacts (s.leaveAuto st) [.overflowRisk] 2 := by
  have left := (s.closeOwnClaim_reacts .withdrawn [.overflowRisk]).trans (enter_reacts _ st)
  exact .ite (fun _ => left.trans (offerStopped_reacts ..)) (fun _ => left.mono)

theorem leaveAuto_window {st : PumpState} (other : st ≠ .waiting) : (s.leaveAuto st).window = s.windowLeft := by
  rw [leaveAuto_eq]
  split
  · rw [offerStopped, offer_window, leave_window _ _ other]
  · rw [leave_window _ _ other]

theorem leaveAuto_link (started : s.started = true) (st : PumpState) : (s.leaveAuto st).link = s.linkLeft .withdrawn := by
  rw [leaveAuto_eq]
  split
  · rw [offerStopped, offer_link, leave_link started]
  · rw [leave_link started]

/-- A STARTING or RUNNING pump that leaves AUTO has its stop recorded with cause SELECTOR. -/
theorem leaveAuto_records (started : s.started = true) (closed : s.pump.state = .starting ∨ s.pump.state = .running) {st : PumpState}
    (other : st ≠ .starting) :
    s.Records (s.leaveAuto st) 2 .stopped s.own 4 [BitVec.ofNat 32 s.pump.closedSeconds, BitVec.ofNat 32 s.pump.runHours] := by
  have left := (s.closeOwnClaim_reacts .withdrawn [.overflowRisk]).trans (enter_reacts _ st)
  have values : ((s.closeOwnClaim .withdrawn).enter st).offerStopped .selector =
      ((s.closeOwnClaim .withdrawn).enter st).offer .stopped 4 [BitVec.ofNat 32 s.pump.closedSeconds, BitVec.ofNat 32 s.pump.runHours] := by
    rw [offerStopped, enter_pump, closeOwnClaim_pump]
    unfold Pump.enter
    rw [if_neg other]
    rfl
  rw [leaveAuto_eq, if_pos closed, values]
  exact records_of_offer 1 started left.moves.start left.grows

/-! ## The position changes (R44) -/

/-- The state with another selector position. -/
def positioned (pos : Position) (s : State) : State := s.withPump { s.pump with position := pos }

theorem positioned_reacts (s : State) (pos : Position) (ps : List AlarmPoint) : s.Reacts (s.positioned pos) ps 0 := withPump_reacts ps

theorem setPosition_of_same {pos : Position} (same : s.pump.position = pos) : s.setPosition pos = s := if_pos same

theorem setPosition_of_auto_off (operating : s.operating = true) (auto : s.pump.position = .auto) :
    s.setPosition .off = (s.positioned .off).leaveAuto .off := by
  simp [setPosition, positioned, operating, auto]

theorem setPosition_of_auto_hand (operating : s.operating = true) (auto : s.pump.position = .auto) :
    s.setPosition .hand = (s.positioned .hand).leaveAuto .hand := by
  simp [setPosition, positioned, operating, auto]

theorem setPosition_of_off_hand (operating : s.operating = true) (off : s.pump.position = .off) :
    s.setPosition .hand = (s.positioned .hand).enter .hand := by
  simp [setPosition, positioned, operating, off]

theorem setPosition_of_hand_off (operating : s.operating = true) (hand : s.pump.position = .hand) :
    s.setPosition .off = (s.positioned .off).enter .off := by
  simp [setPosition, positioned, operating, hand]

theorem setPosition_auto (operating : s.operating = true) (other : s.pump.position ≠ .auto) :
    s.setPosition .auto = (s.positioned .auto).enterAuto s.pump.position := by
  cases position : s.pump.position
  case auto => exact absurd position other
  all_goals simp [setPosition, positioned, operating, position]

/-! ## OFF for 500 ms (R44) -/

/-- OFF is about to become the position: its hold is over, and SELECTOR_FAULT shows both contacts. -/
def heldOff (s : State) : State :=
  (s.withPump { s.pump with offHold := .reached }).deliver .selectorFault (s.pump.contactHand.active && s.pump.contactAuto.active)

theorem takeOff_eq (s : State) : s.takeOff = s.heldOff.setPosition .off := rfl

theorem heldOff_pump (s : State) : s.heldOff.pump = { s.pump with offHold := .reached } := by rw [heldOff, deliver_pump]; rfl

theorem heldOff_reacts (s : State) : s.Reacts s.heldOff [.selectorFault, .overflowRisk] 1 :=
  ((withPump_reacts [AlarmPoint.selectorFault]).trans (deliver_reacts _ AlarmPoint.selectorFault _)).mono (Nat.le_refl 1)

/-- What a selector that has stood at OFF for its 500 ms makes of the state. -/
structure TurnsOff (s t : State) : Prop where
  moves : s.Moves t
  points : s.PointsBut t [.selectorFault, .overflowRisk]
  grows : s.events.Grows 3 t.events
  pump : t.pump = if s.pump.position = .off then { s.pump with offHold := .reached }
    else { s.pump.halted .off with position := .off, offHold := .reached }
  raw : t.rawOf .selectorFault = (s.pump.contactHand.active && s.pump.contactAuto.active)
  window : s.pump.position = .auto → t.window = s.windowLeft
  link : s.pump.position = .auto → t.link = s.linkLeft .withdrawn
  records : s.pump.position = .auto → s.pump.state = .starting ∨ s.pump.state = .running →
    s.Records t 3 .stopped s.own 4 [BitVec.ofNat 32 s.pump.closedSeconds, BitVec.ofNat 32 s.pump.runHours]

theorem takeOff_turnsOff (operating : s.operating = true) : s.TurnsOff s.takeOff := by
  have started := started_of_operating operating
  have pump := s.takeOff_pump
  rw [operating, takeOff_eq] at pump
  simp only [Bool.true_eq_false, or_false, Pump.enter_off] at pump
  rw [takeOff_eq]
  have held := s.heldOff_reacts
  have before := s.heldOff_pump
  have raw : s.heldOff.rawOf .selectorFault = (s.pump.contactHand.active && s.pump.contactAuto.active) :=
    (deliver_delivers (s := s.withPump { s.pump with offHold := .reached }) _ _ started).1
  have window : s.heldOff.window = s.window := by rw [heldOff, deliver_window]; rfl
  have link : s.heldOff.link = s.link := by rw [heldOff, deliver_link]; rfl
  obtain ⟨u, hu⟩ : ∃ u, u = s.heldOff := ⟨_, rfl⟩
  rw [← hu] at held before raw window link pump ⊢
  have running : u.operating = true := by rw [held.moves.operating]; exact operating
  cases position : s.pump.position
  case off =>
    have still : u.setPosition .off = u := setPosition_of_same (by rw [before]; exact position)
    rw [still] at pump ⊢
    exact ⟨held.moves, held.points, held.grows.mono, by rw [before, position]; rfl, raw, by rw [position]; simp, by rw [position]; simp,
      by rw [position]; simp⟩
  case hand =>
    rw [setPosition_of_hand_off running (by rw [before]; exact position)] at pump ⊢
    have enters := (u.positioned_reacts .off [.overflowRisk]).trans (enter_reacts _ .off)
    have all := held.trans (enters.mono (Nat.le_refl _))
    exact ⟨all.moves, all.points, all.grows.mono, by rw [pump, position]; rfl, (enters.rawOf).trans raw, by rw [position]; simp,
      by rw [position]; simp, by rw [position]; simp⟩
  case auto =>
    rw [setPosition_of_auto_off running (by rw [before]; exact position)] at pump ⊢
    have positioned := u.positioned_reacts .off [.overflowRisk]
    have leaves := positioned.trans (leaveAuto_reacts _ .off)
    have all := held.trans (leaves.mono (Nat.le_refl _))
    have state : (u.positioned .off).pump.state = s.pump.state := by
      change u.pump.state = s.pump.state
      rw [before]
    refine ⟨all.moves, all.points, all.grows.mono, by rw [pump, position]; rfl, (leaves.rawOf).trans raw, fun _ => ?_, fun _ => ?_,
      fun _ closed => ?_⟩
    · rw [leaveAuto_window (by simp), windowLeft_of_same (s := s) state window link]
    · rw [leaveAuto_link (positioned.started (held.started started)), linkLeft_of_same (s := s) _ state window link]
    · have records := leaveAuto_records (s := u.positioned .off) (positioned.started (held.started started))
        (by rw [state]; exact closed) (st := .off) (by simp)
      rw [own_of_moves (held.moves.trans positioned.moves)] at records
      have same : (u.positioned .off).pump = { s.pump with offHold := .reached, position := .off } := by
        exact congrArg (fun p : Pump => { p with position := .off }) before
      rw [same] at records
      exact records.within (held.moves.trans positioned.moves).start (held.grows.trans positioned.grows) (List.prefix_refl _) rfl

/-- What the contact that ends a combination finds: the state itself, or OFF taken first. -/
theorem settleOff_cases (operating : s.operating = true) :
    (s.pump.offHold.due 500 = false ∧ s.settleOff = s) ∨ (s.pump.offHold.due 500 = true ∧ s.TurnsOff s.settleOff) := by
  cases due : s.pump.offHold.due 500
  · exact .inl ⟨rfl, settleOff_of_short due⟩
  · exact .inr ⟨rfl, by rw [settleOff_of_due due]; exact takeOff_turnsOff operating⟩

theorem TurnsOff.position {t : State} (h : s.TurnsOff t) : t.pump.position = .off := by
  rw [h.pump]
  split
  case isTrue off => exact off
  case isFalse => rfl

theorem TurnsOff.atRest {t : State} (h : s.TurnsOff t) : t.pump.atRest = s.pump.atRest := by
  rw [h.pump]
  split <;> rfl

/-! ## The contact is taken (R44) -/

/-- A contact's filter is replaced and the OFF hold set; SELECTOR_FAULT falls. -/
def contactTaken (c : Contact) (f : Filter) (hold : Timer) (s : State) : State :=
  (s.withPump { s.pump.withContact c f with offHold := hold }).deliver .selectorFault false

theorem contactTaken_pump (s : State) (c : Contact) (f : Filter) (hold : Timer) :
    (s.contactTaken c f hold).pump = { s.pump.withContact c f with offHold := hold } := by
  rw [contactTaken, deliver_pump]
  rfl

theorem contactTaken_window (s : State) (c : Contact) (f : Filter) (hold : Timer) : (s.contactTaken c f hold).window = s.window := by
  rw [contactTaken, deliver_window]
  rfl

theorem contactTaken_link (s : State) (c : Contact) (f : Filter) (hold : Timer) : (s.contactTaken c f hold).link = s.link := by
  rw [contactTaken, deliver_link]
  rfl

theorem contactTaken_reacts (s : State) (c : Contact) (f : Filter) (hold : Timer) :
    s.Reacts (s.contactTaken c f hold) [.selectorFault, .overflowRisk] 1 := by
  have same : s.Reacts (s.withPump { s.pump.withContact c f with offHold := hold }) [AlarmPoint.selectorFault] 0 := by
    cases c <;> exact withPump_reacts _
  exact (same.trans (deliver_reacts _ AlarmPoint.selectorFault _)).mono (Nat.le_refl 1)

theorem contactTaken_raw (started : s.started = true) (c : Contact) (f : Filter) (hold : Timer) :
    (s.contactTaken c f hold).rawOf .selectorFault = false :=
  (deliver_delivers (s := s.withPump { s.pump.withContact c f with offHold := hold }) _ _ started).1

theorem exec_contact_of_position {c : Contact} {pos : Position} (due : (s.pump.contact c).timer.due 500 = true)
    (combination : (s.settleOff.pump.withContact c { active := s.pins.level (contactPin c), timer := .stopped }).combination = some pos) :
    exec (.selectorContactDebounceExpiry c) s =
      .next ((s.settleOff.contactTaken c { active := s.pins.level (contactPin c), timer := .stopped } .stopped).setPosition pos) := by
  refine congrArg Host.Outcome.next ((if_pos due).trans ?_)
  simp only [withPump_pump, Filter.take, combination]
  rfl

theorem exec_contact_of_none {c : Contact} (due : (s.pump.contact c).timer.due 500 = true)
    (combination : (s.settleOff.pump.withContact c { active := s.pins.level (contactPin c), timer := .stopped }).combination = none) :
    exec (.selectorContactDebounceExpiry c) s =
      .next (s.settleOff.contactTaken c { active := s.pins.level (contactPin c), timer := .stopped } (.running 0)) := by
  refine congrArg Host.Outcome.next ((if_pos due).trans ?_)
  simp only [withPump_pump, Filter.take, combination]
  rfl

/-- The state once a contact has been taken, as the position is about to follow it: what OFF made of the pump before, and nothing more. -/
structure TakesContact (s t : State) (c : Contact) (f : Filter) (hold : Timer) : Prop where
  moves : s.Moves t
  points : s.PointsBut t [.selectorFault, .overflowRisk]
  grows : s.events.Grows 4 t.events
  raw : t.rawOf .selectorFault = false
  pump : t.pump.atRest = (s.pump.withContact c f).atRest
  hold : t.pump.offHold = hold
  position : t.pump.position = if s.pump.offHold.due 500 then .off else s.pump.position

theorem settled_takes (operating : s.operating = true) (c : Contact) (f : Filter) (hold : Timer) :
    s.TakesContact (s.settleOff.contactTaken c f hold) c f hold := by
  have started := started_of_operating operating
  have taken := s.settleOff.contactTaken_reacts c f hold
  have pump := s.settleOff.contactTaken_pump c f hold
  have place (x : Pump) : (x.withContact c f).position = x.position := by cases c <;> rfl
  have rest (x : Pump) : ({ x.withContact c f with offHold := hold } : Pump).atRest = (x.withContact c f).atRest := rfl
  rcases settleOff_cases operating with ⟨short, same⟩ | ⟨due, off⟩
  · rw [same] at taken pump ⊢
    exact ⟨taken.moves, taken.points, taken.grows.mono, contactTaken_raw started .., by rw [pump, rest], by rw [pump],
      by rw [pump, short]; exact place s.pump⟩
  · refine ⟨off.moves.trans taken.moves, off.points.trans taken.points, (off.grows.trans taken.grows).mono, contactTaken_raw ?_ .., ?_,
      by rw [pump], ?_⟩
    · rw [State.started, off.moves.start]; exact started
    · rw [pump, rest, Pump.contact_of_atRest off.atRest]
    · rw [pump, due]; exact (place _).trans off.position

theorem settled_combination (operating : s.operating = true) (c : Contact) (f : Filter) :
    (s.settleOff.pump.withContact c f).combination = (s.pump.withContact c f).combination := by
  rcases settleOff_cases operating with ⟨_, same⟩ | ⟨_, off⟩
  · rw [same]
  · exact Pump.combination_of_atRest (Pump.contact_of_atRest off.atRest c f)

/-! ## Entering AUTO (R48) -/

theorem enterAuto_kept {old : Position} (kept : old ≠ .off ∨ s.mayReset = false) :
    s.enterAuto old = if s.pump.latch.isSome = true then s.enter .tripped else if s.pump.faultContact.active = true then s.trip .pumpFault
      else if s.pump.inhibit = true then s.enterRest .inhibited else s.enterRest .lockout := by
  have none : ¬ (old = .off ∧ s.mayReset = true) := by
    rintro ⟨off, resets⟩
    rcases kept with other | stays
    · exact other off
    · exact Bool.false_ne_true (stays.symm.trans resets)
  unfold enterAuto
  rw [if_neg none]

theorem enterAuto_latched {old : Position} (kept : old ≠ .off ∨ s.mayReset = false) (latched : s.pump.latch.isSome = true) :
    s.enterAuto old = s.enter .tripped := by
  rw [enterAuto_kept kept, if_pos latched]

theorem mayReset_of_none (none : s.pump.latch = none) : s.mayReset = false := by rw [mayReset, none]; rfl

/-- Without a latch and without the fault contact an AUTO pump goes to its rest (R48). -/
theorem enterAuto_rests (old : Position) (none : s.pump.latch = none) (well : s.pump.faultContact.active = false) :
    s.enterAuto old = s.enter s.restState := by
  rw [enterAuto_kept (.inr (mayReset_of_none none)), none, if_neg (by simp), if_neg (by rw [well]; simp), restState]
  cases s.pump.inhibit
  · exact enterRest_of_well well
  · exact enterRest_of_well well

theorem enterAuto_trips (old : Position) (none : s.pump.latch = none) (fault : s.pump.faultContact.active = true) :
    s.enterAuto old = s.trip .pumpFault := by
  rw [enterAuto_kept (.inr (mayReset_of_none none)), none, if_neg (by simp), if_pos fault]

/-- A cycle through OFF clears the latch of a pump whose trouble has gone, and the pump goes to its rest (R48, R60). -/
theorem enterAuto_resets {cause : TripCause} (latch : s.pump.latch = some cause) (well : s.pump.faultContact.active = false)
    (still : s.pump.runFb.active = false) : s.enterAuto .off = s.clearLatch.enterAuto .hand := by
  have resets : s.mayReset = true := by rw [mayReset, latch, well, still]; rfl
  rw [enterAuto_kept (s := s.clearLatch) (.inl (by simp))]
  simp only [enterAuto, resets, and_self, if_true]

theorem clearLatch_of_some {cause : TripCause} (latch : s.pump.latch = some cause) :
    s.clearLatch = if cause = .pumpFault then s.withPump { s.pump with latch := none }
      else (s.withPump { s.pump with latch := none }).deliver (tripPoint cause) false := by
  rw [clearLatch, latch]

theorem clearLatch_pump {cause : TripCause} (latch : s.pump.latch = some cause) : s.clearLatch.pump = { s.pump with latch := none } := by
  rw [clearLatch_of_some latch]
  split
  · rfl
  · rw [deliver_pump]; rfl

theorem clearLatch_reacts {cause : TripCause} (latch : s.pump.latch = some cause) :
    s.Reacts s.clearLatch [tripPoint cause] 1 := by
  rw [clearLatch_of_some latch]
  exact .ite (fun _ => (withPump_reacts [tripPoint cause]).mono (Nat.zero_le 1) (List.Subset.refl _))
    (fun _ => ((withPump_reacts [tripPoint cause]).trans (deliver_reacts ..)).mono (Nat.le_refl 1) (List.Subset.refl _))

theorem clearLatch_raw {cause : TripCause} (started : s.started = true) (latch : s.pump.latch = some cause) (other : cause ≠ .pumpFault) :
    s.clearLatch.rawOf (tripPoint cause) = false := by
  rw [clearLatch_of_some latch, if_neg other]
  exact (deliver_delivers (s := s.withPump { s.pump with latch := none }) _ _ started).1

end State

end Sys2Proof.Machine
end

section
/-! The selector's contacts and its OFF hold (O23). -/

namespace Sys2Proof.Machine

/-- What a contact leaves of the pump it is taken by. -/
theorem Pump.kept_of_atRest {p q : Pump} {c : Contact} {f : Filter} (rest : q.atRest = (p.withContact c f).atRest) :
    q.latch = p.latch ∧ q.faultContact = p.faultContact ∧ q.runFb = p.runFb ∧ q.inhibit = p.inhibit := by
  have latch := congrArg Pump.latch rest
  have fault := congrArg Pump.faultContact rest
  have runFb := congrArg Pump.runFb rest
  have inhibit := congrArg Pump.inhibit rest
  cases c <;> exact ⟨latch, fault, runFb, inhibit⟩

namespace State

variable {s : State} {c : Contact} {f : Filter} {hold : Timer}

theorem TakesContact.started {t : State} (h : s.TakesContact t c f hold) (started : s.started = true) : t.started = true := by
  rw [State.started, h.moves.start]
  exact started

/-- The pump the new position halts is the one the contact was taken by. -/
theorem TakesContact.halted {t : State} (h : s.TakesContact t c f hold) (st : PumpState) (pos : Position) :
    (t.positioned pos).pump.halted st = { (s.pump.withContact c f).halted st with position := pos, offHold := hold } := by
  rw [← h.hold]
  exact Pump.halted_of_atRest h.pump st pos t.pump.offHold

/-- What the change of position does beside the pump: the contact has dropped SELECTOR_FAULT, and OVERFLOW_RISK alone follows. -/
theorem TakesContact.finishes {t : State} (h : s.TakesContact t c f hold) (pos : Position) {u : State} {n : Nat}
    (reacts : (t.positioned pos).Reacts u [.overflowRisk] n) :
    s.Moves u ∧ u.rawOf .selectorFault = false ∧ s.PointsBut u [.selectorFault, .overflowRisk] :=
  ⟨h.moves.trans ((t.positioned_reacts pos [.overflowRisk]).trans reacts).moves, reacts.rawOf.trans h.raw,
    h.points.trans ((t.positioned_reacts pos [.overflowRisk]).trans reacts).points.mono⟩

/-- A contact that gives AUTO enters it from the position that stood before, OFF where its 500 ms are elapsed (R44, R48). -/
theorem exec_contact_auto (operating : s.operating = true) (due : (s.pump.contact c).timer.due 500 = true)
    (gives : f = { active := s.pins.level (contactPin c), timer := .stopped })
    (combination : (s.pump.withContact c f).combination = some .auto) (other : s.pump.position ≠ .auto ∨ s.pump.offHold.due 500 = true) :
    ∃ t, s.TakesContact t c f .stopped ∧
      exec (.selectorContactDebounceExpiry c) s = .next ((t.positioned .auto).enterAuto t.pump.position) := by
  subst gives
  have takes := settled_takes operating c { active := s.pins.level (contactPin c), timer := .stopped } .stopped
  refine ⟨_, takes, (exec_contact_of_position due ((settled_combination operating c _).trans combination)).trans
    (congrArg Host.Outcome.next (setPosition_auto ?_ ?_))⟩
  · rw [takes.moves.operating]; exact operating
  · rw [takes.position]
    rcases other with away | settled
    · split
      · simp
      · exact away
    · rw [if_pos settled]; simp

/-- The pump as it comes to rest in AUTO. -/
theorem TakesContact.rests {t : State} (h : s.TakesContact t c f hold) :
    (t.positioned .auto).pump.enter (t.positioned .auto).restState =
      { (s.pump.withContact c f).halted (if s.pump.inhibit then .inhibited else .lockout) with
        position := .auto, offHold := hold, lockout := if s.pump.inhibit then .stopped else .running 0, stray := s.pump.strayAtEntry } := by
  obtain ⟨_, _, runFb, inhibit⟩ := Pump.kept_of_atRest h.pump
  have stray : (t.positioned .auto).pump.strayAtEntry = s.pump.strayAtEntry := by
    change (if t.pump.runFb.active then _ else _) = _
    rw [runFb]
    rfl
  have rest : (t.positioned .auto).restState = if s.pump.inhibit then .inhibited else .lockout := by
    change (if t.pump.inhibit then _ else _) = _
    rw [inhibit]
  rw [rest]
  cases s.pump.inhibit
  · exact (Pump.enter_lockout _).trans (by rw [h.halted, stray]; rfl)
  · exact (Pump.enter_inhibited _).trans (by rw [h.halted, stray]; rfl)

end State

/-- Settles O23, by the combination the contacts give and the position it meets. -/
theorem selectorMovesThePump : Obligations.SelectorMovesThePump := by
  intro s c cause p
  refine ⟨?leaves, ?toHand, ?same, ?enters, ?trips, ?stays, ?clears, ?keeps, ?begins, ?again, ?offAuto, ?offHand, ?short⟩
  case leaves =>
    intro operating due given combination auto
    subst given
    have started := State.started_of_operating operating
    have takes := State.settled_takes operating c { active := s.pins.level (contactPin c), timer := .stopped } .stopped
    have step := State.exec_contact_of_position due ((State.settled_combination operating c _).trans combination)
    have running : (s.settleOff.contactTaken c { active := s.pins.level (contactPin c), timer := .stopped } .stopped).operating = true := by
      rw [takes.moves.operating]; exact operating
    obtain ⟨v, hv⟩ : ∃ v, v = s.settleOff.contactTaken c { active := s.pins.level (contactPin c), timer := .stopped } .stopped := ⟨_, rfl⟩
    have pump := s.settleOff.contactTaken_pump c { active := s.pins.level (contactPin c), timer := .stopped } .stopped
    have window := s.settleOff.contactTaken_window c { active := s.pins.level (contactPin c), timer := .stopped } .stopped
    have link := s.settleOff.contactTaken_link c { active := s.pins.level (contactPin c), timer := .stopped } .stopped
    have reacts := s.settleOff.contactTaken_reacts c { active := s.pins.level (contactPin c), timer := .stopped } .stopped
    rw [← hv] at takes step running pump window link reacts
    have begun := takes.started started
    rcases State.settleOff_cases operating with ⟨short, same⟩ | ⟨elapsed, off⟩
    · rw [same] at pump window link
      have leaves := State.setPosition_of_auto_hand running (by rw [takes.position, short]; exact auto)
      have fields : v.pump.state = s.pump.state ∧ v.pump.closedSeconds = s.pump.closedSeconds ∧ v.pump.runHours = s.pump.runHours := by
        rw [pump]; cases c <;> exact ⟨rfl, rfl, rfl⟩
      obtain ⟨state, closedSeconds, runHours⟩ := fields
      obtain ⟨moves, raw, points⟩ := takes.finishes .hand (State.leaveAuto_reacts _ .hand)
      rw [leaves] at step
      refine ⟨_, step, (State.leaveAuto_pump ..).trans (takes.halted .hand .hand), ?_, ?_, fun closed => ?_, moves, raw, points⟩
      · rw [State.leaveAuto_window (by simp), State.windowLeft_of_same (s := s) (t := v.positioned .hand) state window link]
      · rw [State.leaveAuto_link (s := v.positioned .hand) begun,
          State.linkLeft_of_same (s := s) (t := v.positioned .hand) _ state window link]
      · have records := State.leaveAuto_records (s := v.positioned .hand) begun
          (by change v.pump.state = _ ∨ v.pump.state = _; rw [state]; exact closed) (st := .hand) (by simp)
        rw [State.own_of_moves (takes.moves.trans (v.positioned_reacts .hand []).moves),
          show (v.positioned .hand).pump.closedSeconds = s.pump.closedSeconds from closedSeconds,
          show (v.positioned .hand).pump.runHours = s.pump.runHours from runHours] at records
        exact records.within takes.moves.start takes.grows (List.prefix_refl _) rfl
    · have enters := State.setPosition_of_off_hand running (by rw [takes.position, elapsed]; rfl)
      have entry := State.enter_reacts (v.positioned .hand) .hand
      obtain ⟨moves, raw, points⟩ := takes.finishes .hand entry
      rw [enters] at step
      refine ⟨_, step, (State.enter_pump ..).trans (takes.halted .hand .hand), ?_, ?_, fun closed => ?_, moves, raw, points⟩
      · rw [State.enter_quiet_window (by simp), show (v.positioned .hand).window = s.windowLeft from window.trans (off.window auto)]
        rfl
      · rw [State.enter_link (s := v.positioned .hand) begun, show (v.positioned .hand).link = s.linkLeft .withdrawn from link.trans (off.link auto),
          ← State.closeOwnClaim_link, Link.reported_reported]
      · exact (off.records auto closed).within rfl (.refl _ 0) (reacts.grows.1.trans entry.grows.1) (moves.clock.trans off.moves.clock.symm)
  case toHand =>
    intro operating due given combination off
    subst given
    have takes := State.settled_takes operating c { active := s.pins.level (contactPin c), timer := .stopped } .stopped
    have step := State.exec_contact_of_position due ((State.settled_combination operating c _).trans combination)
    have enters := State.setPosition_of_off_hand (by rw [takes.moves.operating]; exact operating) (by
      rw [takes.position]
      rcases off with stands | ⟨_, elapsed⟩
      · rw [stands]; exact ite_self _
      · exact if_pos elapsed)
    rw [enters] at step
    exact ⟨_, step, (State.enter_pump ..).trans (takes.halted .hand .hand), takes.finishes .hand (State.enter_reacts _ _)⟩
  case same =>
    intro operating due given combination short
    subst given
    rw [State.exec_contact_of_position due ((State.settled_combination operating c _).trans combination)]
    have started := State.started_of_operating operating
    rw [State.settleOff_of_short short]
    refine ⟨_, congrArg Host.Outcome.next (State.setPosition_of_same ?_), State.deliver_alarmsOnly .., State.deliver_delivers _ _ started⟩
    rw [State.contactTaken_pump]
    cases c <;> rfl
  case enters =>
    intro operating due given combination other none well
    subst given
    obtain ⟨t, takes, step⟩ := State.exec_contact_auto operating due rfl combination other
    obtain ⟨latch, fault, _, _⟩ := Pump.kept_of_atRest takes.pump
    have enters := State.enterAuto_rests (s := t.positioned .auto) t.pump.position (latch.trans none) (by
      change t.pump.faultContact.active = false
      rw [fault]; exact well)
    rw [enters] at step
    exact ⟨_, step, (State.enter_pump ..).trans takes.rests, takes.finishes .auto (State.enter_reacts _ _)⟩
  case trips =>
    intro operating due given combination other none active
    subst given
    obtain ⟨t, takes, step⟩ := State.exec_contact_auto operating due rfl combination other
    obtain ⟨latch, fault, _, _⟩ := Pump.kept_of_atRest takes.pump
    have trips := State.enterAuto_trips (s := t.positioned .auto) t.pump.position (latch.trans none) (by
      change t.pump.faultContact.active = true
      rw [fault]; exact active)
    rw [trips] at step
    exact ⟨_, step, (State.trip_halted ..).trans (by rw [takes.halted]), takes.finishes .auto (State.trip_pumpFault_reacts _)⟩
  case stays =>
    intro operating due given combination hand short latched
    subst given
    obtain ⟨t, takes, step⟩ := State.exec_contact_auto operating due rfl combination (.inl (by rw [hand]; simp))
    obtain ⟨latch, _, _, _⟩ := Pump.kept_of_atRest takes.pump
    have stays := State.enterAuto_latched (s := t.positioned .auto) (old := t.pump.position)
      (.inl (by rw [takes.position, short, hand]; simp)) (by
        change t.pump.latch.isSome = true
        rw [latch, latched]; rfl)
    rw [stays] at step
    exact ⟨_, step, (State.enter_pump ..).trans (takes.halted ..), takes.finishes .auto (State.enter_reacts _ _)⟩
  case clears =>
    intro operating due given combination off latched well still
    subst given
    obtain ⟨t, takes, step⟩ := State.exec_contact_auto operating due rfl combination (off.imp_left fun h => by rw [h]; simp)
    obtain ⟨latch, fault, runFb, _⟩ := Pump.kept_of_atRest takes.pump
    have stands : t.pump.position = .off := by
      rw [takes.position]
      rcases off with h | h
      · rw [h]; exact ite_self _
      · exact if_pos h
    have rests := takes.rests
    have begun : (t.positioned .auto).started = true := takes.started (State.started_of_operating operating)
    have holds : (t.positioned .auto).pump.latch = some cause := latch.trans latched
    have fresh : (t.positioned .auto).pump.faultContact.active = false := by
      change t.pump.faultContact.active = false
      rw [fault]; exact well
    have quiet : (t.positioned .auto).pump.runFb.active = false := by
      change t.pump.runFb.active = false
      rw [runFb]; exact still
    have stays := t.positioned_reacts .auto []
    obtain ⟨w, hw⟩ : ∃ w, w = t.positioned .auto := ⟨_, rfl⟩
    rw [← hw] at step rests begun holds fresh quiet stays
    have pump := State.clearLatch_pump holds
    have clears := State.clearLatch_reacts holds
    have enters := State.enterAuto_rests (s := w.clearLatch) .hand (by rw [pump]) (by rw [pump]; exact fresh)
    have rest : w.clearLatch.restState = w.restState := by rw [State.restState, State.restState, pump]
    rw [stands, State.enterAuto_resets holds fresh quiet, enters, rest] at step
    have entry := w.clearLatch.enter_reacts w.restState
    have base := takes.points.mono (qs := [.selectorFault, tripPoint cause, .overflowRisk])
    refine ⟨_, step, ?_, ((takes.moves.trans stays.moves).trans clears.moves).trans entry.moves, ?_, ?_, fun other => ?_⟩
    · rw [State.enter_pump, pump, show ({ w.pump with latch := none } : Pump).enter w.restState = { w.pump.enter w.restState with latch := none }
        from rfl, rests, Pump.strayAtEntry, still]
      rfl
    · rw [entry.rawOf, clears.rawOf (by cases cause <;> simp [tripPoint]), stays.rawOf, takes.raw]
    · exact ((base.trans (stays.points.mono (by simp))).trans (clears.points.mono (by simp))).trans (entry.points.mono (by simp))
    · rw [entry.rawOf (by cases cause <;> simp [tripPoint]), State.clearLatch_raw begun holds other]
  case keeps =>
    intro operating due given combination off latched trouble
    subst given
    obtain ⟨t, takes, step⟩ := State.exec_contact_auto operating due rfl combination (off.imp_left fun h => by rw [h]; simp)
    obtain ⟨latch, fault, runFb, _⟩ := Pump.kept_of_atRest takes.pump
    have stays := State.enterAuto_latched (s := t.positioned .auto) (old := t.pump.position)
      (.inr (by
        change (t.pump.latch.isSome && !t.pump.faultContact.active && !t.pump.runFb.active) = false
        rw [fault, runFb]
        rcases trouble with h | h <;> simp [h])) (by
        change t.pump.latch.isSome = true
        rw [latch, latched]; rfl)
    rw [stays] at step
    exact ⟨_, step, (State.enter_pump ..).trans (takes.halted ..), takes.finishes .auto (State.enter_reacts _ _)⟩
  case begins =>
    intro started due given combination short
    subst given
    have step := State.exec_contact_of_none due (by rw [State.settleOff_of_short short]; exact combination)
    rw [State.settleOff_of_short short] at step
    exact ⟨_, step, State.deliver_alarmsOnly .., State.deliver_delivers _ _ started⟩
  case again =>
    intro operating due given combination elapsed
    subst given
    have takes := State.settled_takes operating c { active := s.pins.level (contactPin c), timer := .stopped } (.running 0)
    have step := State.exec_contact_of_none due ((State.settled_combination operating c _).trans combination)
    rcases State.settleOff_cases operating with ⟨short, _⟩ | ⟨_, off⟩
    · exact absurd (elapsed.symm.trans short) (by simp)
    have pump := s.settleOff.contactTaken_pump c { active := s.pins.level (contactPin c), timer := .stopped } (.running 0)
    refine ⟨_, step, fun away => ?_, fun stands => ?_, fun auto => ⟨?_, ?_⟩, takes.moves, takes.raw, takes.points⟩
    · rw [pump, off.pump, if_neg away]
      cases c <;> rfl
    · rw [pump, off.pump, if_pos stands]
      cases c <;> rfl
    · rw [State.contactTaken_window, off.window auto]
    · rw [State.contactTaken_link, off.link auto]
  case offAuto =>
    intro operating elapsed auto
    have off := State.takeOff_turnsOff operating
    refine ⟨_, congrArg Host.Outcome.next (if_pos elapsed), off.pump.trans (if_neg (by rw [auto]; simp)), off.window auto, off.link auto,
      off.moves, off.raw, off.points, fun closed takes none room => off.records auto closed takes none (by omega)⟩
  case offHand =>
    intro operating elapsed hand
    have off := State.takeOff_turnsOff operating
    exact ⟨_, congrArg Host.Outcome.next (if_pos elapsed), off.pump.trans (if_neg (by rw [hand]; simp)), off.moves, off.raw⟩
  case short =>
    intro short
    exact ⟨s, congrArg Host.Outcome.next (if_neg (Bool.eq_false_iff.mp short)), rfl⟩

end Sys2Proof.Machine
end

section
/-! A second of the clock: the run count, the monitor tick and what it hands on (R62, R63, R136 to R145). The hours word (O9). -/

namespace Sys2Proof.Machine

/-! ## The run hours through a reaction of the sequencer (R62, R63) -/

/-- The run-seconds count and the hours word's write. -/
def Pump.hoursPart (p : Pump) : Nat × HoursWrite × Bool := (p.runSeconds, p.hoursWrite, p.hoursPending)

namespace State

variable {s : State}

theorem enter_hours (s : State) (st : PumpState) : (s.enter st).pump.hoursPart = s.pump.hoursPart := by rw [enter_pump]; rfl

theorem evalClaim_hours (s : State) : s.evalClaim.pump.hoursPart = s.pump.hoursPart := by
  unfold evalClaim
  split
  · rw [openClaim_pump]; rfl
  · rfl

theorem beginStagger_hours (s : State) : s.beginStagger.pump.hoursPart = s.pump.hoursPart := by
  unfold beginStagger
  split
  · rw [enterStarting_pump]; rfl
  · rfl

theorem enterWaiting_hours (s : State) : s.enterWaiting.pump.hoursPart = s.pump.hoursPart := by
  unfold enterWaiting
  dsimp only
  split
  · split
    · rw [beginStagger_hours, enter_hours]
    · rw [evalClaim_hours, enter_hours]
  · rw [enter_hours, enter_hours]

theorem checkLockout_hours (s : State) : s.checkLockout.pump.hoursPart = s.pump.hoursPart := by
  unfold checkLockout enterIdle
  dsimp only
  split
  · split
    · rw [enterWaiting_hours, enter_hours]
    · rw [enter_hours]
  · rfl

theorem checkLockout_of_other (other : s.pump.state ≠ .lockout) : s.checkLockout = s := if_neg fun h => other h.1

/-! ## The run count (R62) -/

theorem nextRunSeconds_eq (s : State) :
    s.nextRunSeconds =
      if s.started = true ∧ s.pump.runFb.active = true then min 235929599 (s.pump.runSeconds + 1) else s.pump.runSeconds := by
  simp only [nextRunSeconds, Bool.and_eq_true]
  rfl

theorem counted_pump (s : State) :
    s.counted.pump = { s.pump with
      closedSeconds := if s.pump.contactor then satAdd maxCount32 s.pump.closedSeconds 1 else s.pump.closedSeconds
      runSeconds := s.nextRunSeconds } := by
  rw [nextRunSeconds_eq]
  rfl

/-- The state with the clock a second on and the second counted to the pump, before the monitor tick. -/
def secondCounted (s : State) : State := (s.withClock { s.clock with seconds := s.clock.seconds + 1 }).countRun

theorem secondTick_eq (s : State) : s.secondTick = s.secondCounted.monitorTick := rfl

theorem secondCounted_of_level (level : s.hoursRise = false) : s.secondCounted = s.counted := by
  unfold secondCounted countRun
  refine (if_neg (Bool.eq_false_iff.mp (show (s.withClock _).hoursRise = false from level))).trans ?_
  rw [show s.counted = { s with clock := { s.clock with seconds := s.clock.seconds + 1 }, pump := s.counted.pump } from rfl, counted_pump]
  rfl

theorem secondCounted_of_rise (rise : s.hoursRise = true) : s.secondCounted = (s.counted.withPump s.counted.pump.writeHours).evalClaim := by
  unfold secondCounted countRun
  refine (if_pos (show (s.withClock _).hoursRise = true from rise)).trans ?_
  rw [counted_pump]
  rfl

theorem writeHours_state (p : Pump) : p.writeHours.state = p.state ∧ p.writeHours.contactor = p.contactor ∧
    p.writeHours.runFb.active = p.runFb.active ∧ p.writeHours.runSeconds = p.runSeconds := by
  unfold Pump.writeHours
  split <;> exact ⟨rfl, rfl, rfl, rfl⟩

/-- Beyond the second itself, the count moves the sequencer alone: a rise of the run hours can open a claim. -/
theorem secondCounted_reacts (s : State) : s.counted.Reacts s.secondCounted [.overflowRisk] 1 := by
  cases rise : s.hoursRise
  · rw [secondCounted_of_level rise]
    exact .refl ..
  · rw [secondCounted_of_rise rise]
    obtain ⟨state, contactor, runFb, _⟩ := writeHours_state s.counted.pump
    exact (withPump_reacts _ state contactor runFb).trans (evalClaim_reacts _)

/-! ## The monitor tick and its hand-on (R136, R144, R145) -/

theorem offerSpillEvents_reacts (before : SpillState) (s : State) (ps : List AlarmPoint) : s.Reacts (s.offerSpillEvents before) ps 1 := by
  unfold offerSpillEvents
  split
  · exact offer_reacts ..
  · exact offer_reacts ..
  · exact .refl ..

theorem offerSpillEvents_alarmsOnly (before : SpillState) (s : State) : s.AlarmsOnly (s.offerSpillEvents before) := by
  unfold offerSpillEvents
  split
  · exact offer_alarmsOnly ..
  · exact offer_alarmsOnly ..
  · exact .refl s

theorem offerSpillEvents_pump (before : SpillState) (s : State) : (s.offerSpillEvents before).pump = s.pump := by
  rw [offerSpillEvents_alarmsOnly before s]
  rfl

/-- The hand-on of a tick: the events, the lockout's figure where the spill state has changed, the point. -/
def handOnSpill (before : SpillState) (s : State) : State :=
  (if before = s.spill.state then s.offerSpillEvents before else (s.offerSpillEvents before).checkLockout).deliver .spilling
    (SpillState.openRecord s.spill.state)

theorem secondTick_of_weir (weir : s.weirRuns = true) :
    s.secondTick = (s.secondCounted.withSpill (s.spill.tick s.cfg s.counted.stamp s.spillHead)).handOnSpill s.spill.state := by
  have moves := s.secondCounted_reacts.moves
  have runs : s.secondCounted.weirRuns = true := by rw [weirRuns, working, cfg, moves.start]; exact weir
  have ticks : s.secondCounted.spill.tick s.secondCounted.cfg s.secondCounted.stamp s.secondCounted.spillHead =
      s.spill.tick s.cfg s.counted.stamp s.spillHead := by
    simp only [cfg, stamp, spillHead, moves.start, moves.clock, moves.chanX, moves.spill]
    rfl
  have state : s.secondCounted.spill.state = s.spill.state := by rw [moves.spill]; rfl
  rw [secondTick_eq, monitorTick, if_pos runs]
  dsimp only
  rw [ticks, state]
  rfl

theorem secondTick_of_dry (dry : s.weirRuns = false) : s.secondTick = s.secondCounted := by
  rw [secondTick_eq, monitorTick]
  refine if_neg (Bool.eq_false_iff.mp ?_)
  rw [weirRuns, working, cfg, s.secondCounted_reacts.moves.start]
  exact dry

theorem handOnSpill_reacts (before : SpillState) (s : State) : s.Reacts (s.handOnSpill before) [.spilling, .overflowRisk] 5 := by
  have offered : s.Reacts (if before = s.spill.state then s.offerSpillEvents before else (s.offerSpillEvents before).checkLockout)
      [.overflowRisk] 4 :=
    .ite (fun _ => (offerSpillEvents_reacts before s [.overflowRisk]).mono)
      (fun _ => (offerSpillEvents_reacts before s _).trans (checkLockout_reacts _))
  exact (offered.mono (Nat.le_refl 4) (by simp)).trans ((deliver_reacts ..).mono (Nat.le_refl 1) (by simp))

theorem handOnSpill_raw (started : s.started = true) (before : SpillState) :
    (s.handOnSpill before).rawOf .spilling = SpillState.openRecord s.spill.state := by
  refine (deliver_delivers _ _ ?_).1
  split
  · exact (offerSpillEvents_reacts before s []).started started
  · exact ((offerSpillEvents_reacts before s [.overflowRisk]).trans (checkLockout_reacts _)).started started

theorem handOnSpill_hours (before : SpillState) (s : State) : (s.handOnSpill before).pump.hoursPart = s.pump.hoursPart := by
  rw [handOnSpill, deliver_pump]
  split
  · rw [offerSpillEvents_pump]
  · rw [checkLockout_hours, offerSpillEvents_pump]

/-- Where the spill state stays, or no pump is in LOCKOUT, the hand-on is a matter of points and events. -/
theorem handOnSpill_quiet {before : SpillState} (quiet : before = s.spill.state ∨ s.pump.state ≠ .lockout) :
    s.AlarmsOnly (s.handOnSpill before) := by
  have offered := offerSpillEvents_alarmsOnly before s
  have still : (if before = s.spill.state then s.offerSpillEvents before else (s.offerSpillEvents before).checkLockout) =
      s.offerSpillEvents before := by
    rcases quiet with same | other
    · exact if_pos same
    · rw [checkLockout_of_other (by rw [offerSpillEvents_pump]; exact other), ite_self]
  rw [handOnSpill, still]
  exact offered.trans (deliver_alarmsOnly ..)

theorem second_hours (s : State) : s.secondTick.pump.hoursPart = s.secondCounted.pump.hoursPart := by
  cases weir : s.weirRuns
  · rw [secondTick_of_dry weir]
  · rw [secondTick_of_weir weir, handOnSpill_hours]
    rfl

/-! ## The hours word (R63) -/

/-- The second at which the run hours rise counts exactly one more run second. -/
theorem rise_counts (rise : s.hoursRise = true) :
    s.nextRunSeconds = s.pump.runSeconds + 1 ∧ (s.pump.runSeconds + 1) / 3600 = s.pump.runSeconds / 3600 + 1 := by
  have more : s.pump.runSeconds / 3600 < s.nextRunSeconds / 3600 := of_decide_eq_true rise
  have next := s.nextRunSeconds_eq
  split at next <;> omega

theorem writeHours_eq (p : Pump) :
    p.writeHours = { p with hoursWrite := p.writeHours.hoursWrite, hoursPending := p.writeHours.hoursPending } := by
  unfold Pump.writeHours
  split <;> rfl

theorem writeHours_of_idle {p : Pump} (idle : p.hoursWrite = .idle) :
    p.writeHours = { p with hoursWrite := .writing hoursAddress (hoursWord p.runHours) } := by
  rw [Pump.writeHours, idle]

theorem writeHours_of_busy {p : Pump} (busy : p.hoursWrite ≠ .idle) : p.writeHours = { p with hoursPending := true } := by
  unfold Pump.writeHours
  split
  · rfl
  case h_2 idle => exact absurd idle busy

theorem second_clock (s : State) : s.secondTick.clock = { s.clock with seconds := s.clock.seconds + 1 } := by
  cases weir : s.weirRuns
  · rw [secondTick_of_dry weir, s.secondCounted_reacts.moves.clock]
    rfl
  · rw [secondTick_of_weir weir, (handOnSpill_reacts ..).moves.clock]
    exact s.secondCounted_reacts.moves.clock

theorem evalClaim_of_other (other : s.pump.state ≠ .waiting) : s.evalClaim = s := by
  refine if_neg fun claims => other ?_
  exact (mayClaim_iff.mp claims).1

end State

/-- Settles O9. -/
theorem runHoursAreWritten : Obligations.RunHoursAreWritten := by
  intro s ok place word
  refine ⟨?rises, ?ends⟩
  case rises =>
    intro rise
    obtain ⟨one, hour⟩ := State.rise_counts rise
    have hours : s.secondTick.pump.hoursPart = s.counted.pump.writeHours.hoursPart := by
      rw [s.second_hours, State.secondCounted_of_rise rise, State.evalClaim_hours]
      rfl
    obtain ⟨runSeconds, rest⟩ := Prod.mk.inj hours
    obtain ⟨write, pending⟩ := Prod.mk.inj rest
    have counted : s.counted.pump.runSeconds = s.pump.runSeconds + 1 := by rw [State.counted_pump]; exact one
    rw [(State.writeHours_state _).2.2.2, counted] at runSeconds
    have hoursUp : s.counted.pump.runHours = s.pump.runHours + 1 := by rw [Pump.runHours, counted]; exact hour
    refine ⟨_, congrArg Host.Outcome.next (if_pos rise), s.second_clock, runSeconds, ?_, fun idle => ?_, fun busy => ?_, fun other dry => ?_⟩
    · rw [Pump.runHours, runSeconds]; exact hour
    · rw [write, pending, State.writeHours_of_idle (p := s.counted.pump) idle, hoursUp]
      exact ⟨rfl, rfl⟩
    · rw [write, pending, State.writeHours_of_busy (p := s.counted.pump) busy]
      exact ⟨rfl, rfl⟩
    · have still : s.secondTick = s.counted.withPump s.counted.pump.writeHours := by
        rw [State.secondTick_of_dry dry, State.secondCounted_of_rise rise]
        exact State.evalClaim_of_other (by rw [State.withPump_pump, (State.writeHours_state _).1]; exact other)
      obtain ⟨v, hv⟩ : ∃ v, v = s.counted.pump.writeHours := ⟨_, rfl⟩
      have form := State.writeHours_eq s.counted.pump
      rw [← hv] at write pending form still
      rw [write, pending, still, form, State.counted_pump, one]
      rfl
  case ends =>
    intro started writing
    have step : exec (.hoursWriteComplete ok) s = .next ((s.withPump (s.pump.endHoursWrite ok)).deliver .configWrite (!ok)) := by
      refine congrArg Host.Outcome.next ?_
      rw [writing]
    exact ⟨_, step, State.deliver_alarmsOnly .., State.deliver_delivers _ _ started⟩

end Sys2Proof.Machine
end

section
/-! The spill monitor's tick, by its state (O8, O10). -/

namespace Sys2Proof.Machine

namespace SpillMonitor

variable {m : SpillMonitor} {g : Settings} {stamp : Stamp} {r : SpillRecord} {h : Int}

/-! ## The monitor after a tick (R137 to R142) -/

theorem tick_of_none (state : m.state = .none) (working : m.working = none) (head : Option Int) (low : ∀ h, head = some h → h < g.startMargin) :
    m.tick g stamp head = { m with head := head } := by
  cases head with
  | none => simp [tick, rules, account, close, state, working]
  | some h =>
    have below := Int.not_le.mpr (low h rfl)
    simp [tick, rules, account, close, state, working, below]

theorem tick_opens (state : m.state = .none) (reaches : g.startMargin ≤ h) :
    m.tick g stamp (some h) = { m with
      head := some h, state := .confirming, confirmCount := 0
      working := some
        { number := 0, start := stamp, stop := none, elapsed := 0, duration := none, volume := weirFlow g.weirFactor h, peak := h, gap := 0,
          gapFlag := false, cut := false, isOpen := false }
      lastFlow := some (weirFlow g.weirFactor h), lastClamped := weirClamped g.weirFactor h } := by
  have few : satAdd maxCount32 0 (weirFlow g.weirFactor h) = weirFlow g.weirFactor h := by
    have flow : weirFlow g.weirFactor h ≤ 65535 := by
      unfold weirFlow
      split
      · exact Nat.zero_le _
      · exact Nat.min_le_left ..
    simp only [satAdd, maxCount32]
    omega
  simp [tick, rules, account, close, state, reaches, SpillRecord.account, SpillRecord.opened, few]

theorem tick_discards (state : m.state = .confirming) (working : m.working = some r) (low : h < g.startMargin) :
    m.tick g stamp (some h) = { m with head := some h, state := .none, working := none, discards := min 65535 (m.discards + 1) } := by
  have below := Int.not_le.mpr low
  simp [tick, rules, account, close, state, working, below, satInc16, satAdd]

theorem tick_counts (state : m.state = .confirming) (working : m.working = some r) (reaches : g.startMargin ≤ h)
    (few : m.confirmCount + 1 < g.confirmTime) :
    m.tick g stamp (some h) = { m with
      head := some h, confirmCount := m.confirmCount + 1, working := some (r.ticked g.weirFactor h)
      lastFlow := some (weirFlow g.weirFactor h), lastClamped := weirClamped g.weirFactor h } := by
  simp [tick, rules, account, close, state, working, reaches, Nat.not_le.mpr few, SpillRecord.account, SpillRecord.ticked, satAdd, maxCount32]

theorem tick_confirms (state : m.state = .confirming) (working : m.working = some r) (reaches : g.startMargin ≤ h)
    (many : g.confirmTime ≤ m.confirmCount + 1) :
    m.tick g stamp (some h) = { m with
      head := some h, state := .spilling, confirmCount := m.confirmCount + 1
      number := if m.number = 65535 then 1 else m.number + 1
      closed := makeRoom (if m.number = 65535 then [] else m.closed)
      working := some { (r.ticked g.weirFactor h) with number := if m.number = 65535 then 1 else m.number + 1, isOpen := true }
      lastFlow := some (weirFlow g.weirFactor h), lastClamped := weirClamped g.weirFactor h } := by
  simp [tick, rules, account, close, confirm, state, working, reaches, many, SpillRecord.account, SpillRecord.ticked, satAdd, maxCount32]

/-- A tick without a head is a gap second of the working record (R142). -/
theorem tick_gap (working : m.working = some r) (goes : m.state = .confirming ∨ m.state = .spilling ∨ m.state = .ending ∧ m.endCount < g.endTime) :
    m.tick g stamp none = { m with head := none, working := some r.gapped } := by
  rcases goes with state | state | ⟨state, few⟩
  · simp [tick, rules, account, close, state, working, SpillRecord.account, SpillRecord.gapped, satInc16, satAdd, maxCount32]
  · simp [tick, rules, account, close, state, working, SpillRecord.account, SpillRecord.gapped, satInc16, satAdd, maxCount32]
  · simp [tick, rules, account, close, state, working, Nat.not_le.mpr few, SpillRecord.account, SpillRecord.gapped, satInc16, satAdd, maxCount32]

theorem tick_spills (state : m.state = .spilling) (working : m.working = some r) (reaches : g.endMargin ≤ h) :
    m.tick g stamp (some h) = { m with
      head := some h, working := some (r.ticked g.weirFactor h), lastFlow := some (weirFlow g.weirFactor h)
      lastClamped := weirClamped g.weirFactor h } := by
  have above := Int.not_lt.mpr reaches
  simp [tick, rules, account, close, state, working, above, SpillRecord.account, SpillRecord.ticked, satAdd, maxCount32]

theorem tick_ends (state : m.state = .spilling) (working : m.working = some r) (low : h < g.endMargin) (time : 0 < g.endTime) :
    m.tick g stamp (some h) = { m with
      head := some h, state := .ending, endCount := 0
      working := some { (r.ticked g.weirFactor h) with stop := some stamp, duration := some (min 4294967295 (r.elapsed + 1)) }
      lastFlow := some (weirFlow g.weirFactor h), lastClamped := weirClamped g.weirFactor h } := by
  have ending : ¬ g.endTime = 0 := by omega
  simp [tick, rules, account, close, state, working, low, ending, SpillRecord.account, SpillRecord.ticked, satAdd, maxCount32]

theorem tick_endCounts (state : m.state = .ending) (working : m.working = some r) (low : h < g.endMargin) (few : m.endCount + 1 < g.endTime) :
    m.tick g stamp (some h) = { m with
      head := some h, endCount := m.endCount + 1, working := some (r.ticked g.weirFactor h), lastFlow := some (weirFlow g.weirFactor h)
      lastClamped := weirClamped g.weirFactor h } := by
  simp [tick, rules, account, close, state, working, low, Nat.not_le.mpr few, SpillRecord.account, SpillRecord.ticked, satAdd, maxCount32]

theorem tick_returns (state : m.state = .ending) (working : m.working = some r) (reaches : g.endMargin ≤ h) :
    m.tick g stamp (some h) = { m with
      head := some h, state := .spilling, endCount := 0
      working := some { (r.ticked g.weirFactor h) with stop := none, duration := none }
      lastFlow := some (weirFlow g.weirFactor h), lastClamped := weirClamped g.weirFactor h } := by
  have above := Int.not_lt.mpr reaches
  simp [tick, rules, account, close, state, working, above, SpillRecord.account, SpillRecord.ticked, satAdd, maxCount32]

theorem tick_closes (state : m.state = .ending) (working : m.working = some r) (low : h < g.endMargin) (many : g.endTime ≤ m.endCount + 1) :
    m.tick g stamp (some h) = { m with
      head := some h, state := .none, endCount := m.endCount + 1, working := none
      closed := m.closed ++ [{ (r.ticked g.weirFactor h) with isOpen := false }]
      lastFlow := some (weirFlow g.weirFactor h), lastClamped := weirClamped g.weirFactor h } := by
  simp [tick, rules, account, close, state, working, low, many, SpillRecord.account, SpillRecord.ticked, satAdd, maxCount32]

end SpillMonitor

namespace State

variable {s : State}

/-! ## The second of a weir station -/

/-- What a second does at a weir station, by the monitor it leaves. -/
structure Ticks (s t : State) (m : SpillMonitor) : Prop where
  spill : t.spill = m
  raw : t.rawOf .spilling = SpillState.openRecord m.state
  points : s.PointsBut t [.spilling, .overflowRisk]
  moves : (s.counted.withSpill t.spill).Moves t
  quiet : s.hoursRise = false → s.spill.state = m.state ∨ s.pump.state ≠ .lockout → (s.counted.withSpill t.spill).AlarmsOnly t

theorem secondTick_ticks {m : SpillMonitor} (weir : s.weirRuns = true) (ticks : s.spill.tick s.cfg s.counted.stamp s.spillHead = m) :
    s.Ticks s.secondTick m := by
  subst ticks
  have counts := s.secondCounted_reacts
  have step := secondTick_of_weir weir
  obtain ⟨m, hm⟩ : ∃ m, m = s.spill.tick s.cfg s.counted.stamp s.spillHead := ⟨_, rfl⟩
  rw [← hm] at step ⊢
  have hands := handOnSpill_reacts s.spill.state (s.secondCounted.withSpill m)
  rw [← step] at hands
  have spill : s.secondTick.spill = m := hands.moves.spill
  have started : s.started = true := by
    simp only [weirRuns, Bool.and_eq_true] at weir
    exact started_of_working weir.1
  refine ⟨spill, ?_, ?_, ?_, fun level still => ?_⟩
  · rw [step]
    exact handOnSpill_raw (s := s.secondCounted.withSpill m) (counts.started started) _
  · exact (PointsBut.trans (t := s.counted) (.of_alarms rfl _) (counts.points.mono (by simp))).trans hands.points
  · rw [spill]
    obtain ⟨start, clock, pins, chanW, chanX, floats, screen, _, town, pending, table, balance⟩ := counts.moves
    have same : (s.counted.withSpill m).Moves (s.secondCounted.withSpill m) :=
      ⟨start, clock, pins, chanW, chanX, floats, screen, rfl, town, pending, table, balance⟩
    exact same.trans hands.moves
  · rw [spill, step, secondCounted_of_level level]
    exact handOnSpill_quiet (s := s.counted.withSpill m) still

theorem spillHead_of_level {level h : Int} (usable : s.chanX.usable = some level) (head : h = level - s.cfg.crestLevel) :
    s.spillHead = some h := by
  rw [spillHead, usable, head]
  rfl

theorem spillHead_of_none (blind : s.chanX.usable = none) : s.spillHead = none := by
  rw [spillHead, blind]
  rfl

theorem ticks_at_head {m : SpillMonitor} {level h : Int} (weir : s.weirRuns = true) (usable : s.chanX.usable = some level)
    (head : h = level - s.cfg.crestLevel) (tick : s.spill.tick s.cfg s.counted.stamp (some h) = m) : s.Ticks s.secondTick m :=
  secondTick_ticks weir ((congrArg (s.spill.tick s.cfg s.counted.stamp) (spillHead_of_level usable head)).trans tick)

theorem ticks_blind {m : SpillMonitor} (weir : s.weirRuns = true) (blind : s.chanX.usable = none)
    (tick : s.spill.tick s.cfg s.counted.stamp none = m) : s.Ticks s.secondTick m :=
  secondTick_ticks weir ((congrArg (s.spill.tick s.cfg s.counted.stamp) (spillHead_of_none blind)).trans tick)

end State

/-- Settles O8, by the spill state and the head the tick forms. -/
theorem secondPasses : Obligations.SecondPasses := by
  intro s r level h
  refine ⟨?dry, ?opens, ?low, ?blind, ?counts, ?discards, ?confirmGap, ?spills, ?ends, ?spillGap, ?endCounts, ?returns, ?endGap⟩
  case dry =>
    intro dry still
    exact ⟨s.counted, congrArg Host.Outcome.next ((State.secondTick_of_dry dry).trans (State.secondCounted_of_level still)), rfl⟩
  case opens =>
    intro weir state _ usable head reaches
    have t := State.ticks_at_head weir usable head (SpillMonitor.tick_opens state reaches)
    exact ⟨_, rfl, t.spill, t.raw, t.points, t.moves, fun still other => t.quiet still (.inr other)⟩
  case low =>
    intro weir state working usable head below
    have t := State.ticks_at_head weir usable head (SpillMonitor.tick_of_none state working (some h) (by rintro _ ⟨rfl⟩; exact below))
    exact ⟨_, rfl, t.spill, fun still => t.quiet still (.inl rfl), t.points, t.raw.trans (by rw [state]; rfl), t.moves⟩
  case blind =>
    intro weir state working none
    have t := State.ticks_blind weir none (SpillMonitor.tick_of_none state working _ (fun _ h => nomatch h))
    exact ⟨_, rfl, t.spill, fun still => t.quiet still (.inl rfl), t.points, t.raw.trans (by rw [state]; rfl), t.moves⟩
  case counts =>
    intro weir state working usable head reaches few
    have t := State.ticks_at_head weir usable head (SpillMonitor.tick_counts state working reaches few)
    exact ⟨_, rfl, t.spill, fun still => t.quiet still (.inl rfl), t.points, t.raw.trans (by rw [state]; rfl), t.moves⟩
  case discards =>
    intro weir state working usable head below
    have t := State.ticks_at_head weir usable head (SpillMonitor.tick_discards state working below)
    exact ⟨_, rfl, t.spill, t.raw, t.points, t.moves, fun still other => t.quiet still (.inr other)⟩
  case confirmGap =>
    intro weir state working none
    have t := State.ticks_blind weir none (SpillMonitor.tick_gap working (.inl state))
    exact ⟨_, rfl, t.spill, fun still => t.quiet still (.inl rfl), t.points, t.raw.trans (by rw [state]; rfl), t.moves⟩
  case spills =>
    intro weir state working usable head reaches
    have t := State.ticks_at_head weir usable head (SpillMonitor.tick_spills state working reaches)
    exact ⟨_, rfl, t.spill, fun still => t.quiet still (.inl rfl), t.points, t.raw.trans (by rw [state]; rfl), t.moves⟩
  case ends =>
    intro weir state working usable head below time
    have t := State.ticks_at_head weir usable head (SpillMonitor.tick_ends state working below time)
    exact ⟨_, rfl, t.spill, t.raw, t.points, t.moves, fun still other => t.quiet still (.inr other)⟩
  case spillGap =>
    intro weir state working none
    have t := State.ticks_blind weir none (SpillMonitor.tick_gap working (.inr (.inl state)))
    exact ⟨_, rfl, t.spill, fun still => t.quiet still (.inl rfl), t.points, t.raw.trans (by rw [state]; rfl), t.moves⟩
  case endCounts =>
    intro weir state working usable head below few
    have t := State.ticks_at_head weir usable head (SpillMonitor.tick_endCounts state working below few)
    exact ⟨_, rfl, t.spill, fun still => t.quiet still (.inl rfl), t.points, t.raw.trans (by rw [state]; rfl), t.moves⟩
  case returns =>
    intro weir state working usable head reaches
    have t := State.ticks_at_head weir usable head (SpillMonitor.tick_returns state working reaches)
    exact ⟨_, rfl, t.spill, t.raw, t.points, t.moves, fun still other => t.quiet still (.inr other)⟩
  case endGap =>
    intro weir state working none few
    have t := State.ticks_blind weir none (SpillMonitor.tick_gap working (.inr (.inr ⟨state, few⟩)))
    exact ⟨_, rfl, t.spill, fun still => t.quiet still (.inl rfl), t.points, t.raw.trans (by rw [state]; rfl), t.moves⟩

namespace State

variable {s : State}

theorem offerSpillEvents_of_start {r : SpillRecord} (state : s.spill.state = .spilling) (working : s.spill.working = some r) :
    s.offerSpillEvents .confirming = s.offer .spillStart 2 [BitVec.ofNat 32 r.number, r.start.seconds] := by
  unfold offerSpillEvents
  rw [state, working]
  rfl

theorem offerSpillEvents_of_end {r : SpillRecord} (state : s.spill.state = .none) (last : s.spill.closed.getLast? = some r) :
    s.offerSpillEvents .ending = s.offer .spillEnd 0 [BitVec.ofNat 32 (spillEndValue r), BitVec.ofNat 32 r.volume] := by
  unfold offerSpillEvents
  rw [state, last]
  rfl

/-- The event of a tick stands in the queue (R144). -/
theorem secondTick_records {m : SpillMonitor} (weir : s.weirRuns = true) (ticks : s.spill.tick s.cfg s.counted.stamp s.spillHead = m)
    (changes : s.spill.state ≠ m.state) {kind : EventKind} {subject : Nat} {values : List Word}
    (offers : ∀ u : State, u.spill = m → u.offerSpillEvents s.spill.state = u.offer kind subject values) :
    s.Records s.secondTick 12 kind s.own subject values := by
  have step := secondTick_of_weir weir
  rw [ticks] at step
  have counts := s.secondCounted_reacts
  obtain ⟨u, hu⟩ : ∃ u, u = s.secondCounted.withSpill m := ⟨_, rfl⟩
  have spill : u.spill = m := by rw [hu]; rfl
  have same : (s.secondCounted.withSpill m).handOnSpill s.spill.state =
      ((u.offer kind subject values).checkLockout).deliver .spilling (SpillState.openRecord m.state) := by
    rw [← hu, handOnSpill, if_neg (by rw [spill]; exact changes), offers u spill, spill]
  have started : s.started = true := by
    simp only [weirRuns, Bool.and_eq_true] at weir
    exact started_of_working weir.1
  have reacts : (u.offer kind subject values).Reacts (((u.offer kind subject values).checkLockout).deliver .spilling
      (SpillState.openRecord m.state)) [.spilling, .overflowRisk] 4 :=
    ((checkLockout_reacts _).mono (Nat.le_refl 3) (by simp)).trans ((deliver_reacts ..).mono (Nat.le_refl 1) (by simp))
  have before : s.events.Grows 1 u.events := by rw [hu]; exact counts.grows
  have start : u.start = s.start := by rw [hu]; exact counts.moves.start
  rw [step, same]
  exact (records_of_offer (n := 2) 1 started start before).within rfl (.refl _ 0) reacts.grows.1 reacts.moves.clock

end State

/-- Settles O10. -/
theorem spillsOpenAndClose : Obligations.SpillsOpenAndClose := by
  intro s r level h
  refine ⟨?confirms, ?closes⟩
  case confirms =>
    intro weir state working usable head reaches many
    have tick := SpillMonitor.tick_confirms (g := s.cfg) (stamp := s.counted.stamp) state working reaches many
    rw [← State.spillHead_of_level usable head] at tick
    have t := State.secondTick_ticks weir tick
    have due : s.tickConfirms = true := by
      rw [State.tickConfirms, weir, state, State.spillHead_of_level usable head]
      simp [reaches, many]
    have closed : makeRoom (if s.spill.number = 65535 then [] else s.spill.closed) =
        if s.spill.number = 65535 then [] else if 16 ≤ s.spill.closed.length then s.spill.closed.drop 1 else s.spill.closed := by
      split <;> rfl
    have records := State.secondTick_records weir tick (by rw [state]; simp) (kind := .spillStart) (subject := 2)
      (values := [BitVec.ofNat 32 (if s.spill.number = 65535 then 1 else s.spill.number + 1), r.start.seconds]) (by
        intro u spill
        rw [state, State.offerSpillEvents_of_start (by rw [spill]) (by rw [spill])]
        rfl)
    refine ⟨_, congrArg Host.Outcome.next (if_pos due), ?_, ?_, ?_, ?_, ?_, ?_, t.points, ?_, t.moves,
      fun still other => t.quiet still (.inr other)⟩
    · rw [t.spill]
    · rw [t.spill]
    · rw [t.spill]; rfl
    · rw [t.spill]; exact closed
    · rw [t.spill, State.spillHead_of_level usable head]
    · exact t.raw
    · rw [t.spill]; exact records
  case closes =>
    intro weir state working usable head below many
    have tick := SpillMonitor.tick_closes (g := s.cfg) (stamp := s.counted.stamp) state working below many
    rw [← State.spillHead_of_level usable head] at tick
    have t := State.secondTick_ticks weir tick
    have due : s.tickCloses = true := by
      rw [State.tickCloses, weir, state, State.spillHead_of_level usable head]
      simp [below, many]
    have records := State.secondTick_records weir tick (by rw [state]; simp) (kind := .spillEnd) (subject := 0)
      (values := [BitVec.ofNat 32 (min 1048575 (r.duration.getD 0) * 4096 + (max r.peak h).toNat / 10),
        BitVec.ofNat 32 (min 4294967295 (r.volume + weirFlow s.cfg.weirFactor h))]) (by
        intro u spill
        rw [state, State.offerSpillEvents_of_end (by rw [spill]) (by rw [spill]; exact List.getLast?_concat)]
        rfl)
    refine ⟨_, congrArg Host.Outcome.next (if_pos due), ?_, t.raw, t.points, records, t.moves,
      fun still other => t.quiet still (.inr other)⟩
    rw [t.spill, State.spillHead_of_level usable head]
    rfl

end Sys2Proof.Machine
end

section
/-! The Town Line (R159 to R167): a valid request, its answer, and what beside the port it leaves. FETCH (O46), the reads (O47), ACK (O48). -/

namespace Sys2Proof.Machine

namespace State

variable {s : State}

/-! ## A valid request (R160, R167) -/

theorem markValid_alarmsOnly (s : State) : (s.withTown { s.town with silence := .running 0 }).AlarmsOnly s.markValid := deliver_alarmsOnly ..

theorem started_of_hears (hears : s.hearsTown = true) : s.started = true := (Bool.and_eq_true_iff.mp hears).1

theorem markValid_delivers (hears : s.hearsTown = true) : s.Delivers s.markValid .townSilent false :=
  (deliver_delivers (s := s.withTown { s.town with silence := .running 0 }) .townSilent false (started_of_hears hears)).of_alarms rfl

theorem markValid_grows (s : State) : s.events.Grows 1 s.markValid.events :=
  (s.withTown { s.town with silence := .running 0 }).deliver_grows .townSilent false

theorem markValid_town (s : State) : s.markValid.town = { s.town with silence := .running 0 } := by rw [s.markValid_alarmsOnly]; rfl

theorem markValid_start (s : State) : s.markValid.start = s.start := by rw [s.markValid_alarmsOnly]; rfl

/-- A raw condition that has fallen already brings no event. -/
theorem markValid_events_of_low (low : s.rawOf .townSilent = false) : s.markValid.events = s.events := by
  rw [markValid, deliver]
  rw [if_neg fun rises => rises.2 low]
  rfl

theorem serveValid_of_free {address : Byte} {kind : Nat} {toggle : Bool} (r : TownRequest) (free : s.barred kind = none) :
    s.serveValid address kind toggle (some r) = s.serve address r := by
  unfold serveValid
  rw [free]

theorem markValid_barred (s : State) (kind : Nat) : s.markValid.barred kind = s.barred kind := by
  rw [barred, barred, cfg, cfg, markValid_start]

theorem request_of_serves {address : Byte} {r : TownRequest} (serves : s.Serves address r.kind) :
    s.request address r = s.markValid.serve address r := by
  obtain ⟨hears, own, _, free⟩ := serves
  have addressed : s.addressed address r.kind = true := by rw [addressed, own]; simp
  rw [request, if_pos hears, if_pos addressed, serveValid_of_free r ((s.markValid_barred _).trans free)]

/-- What the port alone shows of a valid request: its block, the fall of TOWN_SILENT, and nothing of any other block. -/
structure Answers (s t : State) (town : Town) : Prop where
  town : t.town = town
  only : ({ s with town := t.town } : State).AlarmsOnly t
  low : t.rawOf .townSilent = false
  points : s.PointsBut t [.townSilent]

/-- A valid request that changes the port alone beyond the mark of its validity. -/
theorem answers_of_valid (hears : s.hearsTown = true) {u : State} (only : s.markValid.AlarmsOnly u) (alarms : u.alarms = s.markValid.alarms)
    (town : Town) : s.Answers (u.withTown town) town := by
  obtain ⟨low, points⟩ := markValid_delivers hears
  refine ⟨rfl, ?_, ?_, ?_⟩
  · rw [only, s.markValid_alarmsOnly]
    rfl
  · rw [rawOf, withTown_alarms, alarms]
    exact low
  · rw [PointsBut, withTown_alarms, alarms]
    exact points

/-- The port once a message for the own address has its answer. -/
theorem answer_of_own {u : State} {address : Byte} (start : u.start = s.start) (town : u.town = { s.town with silence := .running 0 })
    (ne : address ≠ 0) (kind : Nat) (toggle : Bool) (payload : List Byte) :
    u.answer address kind toggle payload = u.withTown (s.answered s.cfg.townAddress (BitVec.ofNat 8 kind) toggle payload) := by
  unfold answer answered
  rw [if_neg ne, town, cfg, cfg, start]

end State

/-- Settles O46. -/
theorem fetchEmptiesTheQueue : Obligations.FetchEmptiesTheQueue := by
  intro s address toggle records serves queue
  have request := State.request_of_serves (r := .fetch toggle) serves
  obtain ⟨hears, _, ne, _⟩ := serves
  have fetched : s.markValid.fetchQueue toggle = { s.markValid.events with records := records } := by
    rw [State.fetchQueue, queue, State.markValid_town]
    split <;> rfl
  have low := fun low => State.markValid_events_of_low (s := s) low
  obtain ⟨u, hu⟩ : ∃ u, u = s.markValid.withEvents { s.markValid.events with records := records } := ⟨_, rfl⟩
  have only : s.markValid.AlarmsOnly u := by rw [hu]; rfl
  have alarms : u.alarms = s.markValid.alarms := by rw [hu]; rfl
  have events : u.events = { s.markValid.events with records := records } := by rw [hu]; rfl
  have start : u.start = s.start := by rw [hu]; exact s.markValid_start
  have town : u.town = { s.town with silence := .running 0 } := by rw [hu]; exact s.markValid_town
  have form : s.markValid.serveFetch address toggle =
      match records with
      | r :: _ => (u.withTown { u.town with sent := true, toggle := toggle }).answer address 129 toggle (recordBytes r)
      | [] => (u.withTown { u.town with sent := false }).answer address 160 toggle [] := by
    rw [State.serveFetch, fetched, hu]
    cases records <;> rfl
  cases records with
  | nil =>
    have answer : (u.withTown { u.town with sent := false }).answer address 160 toggle [] =
        u.withTown { s.answered s.cfg.townAddress 160 toggle [] with sent := false } := by
      rw [State.answer, if_neg ne, town, State.cfg, State.withTown_start, start]
      rfl
    have answers := State.answers_of_valid hears only alarms { s.answered s.cfg.townAddress 160 toggle [] with sent := false }
    refine ⟨_, congrArg Host.Outcome.next (request.trans (form.trans answer)), events, (fun _ _ h => nomatch h), fun _ => answers.town, low,
      answers.only, answers.low, answers.points⟩
  | cons r rest =>
    have answer : (u.withTown { u.town with sent := true, toggle := toggle }).answer address 129 toggle (recordBytes r) =
        u.withTown { s.answered s.cfg.townAddress 129 toggle (recordBytes r) with sent := true, toggle := toggle } := by
      rw [State.answer, if_neg ne, town, State.cfg, State.withTown_start, start]
      rfl
    have answers := State.answers_of_valid hears only alarms
      { s.answered s.cfg.townAddress 129 toggle (recordBytes r) with sent := true, toggle := toggle }
    refine ⟨_, congrArg Host.Outcome.next (request.trans (form.trans answer)), events, ?_, (fun h => nomatch h), low, answers.only,
      answers.low, answers.points⟩
    rintro _ _ ⟨rfl, rfl⟩
    exact answers.town

namespace State

variable {s : State}

/-- A request of the own address that leaves the port alone beyond its answer. -/
theorem answers_own {address : Byte} (hears : s.hearsTown = true) (ne : address ≠ 0) (kind : Nat)
    (toggle : Bool) (payload : List Byte) :
    s.Answers (s.markValid.answer address kind toggle payload) (s.answered s.cfg.townAddress (BitVec.ofNat 8 kind) toggle payload) := by
  rw [answer_of_own s.markValid_start s.markValid_town ne]
  exact answers_of_valid hears (.refl _) rfl _

theorem statusPage_of_high {n : Nat} (high : 3 < n) : s.statusPage n = none := by
  unfold statusPage
  split <;> first | rfl | omega

theorem houseBytes_eq (t : PeerTable) : t.houseBytes = (List.finRange 8).flatMap fun p => (t.entry p).houseBytes := by
  have entries : t.list = (List.finRange 8).map t.entry := by
    unfold PeerTable.list PeerTable.entry
    refine List.ext_getElem (by simp) fun i _ _ => ?_
    simp
  rw [PeerTable.houseBytes, entries, List.flatMap_map]

end State

/-- Settles O47. -/
theorem townReadsAreAnswered : Obligations.TownReadsAreAnswered := by
  intro s address page index items r
  refine ⟨?status, ?noPage, ?house, ?spills, ?noSpill, ?restart⟩
  case status =>
    intro serves known
    have request := State.request_of_serves (r := .status page) serves
    obtain ⟨hears, _, ne, _⟩ := serves
    have served : s.markValid.serve address (.status page) = s.markValid.answer address 130 false items := by
      rw [State.serve, State.serveStatus, known]
      rfl
    have answers := State.answers_own hears ne 130 false items
    refine ⟨_, congrArg Host.Outcome.next (request.trans served), answers.town, answers.only, answers.low, answers.points, ?_⟩
    by_contra high
    rw [State.statusPage_of_high (by omega)] at known
    exact nomatch known
  case noPage =>
    intro serves high
    have request := State.request_of_serves (r := .status page) serves
    obtain ⟨hears, _, ne, _⟩ := serves
    have served : s.markValid.serve address (.status page) = s.markValid.answer address 255 false [5] := by
      rw [State.serve, State.serveStatus, State.statusPage_of_high high]
      rfl
    have answers := State.answers_own hears ne 255 false [5]
    exact ⟨_, congrArg Host.Outcome.next (request.trans served), answers.town, answers.only, answers.low⟩
  case house =>
    intro serves
    have request := State.request_of_serves (r := .house) serves
    obtain ⟨hears, _, ne, _⟩ := serves
    have served : s.markValid.serve address .house =
        s.markValid.answer address 131 false ((List.finRange 8).flatMap fun p => (s.table.entry p).houseBytes) := by
      rw [← State.houseBytes_eq, show s.table = s.markValid.table from by rw [s.markValid_alarmsOnly]; rfl]
      rfl
    have answers := State.answers_own hears ne 131 false ((List.finRange 8).flatMap fun p => (s.table.entry p).houseBytes)
    exact ⟨_, congrArg Host.Outcome.next (request.trans served), answers.town, answers.only, answers.low, answers.points⟩
  case spills =>
    intro serves found
    have request := State.request_of_serves (r := .spills index) serves
    obtain ⟨hears, _, ne, _⟩ := serves
    have spill : s.markValid.spill = s.spill := by rw [s.markValid_alarmsOnly]; rfl
    have served : s.markValid.serve address (.spills index) = s.markValid.answer address 132 false (spillBytes s.spill r) := by
      rw [State.serve, State.serveSpills, spill, found]
      rfl
    have answers := State.answers_own hears ne 132 false (spillBytes s.spill r)
    exact ⟨_, congrArg Host.Outcome.next (request.trans served), answers.town, answers.only, answers.low, answers.points⟩
  case noSpill =>
    intro serves beyond
    have request := State.request_of_serves (r := .spills index) serves
    obtain ⟨hears, _, ne, _⟩ := serves
    have spill : s.markValid.spill = s.spill := by rw [s.markValid_alarmsOnly]; rfl
    have served : s.markValid.serve address (.spills index) = s.markValid.answer address 255 false [5] := by
      rw [State.serve, State.serveSpills, spill, List.getElem?_eq_none beyond]
      rfl
    have answers := State.answers_own hears ne 255 false [5]
    exact ⟨_, congrArg Host.Outcome.next (request.trans served), answers.town, answers.only, answers.low⟩
  case restart =>
    intro serves
    have request := State.request_of_serves (r := .restart) serves
    obtain ⟨hears, _, ne, _⟩ := serves
    have served : s.markValid.serve address .restart =
        s.markValid.withTown { s.answered s.cfg.townAddress 136 false [] with restarting := true } := by
      have town := s.markValid_town
      have start := s.markValid_start
      rw [State.serve, State.serveRestart, State.answerOk, State.answer, if_neg ne, town, State.cfg, State.withTown_start, start]
      rfl
    have answers := State.answers_of_valid hears (.refl s.markValid) rfl { s.answered s.cfg.townAddress 136 false [] with restarting := true }
    exact ⟨_, congrArg Host.Outcome.next (request.trans served), answers.town, answers.only, answers.low, answers.points⟩

end Sys2Proof.Machine
end

section
/-! ACK (O48), the checks of a message (O49) and the setting of the clock (O41) (R150, R159, R160, R163, R165). -/

namespace Sys2Proof.Machine

namespace State

variable {s : State}

/-! ## Acknowledges from the Town Line (R150, R163) -/

/-- The record of an acknowledged point stands in the queue (R153). -/
theorem ackPoint_records {i : Fin 25} (started : s.started = true) (unseen : s.alarms.points[i].unseen = true) :
    s.Records (s.ackPoint 2 i) 1 .alarmChange s.own i.val [if s.alarms.points[i].ann = .alert then 2 else 0, 2] := by
  intro takes none room
  have events := ackPoint_events 2 started takes none (by omega) unseen
  have mem := EventQueue.mem_drop_of_push (u := s.events) (r := s.alarmRecord i s.alarms.points[i].ann.onAck 2) (List.prefix_refl _) []
  rw [List.append_nil, ← events] at mem
  exact ⟨_, mem, rfl, rfl, rfl, s.alarmRecord_shown 2 unseen, by rw [ackPoint_clock]; rfl, by rw [ackPoint_clock]; rfl⟩

theorem AlarmsOnly.start {t : State} (h : s.AlarmsOnly t) : t.start = s.start := by rw [h]; rfl

theorem AlarmsOnly.town {t : State} (h : s.AlarmsOnly t) : t.town = s.town := by rw [h]; rfl

/-- A message answered to the own address, once the request has done what else it does to the alarm block. -/
theorem answered_only {u : State} (only : s.markValid.AlarmsOnly u) (town : Town) :
    ({ s with town := (u.withTown town).town } : State).AlarmsOnly (u.withTown town) := by
  rw [only, s.markValid_alarmsOnly]
  rfl

end State

/-- Settles O48. -/
theorem townAcknowledges : Obligations.TownAcknowledges := by
  intro s address point
  refine ⟨?takes, ?refuses⟩
  case takes =>
    intro serves known
    have request := State.request_of_serves (r := .ack point) serves
    obtain ⟨hears, _, ne, _⟩ := serves
    have started := State.started_of_hears hears
    have valid : s.markValid.started = true := by rw [State.started, s.markValid_start]; exact started
    have own : s.markValid.own = s.own := by rw [State.own, s.markValid_start]; rfl
    have before := s.markValid_grows
    have start := s.markValid_start
    by_cases one : point.toNat < 25
    case pos =>
      have all : point ≠ 255 := by rintro rfl; exact absurd one (by decide)
      obtain ⟨i, hi⟩ : ∃ i : Fin 25, i = ⟨point.toNat, one⟩ := ⟨_, rfl⟩
      have place (j : Fin 25) : j.val = point.toNat ↔ j = i := by rw [hi, Fin.ext_iff]
      have only := s.markValid.ackPoint_alarmsOnly 2 i
      have served : s.markValid.serve address (.ack point) =
          (s.markValid.ackPoint 2 i).withTown (s.answered s.cfg.townAddress 133 false []) := by
        rw [hi]
        refine (dif_pos one).trans (State.answer_of_own ?_ ?_ ne 133 false [])
        · rw [State.ackPoint_start]; exact start
        · rw [State.ackPoint_town]; exact s.markValid_town
      refine ⟨_, congrArg Host.Outcome.next (request.trans served), fun j => ?_, rfl, State.answered_only only _, fun j same alert => ?_,
        fun j same returned => ?_, fun j same alert returned => ?_, fun h => absurd h all⟩
      · rw [State.withTown_alarms, State.ackPoint_points]
        simp only [all, false_or, place]
        split
        · cases s.markValid.alarms.points[j].ann <;> rfl
        · rfl
      · obtain rfl := (place j).mp same
        have records := State.ackPoint_records valid (i := j) (by rw [PointState.unseen_eq, alert]; rfl)
        rw [own, if_pos alert] at records
        exact records.within start before (List.prefix_refl _) rfl
      · obtain rfl := (place j).mp same
        have records := State.ackPoint_records valid (i := j) (by rw [PointState.unseen_eq, returned]; rfl)
        rw [own, if_neg (by rw [returned]; simp)] at records
        exact records.within start before (List.prefix_refl _) rfl
      · obtain rfl := (place j).mp same
        rw [State.withTown_events, State.ackPoint_of_seen 2 (by
          rw [PointState.unseen_eq, decide_eq_true_eq]
          exact fun unseen => unseen.elim alert returned)]
    case neg =>
      have all : point = 255 := known.resolve_left one
      have none (j : Fin 25) : j.val ≠ point.toNat := fun same => one (same ▸ j.isLt)
      have only := s.markValid.ackAll_alarmsOnly 2
      have served : s.markValid.serve address (.ack point) =
          (s.markValid.ackAll 2).withTown (s.answered s.cfg.townAddress 133 false []) := by
        rw [State.serve, State.serveAck, dif_neg one, if_pos all]
        refine State.answer_of_own ?_ ?_ ne 133 false []
        · exact only.start.trans start
        · exact only.town.trans s.markValid_town
      refine ⟨_, congrArg Host.Outcome.next (request.trans served), fun j => ?_, rfl, State.answered_only only _,
        fun j same => absurd same (none j), fun j same => absurd same (none j), fun j same => absurd same (none j), fun _ takes empty room => ?_⟩
      · rw [State.withTown_alarms, State.ackAll_points, if_pos (.inl all)]
        cases s.markValid.alarms.points[j].ann <;> rfl
      · have records := s.markValid.ackAll_records 2 valid (by rw [State.takesClass, State.classMask, State.cfg, start]; exact takes) empty room
        have unseen : (fun i : Fin 25 => s.markValid.alarms.points[i].unseen) =
            fun i => decide (s.markValid.alarms.points[i].ann = .alert ∨ s.markValid.alarms.points[i].ann = .returned) :=
          funext fun i => s.markValid.alarms.points[i].unseen_eq
        have shown : s.markValid.ackShown 2 = fun i =>
            (EventKind.alarmChange, s.own, i.val, [if s.markValid.alarms.points[i].ann = .alert then 2 else 0, 2]) := by
          funext i
          rw [State.ackShown, own]
          rfl
        rw [unseen, shown] at records
        rw [State.withTown_events]
        exact records
  case refuses =>
    intro serves beyond notAll
    have request := State.request_of_serves (r := .ack point) serves
    obtain ⟨hears, _, ne, _⟩ := serves
    have served : s.markValid.serve address (.ack point) = s.markValid.answer address 255 false [5] := by
      rw [State.serve, State.serveAck, dif_neg (Nat.not_lt.mpr beyond), if_neg notAll]
      rfl
    have answers := State.answers_own hears ne 255 false [5]
    exact ⟨_, congrArg Host.Outcome.next (request.trans served), answers.town, answers.only, answers.points, answers.low⟩

namespace State

variable {s : State} {bytes rest : List Byte} {address kind flags n : Byte}

/-! ## The rows of R160 -/

theorem exec_noAnswer {framing : Bool} (hears : s.hearsTown = true) (bad : bytes.length < 6 ∨ framing = true ∨ crc bytes ≠ 0) :
    exec (.unservedTownMessage bytes framing false) s = .next s.noAnswer :=
  congrArg Host.Outcome.next ((if_pos ⟨hears, rfl⟩).trans (if_pos bad))

theorem exec_message (hears : s.hearsTown = true) (long : 6 ≤ bytes.length) (check : crc bytes = 0)
    (form : bytes = address :: kind :: flags :: n :: rest) :
    exec (.unservedTownMessage bytes false false) s = .next (
      if s.addressed address kind.toNat = true then
        s.markValid.judgeRequest address kind.toNat n.toNat (flags.getLsbD 0) bytes.length (rest.take n.toNat)
      else s.noAnswer) := by
  refine congrArg Host.Outcome.next ((if_pos ⟨hears, rfl⟩).trans ?_)
  refine (if_neg ?_).trans ?_
  · rintro (short | framing | wrong)
    · omega
    · exact Bool.false_ne_true framing
    · exact wrong check
  · rw [form]

theorem exec_own (hears : s.hearsTown = true) (long : 6 ≤ bytes.length) (check : crc bytes = 0)
    (form : bytes = address :: kind :: flags :: n :: rest) (own : address = s.cfg.townAddress) :
    exec (.unservedTownMessage bytes false false) s =
      .next (s.markValid.judgeRequest address kind.toNat n.toNat (flags.getLsbD 0) bytes.length (rest.take n.toNat)) := by
  rw [exec_message hears long check form, if_pos (by rw [addressed, own]; simp)]

variable {code size : Nat} {toggle : Bool} {payload : List Byte}

theorem judge_tooLong (long : 200 < n.toNat) :
    s.judgeRequest address code n.toNat toggle size payload = s.refuse address (code == 1 && toggle) .tooLong := if_pos long

theorem judge_badRequest (fits : n.toNat ≤ 200) (six : 6 ≤ size) (bad : n.toNat + 6 ≠ size ∨ code = 0 ∨ 8 < code) :
    s.judgeRequest address code n.toNat toggle size payload = s.refuse address (code == 1 && toggle) .badRequest := by
  refine (if_neg (Nat.not_lt.mpr fits)).trans ?_
  by_cases length : n.toNat ≠ size - 6
  · exact if_pos length
  · exact (if_neg length).trans (if_pos (by omega))

theorem judge_valid (fits : n.toNat ≤ 200) (length : n.toNat + 6 = size) (known : 1 ≤ code ∧ code ≤ 8) :
    s.judgeRequest address code n.toNat toggle size payload =
      s.serveValid address code (code == 1 && toggle) (takeRequest code toggle payload) := by
  unfold judgeRequest
  rw [if_neg (Nat.not_lt.mpr fits), if_neg (show ¬ n.toNat ≠ size - 6 by omega), if_neg (show ¬ (code < 1 ∨ 8 < code) by omega)]

theorem serveValid_of_barred {refusal : TownRefusal} (r : Option TownRequest) (barred : s.barred code = some refusal) :
    s.serveValid address code toggle r = s.refuse address toggle refusal := by
  unfold serveValid
  rw [barred]

theorem serveValid_of_none (free : s.barred code = none) : s.serveValid address code toggle none = s.refuse address toggle .badRequest := by
  unfold serveValid
  rw [free]

/-- What a refusal to the own address shows: its code in the port's block and on the line, and nothing of any other block. -/
theorem refused (hears : s.hearsTown = true) (ne : address ≠ 0) (refusal : TownRefusal) :
    ∃ t, s.markValid.refuse address (kind.toNat == 1 && flags.getLsbD 0) refusal = t ∧
      t.town = s.answered s.cfg.townAddress 255 (kind == 1 && flags.getLsbD 0) [BitVec.ofNat 8 (refusalCode refusal)] ∧
      t.townLine = withCheck [s.cfg.townAddress, 255, if kind = 1 ∧ flags.getLsbD 0 = true then 1 else 0, 1,
        BitVec.ofNat 8 (refusalCode refusal)] ∧
      ({ s with town := t.town } : State).AlarmsOnly t ∧ s.PointsBut t [.townSilent] ∧ t.rawOf .townSilent = false := by
  have same : (kind.toNat == 1) = (kind == 1) := by
    rw [Bool.eq_iff_iff, beq_iff_eq, beq_iff_eq, ← BitVec.toNat_inj]
    rfl
  have answers := answers_own hears ne 255 (kind.toNat == 1 && flags.getLsbD 0) [BitVec.ofNat 8 (refusalCode refusal)]
  rw [same] at answers ⊢
  refine ⟨_, rfl, answers.town, ?_, answers.only, answers.points, answers.low⟩
  change ((s.markValid.answer address 255 _ [_]).town.answer.map TownAnswer.bytes).getD [] = _
  rw [answers.town]
  have shown : flag8 (kind == 1 && flags.getLsbD 0) = [if kind = 1 ∧ flags.getLsbD 0 = true then 1 else 0] := by
    by_cases fetch : kind = 1 ∧ flags.getLsbD 0 = true
    · rw [if_pos fetch, fetch.1, fetch.2]; rfl
    · rw [if_neg fetch, show (kind == 1 && flags.getLsbD 0) = false by rw [← Bool.not_eq_true, Bool.and_eq_true, beq_iff_eq]; exact fetch]; rfl
  change withCheck ([s.cfg.townAddress, 255] ++ flag8 (kind == 1 && flags.getLsbD 0) ++ [1] ++ [BitVec.ofNat 8 (refusalCode refusal)]) = _
  rw [shown]
  rfl

/-- A broadcast that is refused marks the port, and gets no answer. -/
theorem refused_broadcast (hears : s.hearsTown = true) (toggle : Bool) (refusal : TownRefusal) :
    s.Answers (s.markValid.refuse 0 toggle refusal) { s.town with silence := .running 0, answer := none } := by
  have town : s.markValid.refuse 0 toggle refusal = s.markValid.withTown { s.town with silence := .running 0, answer := none } := by
    have marked := s.markValid_town
    rw [refuse, answer, if_pos rfl, marked]
  rw [town]
  exact answers_of_valid hears (.refl _) rfl _

end State

theorem commandOf_of_unknown {n : Nat} (out : n = 0 ∨ 5 < n) : commandOf n = none := by
  rcases out with rfl | high
  · rfl
  · obtain ⟨m, rfl⟩ := Nat.exists_eq_add_of_lt high
    rw [show 5 + m + 1 = m + 6 by omega]
    rfl

/-- A payload whose length is not its kind's, or a command code outside its table, makes no request (R160). -/
theorem takeRequest_of_bad {kind : Byte} {toggle : Bool} {payload : List Byte}
    (bad : ((kind = 1 ∨ kind = 3 ∨ kind = 8) ∧ payload.length ≠ 0) ∨ (kind = 2 ∧ 1 < payload.length) ∨
      ((kind = 4 ∨ kind = 5) ∧ payload.length ≠ 1) ∨
      (kind = 6 ∧ (payload.length ≠ 3 ∨ payload.getD 1 0 = 0 ∨ 5 < (payload.getD 1 0).toNat)) ∨ (kind = 7 ∧ payload.length ≠ 4)) :
    takeRequest kind.toNat toggle payload = none := by
  rcases bad with ⟨kind, length⟩ | ⟨rfl, length⟩ | ⟨kind, length⟩ | ⟨rfl, length⟩ | ⟨rfl, length⟩
  · cases payload with
    | nil => exact absurd rfl length
    | cons b l => rcases kind with rfl | rfl | rfl <;> rfl
  · rcases payload with _ | ⟨b0, _ | ⟨b1, l⟩⟩
    · exact absurd length (by simp)
    · exact absurd length (by simp)
    · rfl
  · rcases payload with _ | ⟨b0, _ | ⟨b1, l⟩⟩
    · rcases kind with rfl | rfl <;> rfl
    · exact absurd rfl length
    · rcases kind with rfl | rfl <;> rfl
  · rcases payload with _ | ⟨b0, _ | ⟨b1, _ | ⟨b2, _ | ⟨b3, l⟩⟩⟩⟩
    case cons.cons.cons.nil =>
      have unknown : commandOf b1.toNat = none := by
        refine commandOf_of_unknown ?_
        rcases length with other | zero | high
        · exact absurd rfl other
        · exact .inl (congrArg BitVec.toNat zero)
        · exact .inr high
      change (commandOf b1.toNat).map _ = none
      rw [unknown]
      rfl
    all_goals rfl
  · rcases payload with _ | ⟨b0, _ | ⟨b1, _ | ⟨b2, _ | ⟨b3, _ | ⟨b4, l⟩⟩⟩⟩⟩
    case cons.cons.cons.cons.nil => exact absurd rfl length
    all_goals rfl

/-- Settles O49, row by row. -/
theorem messagesAreChecked : Obligations.MessagesAreChecked := by
  intro s bytes framing address kind flags n rest
  refine ⟨?bad, ?overlaps, ?other, ?long, ?malformed, ?fault, ?remote, ?restart, ?payload, ?broadcast⟩
  case bad =>
    intro hears bad
    exact ⟨_, State.exec_noAnswer hears bad, rfl⟩
  case overlaps => exact ⟨s, congrArg Host.Outcome.next (if_neg fun h => absurd h.2 (by simp)), rfl⟩
  case other =>
    intro hears size check form away notTime
    refine ⟨_, (State.exec_message hears size check form).trans (congrArg Host.Outcome.next (if_neg ?_)), rfl⟩
    have kinds : kind.toNat = 7 ↔ kind = 7 := by rw [← BitVec.toNat_inj]; rfl
    rw [State.addressed, Bool.or_eq_true, Bool.and_eq_true, beq_iff_eq, beq_iff_eq, beq_iff_eq, kinds]
    rintro (own | ⟨zero, time⟩)
    · exact away own
    · exact notTime.elim (· zero) (· time)
  case long =>
    intro hears size check form own ne long
    obtain ⟨t, refuses, shown⟩ := State.refused (kind := kind) (flags := flags) hears ne .tooLong
    exact ⟨t, (State.exec_own hears size check form own).trans (congrArg Host.Outcome.next ((State.judge_tooLong long).trans refuses)), shown⟩
  case malformed =>
    intro hears size check form own ne fits bad
    obtain ⟨t, refuses, shown⟩ := State.refused (kind := kind) (flags := flags) hears ne .badRequest
    refine ⟨t, (State.exec_own hears size check form own).trans (congrArg Host.Outcome.next
      ((State.judge_badRequest fits size ?_).trans refuses)), shown⟩
    exact bad.imp_right fun h => h.imp_left fun zero => congrArg BitVec.toNat zero
  case fault =>
    intro hears size check form own ne length fits phase kinds
    obtain ⟨t, refuses, shown⟩ := State.refused (kind := kind) (flags := flags) hears ne .configFault
    have barred : s.markValid.barred kind.toNat = some .configFault := by
      rw [State.markValid_barred]
      refine if_pos ⟨phase, ?_⟩
      rcases kinds with rfl | rfl | rfl | rfl <;> rfl
    have known : 1 ≤ kind.toNat ∧ kind.toNat ≤ 8 := by rcases kinds with rfl | rfl | rfl | rfl <;> decide
    exact ⟨t, (State.exec_own hears size check form own).trans (congrArg Host.Outcome.next
      ((State.judge_valid fits length known).trans ((State.serveValid_of_barred _ barred).trans refuses))), shown⟩
  case remote =>
    intro hears size check form own ne length fits phase remote kinds
    obtain ⟨t, refuses, shown⟩ := State.refused (kind := kind) (flags := flags) hears ne .notPermitted
    have barred : s.markValid.barred kind.toNat = some .notPermitted := by
      rw [State.markValid_barred]
      refine (if_neg fun h => phase h.1).trans (if_pos ⟨remote, ?_⟩)
      rcases kinds with rfl | rfl | rfl <;> rfl
    have known : 1 ≤ kind.toNat ∧ kind.toNat ≤ 8 := by rcases kinds with rfl | rfl | rfl <;> decide
    exact ⟨t, (State.exec_own hears size check form own).trans (congrArg Host.Outcome.next
      ((State.judge_valid fits length known).trans ((State.serveValid_of_barred _ barred).trans refuses))), shown⟩
  case restart =>
    intro hears size check form own ne length fits phase fixed restarts
    obtain ⟨t, refuses, shown⟩ := State.refused (kind := kind) (flags := flags) hears ne .notPermitted
    have barred : s.markValid.barred kind.toNat = some .notPermitted := by
      rw [State.markValid_barred, restarts]
      refine (if_neg fun h => absurd h.2 (by decide)).trans (if_pos ⟨?_, rfl⟩)
      rw [State.cfg, fixed]
      rfl
    have known : 1 ≤ kind.toNat ∧ kind.toNat ≤ 8 := by rw [restarts]; decide
    exact ⟨t, (State.exec_own hears size check form own).trans (congrArg Host.Outcome.next
      ((State.judge_valid fits length known).trans ((State.serveValid_of_barred _ barred).trans refuses))), shown⟩
  case payload =>
    intro hears size check form own ne length fits free bad
    obtain ⟨t, refuses, shown⟩ := State.refused (kind := kind) (flags := flags) hears ne .badRequest
    have whole : (rest.take n.toNat).length = n.toNat := by
      rw [form] at length
      simp only [List.length_cons] at length
      rw [List.length_take]
      omega
    have number (m : Byte) (differs : n ≠ m) : n.toNat ≠ m.toNat := fun same => differs (BitVec.toNat_inj.mp same)
    have none : takeRequest kind.toNat (flags.getLsbD 0) (rest.take n.toNat) = none := by
      refine takeRequest_of_bad ?_
      rw [whole]
      rcases bad with ⟨h, l⟩ | ⟨h, l⟩ | ⟨h, l⟩ | ⟨h, l⟩ | ⟨h, l⟩
      · exact .inl ⟨h, number 0 l⟩
      · exact .inr (.inl ⟨h, l⟩)
      · exact .inr (.inr (.inl ⟨h, number 1 l⟩))
      · refine .inr (.inr (.inr (.inl ⟨h, ?_⟩)))
        by_cases three : n = 3
        · have place : (rest.take n.toNat).getD 1 0 = rest.getD 1 0 := by
            rw [three]
            simp [List.getD_eq_getElem?_getD]
          rw [place]
          exact .inr (l.resolve_left (not_not.mpr three))
        · exact .inl (number 3 three)
      · exact .inr (.inr (.inr (.inr ⟨h, number 4 l⟩)))
    have known : 1 ≤ kind.toNat ∧ kind.toNat ≤ 8 := by
      rcases bad with ⟨rfl | rfl | rfl, _⟩ | ⟨rfl, _⟩ | ⟨rfl | rfl, _⟩ | ⟨rfl, _⟩ | ⟨rfl, _⟩ <;> decide
    refine ⟨t, (State.exec_own hears size check form own).trans (congrArg Host.Outcome.next
      ((State.judge_valid fits length known).trans ?_)), shown⟩
    rw [none, State.serveValid_of_none ((s.markValid_barred _).trans free), refuses]
  case broadcast =>
    intro hears size check form zero time bad
    subst zero time
    have addressed : s.addressed 0 (7 : Byte).toNat = true := by rw [State.addressed]; simp
    have refuses : ∃ toggle refusal, s.markValid.judgeRequest 0 (7 : Byte).toNat n.toNat (flags.getLsbD 0) bytes.length (rest.take n.toNat) =
        s.markValid.refuse 0 toggle refusal := by
      by_cases long : 200 < n.toNat
      · exact ⟨_, _, State.judge_tooLong long⟩
      by_cases length : n.toNat + 6 = bytes.length
      case neg => exact ⟨_, _, State.judge_badRequest (Nat.not_lt.mp long) size (.inl length)⟩
      have valid := State.judge_valid (s := s.markValid) (address := 0) (n := n) (toggle := flags.getLsbD 0) (payload := rest.take n.toNat)
        (Nat.not_lt.mp long) length (code := (7 : Byte).toNat) (by decide)
      rw [valid]
      cases barred : s.markValid.barred (7 : Byte).toNat with
      | some refusal => exact ⟨_, _, State.serveValid_of_barred _ barred⟩
      | none =>
        have whole : (rest.take n.toNat).length = n.toNat := by
          rw [form] at length
          simp only [List.length_cons] at length
          rw [List.length_take]
          omega
        have four : n ≠ 4 := by
          rw [State.markValid_barred] at barred
          unfold State.barred at barred
          rcases bad with h | h | h | h | h
          · exact absurd h long
          · exact absurd length h
          · rw [if_pos ⟨h, rfl⟩] at barred
            exact nomatch barred
          · split at barred
            · exact nomatch barred
            · rw [if_pos ⟨h, rfl⟩] at barred
              exact nomatch barred
          · exact h
        have none := takeRequest_of_bad (kind := 7) (toggle := flags.getLsbD 0) (payload := rest.take n.toNat)
          (.inr (.inr (.inr (.inr ⟨rfl, by rw [whole]; exact fun same => four (BitVec.toNat_inj.mp same)⟩))))
        rw [none]
        exact ⟨_, _, State.serveValid_of_none barred⟩
    obtain ⟨toggle, refusal, judged⟩ := refuses
    have answers := State.refused_broadcast hears toggle refusal
    exact ⟨_, (State.exec_message hears size check form).trans (congrArg Host.Outcome.next ((if_pos addressed).trans judged)), answers.town,
      answers.only, answers.points, answers.low⟩

end Sys2Proof.Machine
end

section
/-! The setting of the clock (O41), by a TIME request and by a TIME frame (R165). -/

namespace Sys2Proof.Machine

namespace State

variable {s : State}

/-- The state with the clock set and synchronised, TIME_SET not yet offered. -/
def clocked (seconds : Word) (s : State) : State := s.withClock { s.clock with seconds := seconds, sync := true }

theorem setClock_eq (s : State) (source : Station) (subject : Nat) (seconds : Word) :
    s.setClock source subject seconds = (s.clocked seconds).offerFrom source .timeSet subject [s.clock.seconds, seconds] := rfl

theorem setClock_alarmsOnly (s : State) (source : Station) (subject : Nat) (seconds : Word) :
    (s.clocked seconds).AlarmsOnly (s.setClock source subject seconds) := offerFrom_alarmsOnly ..

theorem setClock_events (s : State) (source : Station) (subject : Nat) (seconds : Word) :
    s.setClock source subject seconds = (s.clocked seconds).withEvents (s.setClock source subject seconds).events := by
  obtain ⟨q, offered⟩ := offerFrom_eq source .timeSet subject [s.clock.seconds, seconds] (s.clocked seconds)
  rw [setClock_eq, offered]
  rfl

theorem setClock_alarms (s : State) (source : Station) (subject : Nat) (seconds : Word) :
    (s.setClock source subject seconds).alarms = s.alarms := by
  rw [setClock_eq, offerFrom_alarms]
  rfl

theorem AlarmsOnly.clock {t : State} (h : s.AlarmsOnly t) : t.clock = s.clock := by rw [h]; rfl

theorem AlarmsOnly.link {t : State} (h : s.AlarmsOnly t) : t.link = s.link := by rw [h]; rfl

theorem serveTime_eq (s : State) (address : Byte) (seconds : Word) :
    s.serveTime address seconds =
      ((s.setClock s.own 0 seconds).offerFrame .time).withTown { s.town with
        answer := if address = 0 then none
          else some { address := s.cfg.townAddress, kind := 135, toggle := false, payload := [] } } := by
  have only := s.setClock_alarmsOnly s.own 0 seconds
  rw [serveTime, answerOk, answer]
  simp only [offerFrame, withLink_town, cfg, withLink_start, only.start, only.town]
  rfl

/-- A TIME request that is served, whichever address it came by. -/
theorem time_served {address : Byte} {seconds : Word} (hears : s.hearsTown = true) (addressed : s.addressed address 7 = true)
    (free : s.barred 7 = none) :
    ∃ t, exec (.time address seconds) s = .next t ∧
      t.clock = { s.clock with seconds := seconds, sync := true } ∧
      t.link = s.link.offer .time ∧
      t.town = { s.town with
        silence := .running 0
        answer := if address = 0 then none
          else some { address := s.cfg.townAddress, kind := 135, toggle := false, payload := [] } } ∧
      ({ s with town := t.town, clock := t.clock, link := t.link } : State).AlarmsOnly t ∧
      t.rawOf .townSilent = false ∧ s.PointsBut t [.townSilent] ∧ s.Records t 2 .timeSet s.own 0 [s.clock.seconds, seconds] := by
  obtain ⟨low, points⟩ := markValid_delivers hears
  have marked := s.markValid_alarmsOnly
  have town := s.markValid_town
  have start := s.markValid_start
  have grows := s.markValid_grows
  have request : exec (.time address seconds) s = .next (s.markValid.serveTime address seconds) := by
    refine congrArg Host.Outcome.next ((if_pos hears).trans ((if_pos addressed).trans ?_))
    exact serveValid_of_free _ ((s.markValid_barred 7).trans free)
  rw [serveTime_eq] at request
  obtain ⟨v, hv⟩ : ∃ v, v = s.markValid := ⟨_, rfl⟩
  rw [← hv] at low points marked town start grows request
  have clock : v.clock = s.clock := marked.clock
  have link : v.link = s.link := marked.link
  have own : v.own = s.own := by rw [State.own, start]; rfl
  have sets := v.setClock_alarmsOnly v.own 0 seconds
  have alarms := v.setClock_alarms v.own 0 seconds
  have records := records_of_offerFrom (u := v.clocked seconds) (t := v.setClock v.own 0 seconds) (n := 2) (source := v.own) (kind := .timeSet)
    (subject := 0) (values := [v.clock.seconds, seconds]) (started_of_hears hears) start grows (List.prefix_refl _) sets.clock
  rw [own, clock] at records
  refine ⟨_, request, ?_, ?_, ?_, ?_, ?_, ?_, ?_⟩
  · exact sets.clock.trans (by rw [clocked, clock]; rfl)
  · exact (congrArg (Link.offer TxBody.time) (sets.link.trans link))
  · rw [withTown_town, town, cfg, start]
    rfl
  · rw [own]
    rw [own] at sets
    rw [sets, marked]
    rfl
  · exact (congrArg (fun a : Alarms => a.points[pointIndex .townSilent].raw) alarms).trans low
  · exact ⟨fun i other => (congrArg (fun a : Alarms => a.points[i]) alarms).trans (points.1 i other),
      (congrArg Alarms.ack alarms).trans points.2⟩
  · rw [own]
    exact records

end State

/-- Settles O41. -/
theorem theClockIsSet : Obligations.TheClockIsSet := by
  intro s address sender seconds
  refine ⟨?own, ?broadcast, ?frame⟩
  case own =>
    rintro ⟨hears, own, ne, free⟩
    obtain ⟨t, step, clock, link, town, rest⟩ := State.time_served (address := address) (seconds := seconds) hears
      (by rw [State.addressed, own]; simp) free
    rw [if_neg ne] at town
    exact ⟨t, step, clock, link, town, rest⟩
  case broadcast =>
    intro hears zero _ free
    obtain ⟨t, step, clock, link, town, rest⟩ := State.time_served (address := address) (seconds := seconds) hears
      (by rw [State.addressed, zero]; simp) free
    rw [if_pos zero] at town
    exact ⟨t, step, clock, link, town, rest⟩
  case frame =>
    intro receives other
    have started : s.started = true := by
      simp only [State.canReceive, Bool.and_eq_true] at receives
      exact receives.1.1
    have heard : exec (.timeFrame sender seconds) s =
        .next ((s.withLink { s.link with lastSender := sender }).setClock sender 1 seconds) :=
      congrArg Host.Outcome.next ((if_pos receives).trans (if_neg other))
    refine ⟨_, heard, ?_, ?_⟩
    · exact State.setClock_events ..
    · exact State.records_of_offerFrom (u := (s.withLink { s.link with lastSender := sender }).clocked seconds) started rfl (.refl _ 0)
        (List.prefix_refl _) (State.setClock_alarmsOnly ..).clock

end Sys2Proof.Machine
end

section
/-! Town commands (R60, R61, R132, R164): how each way brings a command to its owner, and what the station shows of it beside the owner's work. -/

namespace Sys2Proof.Machine

/-- The port's block once the command's bearer has been heard: a frame makes its sender the last one (R69). -/
def heardLink (src : CommandSource) (l : Link) : Link :=
  match src with
  | .town _ _ _ => l
  | .bayLink sender _ _ => { l with lastSender := sender }

theorem heardLink_reported (src : CommandSource) (l : Link) : (heardLink src l).reported = heardLink src l.reported := by
  cases src with
  | town => rfl
  | bayLink sender => unfold heardLink Link.reported Link.offer Link.sendingClass; dsimp only; split <;> rfl

theorem Link.reported_lastSender (l : Link) : l.reported.lastSender = l.lastSender := by
  unfold reported offer
  dsimp only
  split <;> rfl

theorem Link.offer_lastSender (l : Link) (b : TxBody) : (l.offer b).lastSender = l.lastSender := by
  unfold offer
  split
  · rfl
  · split
    · split <;> rfl
    · rfl

namespace State

variable {s : State} {src : CommandSource} {code : CommandCode}

/-! ## The state a command's owner meets -/

/-- The command's bearer has been heard: a valid request, or a good frame. -/
def heardBy (src : CommandSource) (s : State) : State :=
  match src with
  | .town _ _ _ => s.markValid
  | .bayLink sender _ _ => s.withLink { s.link with lastSender := sender }

theorem heardBy_eq (s : State) (src : CommandSource) :
    s.heardBy src = { s with
      link := heardLink src s.link, alarms := (s.heardBy src).alarms, events := (s.heardBy src).events, town := (s.heardBy src).town } := by
  cases src with
  | town =>
    have town := s.markValid_town
    have only := s.markValid_alarmsOnly
    unfold heardBy
    rw [town]
    exact only
  | bayLink => rfl

theorem heardBy_pump (s : State) (src : CommandSource) : (s.heardBy src).pump = s.pump := by rw [heardBy_eq]
theorem heardBy_window (s : State) (src : CommandSource) : (s.heardBy src).window = s.window := by rw [heardBy_eq]
theorem heardBy_screen (s : State) (src : CommandSource) : (s.heardBy src).screen = s.screen := by rw [heardBy_eq]
theorem heardBy_table (s : State) (src : CommandSource) : (s.heardBy src).table = s.table := by rw [heardBy_eq]
theorem heardBy_balance (s : State) (src : CommandSource) : (s.heardBy src).balance = s.balance := by rw [heardBy_eq]
theorem heardBy_start (s : State) (src : CommandSource) : (s.heardBy src).start = s.start := by rw [heardBy_eq]
theorem heardBy_link (s : State) (src : CommandSource) : (s.heardBy src).link = heardLink src s.link := by rw [heardBy_eq]

theorem heardBy_grows (s : State) (src : CommandSource) : s.events.Grows 1 (s.heardBy src).events := by
  cases src with
  | town => exact s.markValid_grows
  | bayLink => exact .refl _ _

theorem hears_of_reaches (reaches : s.Reaches src) : s.started = true := by
  cases src with
  | town => exact started_of_hears reaches.2.1.1
  | bayLink =>
    have receives := reaches.2.2.1
    simp only [canReceive, Bool.and_eq_true] at receives
    exact receives.1.1

theorem heardBy_points (reaches : s.Reaches src) : s.PointsBut (s.heardBy src) [.townSilent] := by
  cases src with
  | town => exact (markValid_delivers reaches.2.1.1).2
  | bayLink => exact .of_alarms rfl _

theorem heardBy_acts (s : State) (src : CommandSource) (code : CommandCode) : (s.heardBy src).commandActs code = s.commandActs code := by
  unfold commandActs mayReset rakeLatched screenRuns working cfg
  rw [heardBy_pump, heardBy_screen, heardBy_start]

theorem heardBy_windowLeft (s : State) (src : CommandSource) : (s.heardBy src).windowLeft = s.windowLeft := by
  unfold windowLeft holdsClaim closingWaits
  rw [heardBy_pump, heardBy_window, heardBy_link]
  cases src <;> rfl

theorem heardLink_offer (src : CommandSource) (l : Link) (b : TxBody) : (heardLink src l).offer b = heardLink src (l.offer b) := by
  cases src with
  | town => rfl
  | bayLink sender =>
    have held : ({ l with lastSender := sender } : Link).holds 2 = l.holds 2 := rfl
    unfold heardLink Link.offer Link.sendingClass
    dsimp only
    split
    · rfl
    · split
      · rw [held]
        split <;> rfl
      · rfl

theorem heardLink_withdraw (src : CommandSource) (l : Link) : (heardLink src l).withdrawClaim = heardLink src l.withdrawClaim := by
  cases src with
  | town => rfl
  | bayLink sender => unfold heardLink Link.withdrawClaim; dsimp only; split <;> rfl

theorem heardBy_linkLeft (s : State) (src : CommandSource) (outcome : ClaimOutcome) :
    (s.heardBy src).linkLeft outcome = heardLink src (s.linkLeft outcome) := by
  cases src with
  | town =>
    unfold linkLeft holdsClaim
    rw [heardBy_pump, heardBy_window, heardBy_link]
    rfl
  | bayLink sender mask argument =>
    have close := (s.heardBy (.bayLink sender mask argument)).closeOwnClaim_link outcome
    rw [← close, ← closeOwnClaim_link, ← heardLink_reported]
    refine congrArg Link.reported ?_
    unfold closeOwnClaim
    have holds : (s.heardBy (.bayLink sender mask argument)).holdsClaim = s.holdsClaim := rfl
    simp only [holds]
    split
    case isFalse => rfl
    case isTrue =>
      have window : (s.heardBy (.bayLink sender mask argument)).window = s.window := rfl
      have sending : (s.heardBy (.bayLink sender mask argument)).link.sendingClass = s.link.sendingClass := rfl
      unfold closeClaim
      rw [window, sending]
      split
      · rfl
      · split
        · rfl
        · exact heardLink_withdraw (.bayLink sender mask argument) s.link
      · exact heardLink_offer (.bayLink sender mask argument) s.link _
      · exact heardLink_offer (.bayLink sender mask argument) s.link _

theorem linkLeft_lastSender (s : State) (outcome : ClaimOutcome) : (s.linkLeft outcome).lastSender = s.link.lastSender := by
  rw [← closeOwnClaim_link, Link.reported_lastSender]
  by_cases holds : s.holdsClaim
  case neg => rw [closeOwnClaim_of_none outcome holds]
  rw [closeOwnClaim_of_holds outcome holds]
  by_cases waits : s.closingWaits
  · rw [closeClaim_of_waiting outcome waits]; rfl
  cases claim : s.window.claim
  case none => rw [closeClaim_of_none outcome claim]
  case pending =>
    rw [closeClaim_of_pending outcome claim fun sending => waits ⟨claim, sending⟩, withLink_link, Link.withdrawClaim]
    split <;> rfl
  case holding => rw [closeClaim_of_sent outcome (.inl claim)]; exact Link.offer_lastSender ..
  case granted => rw [closeClaim_of_sent outcome (.inr claim)]; exact Link.offer_lastSender ..

/-! ## A command that reaches its owner (R164) -/

/-- What a command shows once its owner has left the state `v` and the port `l`. -/
structure Applied (s v t : State) (src : CommandSource) (code : CommandCode) (l : Link) : Prop where
  pump : t.pump = v.pump
  window : t.window = v.window
  screen : t.screen = v.screen
  table : t.table = v.table
  balance : t.balance = v.balance
  alarms : t.alarms = v.alarms
  link : t.link = s.relayed src code l
  moves : ({ s with town := t.town, screen := t.screen } : State).Moves t
  records : s.Records t 14 .commandApplied (src.origin s.own) (commandCode code)
    [BitVec.ofNat 32 src.route, BitVec.ofNat 32 (if s.commandActs code then 0 else 1)]
  heard : s.HeardCommand t src

theorem othersMasked_iff (mask : Byte) : s.othersMasked mask = true ↔ ∃ g : Station, g ≠ s.own ∧ mask.getLsbD g.val = true := by
  unfold othersMasked
  rw [List.any_eq_true]
  constructor
  · rintro ⟨g, _, h⟩
    rw [Bool.and_eq_true, bne_iff_ne] at h
    exact ⟨g, h⟩
  · rintro ⟨g, ne, bit⟩
    exact ⟨g, List.mem_finRange g, by rw [Bool.and_eq_true, bne_iff_ne]; exact ⟨ne, bit⟩⟩

/-- The command has been handed to its owner and offered as applied. -/
def ownerDone (src : CommandSource) (code : CommandCode) (s : State) : State := (s.heardBy src).applyCommand (src.origin s.own) src.route code

/-- What the port does last: the answer and the frame of a request, nothing for a frame. -/
def portDone (src : CommandSource) (code : CommandCode) (s v : State) : State :=
  match src with
  | .town address mask argument =>
    (if s.othersMasked mask = true then v.offerFrame (.command mask code argument) else v).answerOk address (.command mask code argument) []
  | .bayLink _ _ _ => v

theorem takeCommand_of_reaches (reaches : s.Reaches src) : s.takeCommand src code = s.portDone src code (s.ownerDone src code) := by
  cases src with
  | town address mask argument =>
    obtain ⟨operating, serves, masked⟩ := reaches
    have start := s.markValid_start
    have own : s.markValid.own = s.own := by rw [State.own, start]; rfl
    refine (request_of_serves (r := .command mask code argument) serves).trans ?_
    refine (if_pos (by rw [State.operating, start]; exact operating)).trans ?_
    unfold serveCommand othersMasked
    rw [State.masked, own, if_pos (show mask.getLsbD s.own.val = true from masked)]
    rfl
  | bayLink sender mask argument =>
    obtain ⟨operating, remote, receives, other, masked⟩ := reaches
    exact (if_pos receives).trans ((if_neg other).trans (if_pos ⟨masked, remote, operating⟩))

theorem ownerDone_eq (s : State) (src : CommandSource) (code : CommandCode) :
    ∃ q, s.ownerDone src code = ((s.heardBy src).handCommand code).withEvents q := by
  obtain ⟨q, offered⟩ := offerFrom_eq (src.origin s.own) .commandApplied (commandCode code)
    [valueOf src.route, valueOf (if (s.heardBy src).commandActs code then 0 else 1)] ((s.heardBy src).handCommand code)
  exact ⟨q, offered⟩

theorem ownerDone_records (started : s.started = true) (start : ((s.heardBy src).handCommand code).start = s.start)
    (grows : (s.heardBy src).events.Grows 12 ((s.heardBy src).handCommand code).events) :
    s.Records (s.ownerDone src code) 14 .commandApplied (src.origin s.own) (commandCode code)
      [BitVec.ofNat 32 src.route, BitVec.ofNat 32 (if s.commandActs code then 0 else 1)] := by
  rw [← heardBy_acts s src code]
  exact records_of_offerFrom (m := 13) started start (((s.heardBy_grows src).trans grows).mono) (List.prefix_refl _) (offerFrom_clock ..)

/-- Beyond the owner's work, a command moves the queue, the port and the Town Line port alone. -/
theorem applied_of_form {v t : State} {l : Link} (form : t = { v with events := t.events, link := t.link, town := t.town })
    (moves : ((s.heardBy src).withScreen v.screen).Moves v) (link : t.link = s.relayed src code l)
    (records : s.Records t 14 .commandApplied (src.origin s.own) (commandCode code)
      [BitVec.ofNat 32 src.route, BitVec.ofNat 32 (if s.commandActs code then 0 else 1)])
    (heard : s.HeardCommand t src) : s.Applied v t src code l := by
  have blocks := s.heardBy_eq src
  obtain ⟨start, clock, pins, chanW, chanX, floats, _, spill, _, pending, table, balance⟩ := moves
  rw [blocks] at start clock pins chanW chanX floats spill pending table balance
  refine ⟨by rw [form], by rw [form], by rw [form], by rw [form], by rw [form], by rw [form], link, ?_, records, heard⟩
  exact ⟨by rw [form]; exact start, by rw [form]; exact clock, by rw [form]; exact pins, by rw [form]; exact chanW,
    by rw [form]; exact chanX, by rw [form]; exact floats, rfl, by rw [form]; exact spill, rfl, by rw [form]; exact pending,
    by rw [form]; exact table, by rw [form]; exact balance⟩

/-- A command that reaches its owner, from what the owner makes of the state it meets. -/
theorem takeCommand_applied {v : State} {l : Link} {ps : List AlarmPoint} (reaches : s.Reaches src)
    (hands : (s.heardBy src).handCommand code = v) (moves : ((s.heardBy src).withScreen v.screen).Moves v)
    (grows : (s.heardBy src).events.Grows 12 v.events) (points : (s.heardBy src).PointsBut v ps) (link : v.link = heardLink src l)
    (sender : l.lastSender = s.link.lastSender) (others : AlarmPoint.townSilent ∉ ps := by simp) :
    s.Applied v (s.takeCommand src code) src code l := by
  have started := hears_of_reaches reaches
  have step := takeCommand_of_reaches (code := code) reaches
  have records := ownerDone_records (code := code) started (by rw [hands]; exact moves.start.trans (s.heardBy_start src)) (by rw [hands]; exact grows)
  obtain ⟨q, done⟩ := s.ownerDone_eq src code
  rw [hands] at done
  have silent := points.rawOf others
  rw [step]
  cases src with
  | town address mask argument =>
    obtain ⟨_, ⟨hears, _, ne, _⟩, _⟩ := reaches
    obtain ⟨u, hu⟩ : ∃ u, u = s.ownerDone (.town address mask argument) code := ⟨_, rfl⟩
    rw [← hu] at done records
    have town : v.town = { s.town with silence := .running 0 } := moves.town.trans s.markValid_town
    have start : v.start = s.start := moves.start.trans s.markValid_start
    have framed : (if s.othersMasked mask = true then u.offerFrame (.command mask code argument) else u) =
        u.withLink (s.relayed (.town address mask argument) code l) := by
      have same : u.link = l := by rw [done]; exact link
      by_cases others : s.othersMasked mask = true
      · rw [if_pos others, relayed, if_pos (s.othersMasked_iff mask |>.mp others), offerFrame, same]
      · rw [if_neg others, relayed, if_neg (fun h => others ((s.othersMasked_iff mask).mpr h)), ← same]
        rfl
    have finish : s.portDone (.town address mask argument) code u =
        (u.withLink (s.relayed (.town address mask argument) code l)).withTown (s.answered s.cfg.townAddress 134 false []) := by
      unfold portDone
      dsimp only
      rw [framed]
      exact answer_of_own (by rw [done]; exact start) (by rw [done]; exact town) ne 134 false []
    rw [← hu, finish]
    refine applied_of_form (by rw [done]; rfl) moves rfl records ⟨rfl, ?_, ?_⟩
    · rw [done]
      exact silent.trans (markValid_delivers hears).1
    · rw [withTown_link, withLink_link, relayed]
      split
      · rw [Link.offer_lastSender, sender]
      · exact sender
  | bayLink number mask argument =>
    obtain ⟨u, hu⟩ : ∃ u, u = s.ownerDone (.bayLink number mask argument) code := ⟨_, rfl⟩
    rw [← hu] at done records
    have still : s.portDone (.bayLink number mask argument) code u = u := rfl
    rw [← hu, still]
    have port : u.link = s.relayed (.bayLink number mask argument) code l := by rw [done]; exact link
    refine applied_of_form (by rw [done]; rfl) moves port records ⟨?_, ?_, by rw [port]; rfl⟩
    · rw [done]; exact moves.town
    · rw [done]; exact silent

end State

end Sys2Proof.Machine
end

section
/-! Town commands that do not reach their owner (R160, R164), and RESET_TRIP (O31). -/

namespace Sys2Proof.Machine

namespace State

variable {s : State} {code : CommandCode} {address mask argument : Byte} {sender : Station}

/-! ## Commands that do not reach (R160, R164) -/

theorem valid_delivers (hears : s.hearsTown = true) (l : Link) (town : Town) :
    s.Delivers ((s.markValid.withLink l).withTown town) .townSilent false := by
  obtain ⟨low, points⟩ := markValid_delivers hears
  exact ⟨low, points⟩

theorem valid_alarmsOnly (s : State) (l : Link) (town : Town) :
    ({ s with town := town, link := l } : State).AlarmsOnly ((s.markValid.withLink l).withTown town) := by
  rw [s.markValid_alarmsOnly]
  rfl

/-- A request whose mask lacks the own bit is answered, and leaves the owner alone. -/
theorem takeCommand_unmasked (serves : s.Serves address 6) (operating : s.operating = true) (unmasked : mask.getLsbD s.own.val = false) :
    s.takeCommand (.town address mask argument) code =
      (s.markValid.withLink (s.relayed (.town address mask argument) code s.link)).withTown
        (s.answered s.cfg.townAddress 134 false []) := by
  have start := s.markValid_start
  have own : s.markValid.own = s.own := by rw [State.own, start]; rfl
  have town := s.markValid_town
  have link := s.markValid_alarmsOnly.link
  have ne := serves.2.2.1
  refine (request_of_serves (r := .command mask code argument) serves).trans ?_
  refine (if_pos (by rw [State.operating, start]; exact operating)).trans ?_
  have framed : s.markValid.serveCommand mask code argument =
      s.markValid.withLink (s.relayed (.town address mask argument) code s.link) := by
    have others : s.markValid.othersMasked mask = s.othersMasked mask := by rw [othersMasked, othersMasked, own]
    unfold serveCommand
    dsimp only
    rw [masked, own, unmasked, if_neg Bool.false_ne_true, others]
    by_cases some : s.othersMasked mask = true
    · rw [if_pos some, relayed, if_pos ((s.othersMasked_iff mask).mp some), offerFrame, link]
      rfl
    · rw [if_neg some, relayed, if_neg (fun h => some ((s.othersMasked_iff mask).mpr h))]
      change s.markValid = s.markValid.withLink s.link
      have same : s.markValid.link = s.link := link
      rw [← same]
      rfl
  rw [framed]
  exact answer_of_own (u := s.markValid.withLink (s.relayed (.town address mask argument) code s.link)) start town ne 134 false []

/-- A request is refused in LISTENING. -/
theorem takeCommand_listening (serves : s.Serves address 6) (listening : s.operating = false) :
    s.takeCommand (.town address mask argument) code =
      (s.markValid.withLink s.link).withTown (s.answered s.cfg.townAddress 255 false [3]) := by
  have start := s.markValid_start
  have town := s.markValid_town
  have link := s.markValid_alarmsOnly.link
  have ne := serves.2.2.1
  refine (request_of_serves (r := .command mask code argument) serves).trans ?_
  refine (if_neg (by rw [State.operating, start]; exact Bool.eq_false_iff.mp listening)).trans ?_
  refine (answer_of_own start town ne 255 false [3]).trans ?_
  have same : s.markValid.link = s.link := link
  rw [← same]
  rfl

/-- A request is refused in CONFIG_FAULT, and while remote operation is disabled. -/
theorem takeCommand_barred (hears : s.hearsTown = true) (own : address = s.cfg.townAddress) (ne : address ≠ 0)
    (bars : s.start.phase = .configFault ∨ s.cfg.remote = false) :
    s.takeCommand (.town address mask argument) code =
      (s.markValid.withLink s.link).withTown
        (s.answered s.cfg.townAddress 255 false [if s.start.phase = .configFault then 4 else 3]) := by
  have start := s.markValid_start
  have town := s.markValid_town
  have same : s.markValid.link = s.link := s.markValid_alarmsOnly.link
  have barred : s.markValid.barred 6 = some (if s.start.phase = .configFault then .configFault else .notPermitted) := by
    rw [markValid_barred]
    unfold State.barred
    by_cases fault : s.start.phase = .configFault
    · rw [if_pos ⟨fault, rfl⟩, if_pos fault]
    · rw [if_neg fun h => fault h.1, if_pos ⟨bars.resolve_left fault, rfl⟩, if_neg fault]
  refine (if_pos hears).trans ((if_pos (by rw [addressed, own]; simp)).trans ?_)
  refine (serveValid_of_barred _ barred).trans ?_
  refine (answer_of_own start town ne 255 false _).trans ?_
  rw [← same]
  split <;> rfl

theorem takeCommand_foreign (hears : s.hearsTown = true) (foreign : address ≠ s.cfg.townAddress) :
    s.takeCommand (.town address mask argument) code = { s with town := { s.town with answer := none } } := by
  refine (if_pos hears).trans (if_neg ?_)
  rw [addressed]
  simp [foreign, TownRequest.kind]

theorem takeCommand_unreached (receives : s.canReceive = true) (other : sender ≠ s.own)
    (unreached : ¬ (mask.getLsbD s.own.val = true ∧ s.cfg.remote = true ∧ s.operating = true)) :
    s.takeCommand (.bayLink sender mask argument) code = { s with link := { s.link with lastSender := sender } } :=
  (if_pos receives).trans ((if_neg other).trans (if_neg unreached))

theorem takeCommand_deaf (deaf : s.canReceive = false) : s.takeCommand (.bayLink sender mask argument) code = s :=
  if_neg (Bool.eq_false_iff.mp deaf)

/-! ## RESET_TRIP (R60) -/

theorem Moves.withOwnScreen {u v : State} (h : u.Moves v) : (u.withScreen v.screen).Moves v :=
  ⟨h.start, h.clock, h.pins, h.chanW, h.chanX, h.floats, rfl, h.spill, h.town, h.pending, h.table, h.balance⟩

/-- A command to the sequencer that reaches it, from what the sequencer makes of the state it meets. -/
theorem takeCommand_sequenced {src : CommandSource} {u v : State} {l : Link} {ps : List AlarmPoint} {n : Nat} (reaches : s.Reaches src)
    (hu : u = s.heardBy src) (hands : u.handCommand code = v) (reacts : u.Reacts v ps n) (link : v.link = heardLink src l)
    (sender : l.lastSender = s.link.lastSender) (few : n ≤ 12 := by omega) (others : AlarmPoint.townSilent ∉ ps := by simp) :
    s.Applied v (s.takeCommand src code) src code l ∧
      ({ s with town := (s.takeCommand src code).town } : State).Moves (s.takeCommand src code) ∧
      s.PointsBut (s.takeCommand src code) (ps ++ [.townSilent]) := by
  subst hu
  have applied := takeCommand_applied (v := v) (ps := ps) reaches hands reacts.moves.withOwnScreen (reacts.grows.mono few) reacts.points link
    sender others
  have moves := applied.moves
  rw [applied.screen, reacts.moves.screen, s.heardBy_screen] at moves
  refine ⟨applied, moves, ?_⟩
  rw [PointsBut, applied.alarms]
  exact ((heardBy_points reaches).mono (List.subset_append_right ..)).trans (reacts.points.mono (List.subset_append_left ..))

/-- A command that leaves the sequencer as it is. -/
theorem takeCommand_idle {src : CommandSource} (reaches : s.Reaches src) (hands : (s.heardBy src).handCommand code = s.heardBy src) :
    s.Applied (s.heardBy src) (s.takeCommand src code) src code s.link ∧
      ({ s with town := (s.takeCommand src code).town } : State).Moves (s.takeCommand src code) ∧
      s.PointsBut (s.takeCommand src code) [.townSilent] :=
  takeCommand_sequenced (ps := []) (n := 0) reaches rfl hands (.refl ..) (s.heardBy_link src) rfl

theorem clearLatch_window {cause : TripCause} (latch : s.pump.latch = some cause) : s.clearLatch.window = s.window := by
  rw [clearLatch_of_some latch]
  split
  · rfl
  · rw [deliver_window]; rfl

theorem clearLatch_link {cause : TripCause} (latch : s.pump.latch = some cause) : s.clearLatch.link = s.link := by
  rw [clearLatch_of_some latch]
  split
  · rfl
  · rw [deliver_link]; rfl

/-- What a trip reset makes of a TRIPPED pump whose trouble has gone. -/
theorem resetTrip_of_tripped {cause : TripCause} (tripped : s.pump.state = .tripped) (latch : s.pump.latch = some cause)
    (well : s.pump.faultContact.active = false) (still : s.pump.runFb.active = false) : s.resetTrip = s.clearLatch.completeStop := by
  have resets : s.mayReset = true := by rw [mayReset, latch, well, still]; rfl
  refine (if_pos resets).trans (if_pos ?_)
  rw [clearLatch_pump latch]
  exact tripped

theorem resetTrip_of_none (none : s.mayReset = false) : s.resetTrip = s := if_neg (Bool.eq_false_iff.mp none)

theorem mayReset_eq_false (stays : s.pump.latch = none ∨ s.pump.faultContact.active = true ∨ s.pump.runFb.active = true) :
    s.mayReset = false := by
  rw [mayReset]
  rcases stays with h | h | h <;> simp [h]

end State

/-- Settles O31. -/
theorem resetTripClearsTheLatch : Obligations.ResetTripClearsTheLatch := by
  intro s src cause address mask argument sender
  refine ⟨?clears, ?stays, ?unmasked, ?listening, ?barred, ?foreign, ?unreached, ?deaf⟩
  case clears =>
    intro reaches tripped latch well still
    have pump := s.heardBy_pump src
    have window := s.heardBy_window src
    have link := s.heardBy_link src
    have started := State.hears_of_reaches reaches
    obtain ⟨u, hu⟩ : ∃ u, u = s.heardBy src := ⟨_, rfl⟩
    have begun : u.started = true := by rw [hu, State.started, s.heardBy_start]; exact started
    rw [← hu] at pump window link
    have holds : u.pump.latch = some cause := by rw [pump]; exact latch
    have cleared := State.clearLatch_pump holds
    have clears := State.clearLatch_reacts holds
    have fresh : u.clearLatch.pump.faultContact.active = false := by rw [cleared, pump]; exact well
    have rests := State.resetTrip_of_tripped (s := u) (by rw [pump]; exact tripped) holds (by rw [pump]; exact well) (by rw [pump]; exact still)
    have reacts := (clears.mono (qs := [tripPoint cause, .overflowRisk]) (Nat.le_refl 1) (by simp)).trans
      ((State.completeStop_reacts (s := u.clearLatch)).mono (Nat.le_refl 3) (by simp))
    obtain ⟨applied, moves, shown⟩ := State.takeCommand_sequenced (code := .resetTrip) (l := s.link.reported) reaches hu rests reacts
      (by rw [State.completeStop_link (clears.started begun), State.clearLatch_link holds, link, heardLink_reported])
      (Link.reported_lastSender _) (by omega) (by cases cause <;> simp [tripPoint])
    have outcome : s.commandActs .resetTrip = true := by
      change s.mayReset = true
      rw [State.mayReset, latch, well, still]
      rfl
    have records := applied.records
    rw [outcome] at records
    refine ⟨_, rfl, applied.pump.trans ?_, fun other => ?_, shown, records, applied.link, applied.window.trans ?_, moves, applied.heard⟩
    · rw [State.completeStop_pump_of_well fresh, cleared, pump, Pump.strayAtEntry, still]
      rfl
    · have raw := State.clearLatch_raw begun holds other
      rw [State.rawOf, applied.alarms]
      exact (State.completeStop_reacts (s := u.clearLatch) |>.rawOf (by cases cause <;> simp [tripPoint])).trans raw
    · rw [State.completeStop_window, State.clearLatch_window holds, window]
  case stays =>
    intro reaches stays
    have none : s.mayReset = false := State.mayReset_eq_false stays
    have still : (s.heardBy src).resetTrip = s.heardBy src := by
      refine State.resetTrip_of_none ?_
      rw [State.mayReset, s.heardBy_pump]
      exact none
    obtain ⟨applied, moves, shown⟩ := State.takeCommand_idle (code := .resetTrip) reaches still
    have outcome : s.commandActs .resetTrip = false := none
    have records := applied.records
    rw [outcome] at records
    exact ⟨_, rfl, applied.pump.trans (s.heardBy_pump src), applied.window.trans (s.heardBy_window src),
      applied.table.trans (s.heardBy_table src), applied.balance.trans (s.heardBy_balance src), shown, records, applied.link, moves,
      applied.heard⟩
  case unmasked =>
    intro serves operating unmasked
    exact ⟨_, congrArg Host.Outcome.next (State.takeCommand_unmasked serves operating unmasked), rfl, rfl, s.valid_alarmsOnly ..,
      State.valid_delivers serves.1 .., rfl⟩
  case listening =>
    intro serves listening
    exact ⟨_, congrArg Host.Outcome.next (State.takeCommand_listening serves listening), rfl, rfl, s.valid_alarmsOnly ..,
      State.valid_delivers serves.1 .., rfl⟩
  case barred =>
    intro hears own ne bars
    exact ⟨_, congrArg Host.Outcome.next (State.takeCommand_barred hears own ne bars), rfl, rfl, s.valid_alarmsOnly ..,
      State.valid_delivers hears ..⟩
  case foreign =>
    intro hears foreign
    exact ⟨_, congrArg Host.Outcome.next (State.takeCommand_foreign hears foreign), rfl⟩
  case unreached =>
    intro receives other unreached
    exact ⟨_, congrArg Host.Outcome.next (State.takeCommand_unreached receives other unreached), rfl⟩
  case deaf =>
    intro deaf
    exact ⟨_, congrArg Host.Outcome.next (State.takeCommand_deaf deaf), rfl⟩

end Sys2Proof.Machine
end

section
/-! INHIBIT and RELEASE (O32): R57, R61, R65. -/

namespace Sys2Proof.Machine

/-- The state INHIBIT leads to (R57, R61). -/
def Pump.inhibitGoes (p : Pump) : PumpState :=
  match p.state with
  | .lockout | .idle | .waiting | .claiming => if p.faultContact.active then .tripped else .inhibited
  | .starting | .running => if p.runFb.active then .stopping else if p.faultContact.active then .tripped else .inhibited
  | st => st

namespace State

variable {s : State}

/-- The inhibit flag has been set, or cleared. -/
def flagged (inhibit : Bool) (s : State) : State := s.withPump { s.pump with inhibit := inhibit }

theorem flagged_reacts (s : State) (inhibit : Bool) (ps : List AlarmPoint) : s.Reacts (s.flagged inhibit) ps 0 := withPump_reacts ps

theorem flagged_windowLeft (s : State) (inhibit : Bool) : (s.flagged inhibit).windowLeft = s.windowLeft := windowLeft_of_same rfl rfl rfl

theorem flagged_linkLeft (s : State) (inhibit : Bool) (outcome : ClaimOutcome) : (s.flagged inhibit).linkLeft outcome = s.linkLeft outcome :=
  linkLeft_of_same outcome rfl rfl rfl

/-- How a pump INHIBIT takes out of a state of AUTO leaves that state. -/
structure LeavesDuty (s t : State) : Prop where
  goes : t.pump.state = s.pump.inhibitGoes
  moved : s.pump.state ≠ t.pump.state
  inhibit : t.pump.inhibit = true
  contactor : t.pump.contactor = false
  window : t.window = s.windowLeft
  link : t.link = s.linkLeft .withdrawn
  reacts : s.Reacts t [.overflowRisk] 5

/-- A pump in duty without its contactor closed is taken to rest, its claim closed. -/
theorem inhibitPump_of_duty (free : s.pump.inhibit = false)
    (duty : s.pump.state = .lockout ∨ s.pump.state = .idle ∨ s.pump.state = .waiting ∨ s.pump.state = .claiming) :
    s.inhibitPump = ((s.flagged true).closeOwnClaim .withdrawn).enterRest .inhibited := by
  unfold inhibitPump
  rw [if_neg (Bool.eq_false_iff.mp free)]
  have none (st : PumpState) (state : s.pump.state = st) (other : st ≠ .claiming ∧ st ≠ .starting) :
      (s.flagged true).closeOwnClaim .withdrawn = s.flagged true :=
    closeOwnClaim_of_none _ (not_holdsClaim_of_state (s := s.flagged true) state other)
  rcases duty with state | state | state | state
  · rw [none _ state (by decide), state]; rfl
  · rw [none _ state (by decide), state]; rfl
  · rw [none _ state (by decide), state]; rfl
  · rw [state]; rfl

theorem inhibitPump_of_closed (free : s.pump.inhibit = false) (closed : s.pump.state = .starting ∨ s.pump.state = .running) :
    s.inhibitPump = (s.flagged true).stopPump .inhibit := by
  unfold inhibitPump
  rw [if_neg (Bool.eq_false_iff.mp free)]
  rcases closed with state | state <;> (rw [state]; rfl)

/-- In every other state INHIBIT sets its flag alone. -/
theorem inhibitPump_of_other (free : s.pump.inhibit = false)
    (other : ¬ (s.pump.state = .lockout ∨ s.pump.state = .idle ∨ s.pump.state = .waiting ∨ s.pump.state = .claiming))
    (open_ : ¬ (s.pump.state = .starting ∨ s.pump.state = .running)) : s.inhibitPump = s.flagged true := by
  unfold inhibitPump
  rw [if_neg (Bool.eq_false_iff.mp free)]
  dsimp only
  split
  case h_7 => rfl
  all_goals simp_all

theorem leavesDuty_of_duty (started : s.started = true)
    (duty : s.pump.state = .lockout ∨ s.pump.state = .idle ∨ s.pump.state = .waiting ∨ s.pump.state = .claiming) :
    s.LeavesDuty (((s.flagged true).closeOwnClaim .withdrawn).enterRest .inhibited) := by
  have reacts := ((s.flagged_reacts true [.overflowRisk]).trans ((s.flagged true).closeOwnClaim_reacts .withdrawn [.overflowRisk])).trans
    (enterRest_reacts _ .inhibited)
  have begun : ((s.flagged true).closeOwnClaim .withdrawn).started = true := by
    rw [State.started, (closeOwnClaim_moves .withdrawn (s.flagged true)).start]
    exact started
  have pump := closeOwnClaim_pump .withdrawn (s.flagged true)
  have window : (((s.flagged true).closeOwnClaim .withdrawn).enterRest .inhibited).window = s.windowLeft := by
    rw [enterRest_window (by decide), closeOwnClaim_window, flagged_windowLeft]
  have link : (((s.flagged true).closeOwnClaim .withdrawn).enterRest .inhibited).link = s.linkLeft .withdrawn := by
    rw [enterRest_link begun (by decide), closeOwnClaim_link, flagged_linkLeft]
  have moved (st : PumpState) (rest : st = .inhibited ∨ st = .tripped) : s.pump.state ≠ st := by
    rcases duty with h | h | h | h <;> rcases rest with rfl | rfl <;> rw [h] <;> decide
  have goes : s.pump.inhibitGoes = if s.pump.faultContact.active then .tripped else .inhibited := by
    rcases duty with h | h | h | h <;> rw [Pump.inhibitGoes, h]
  cases fault : s.pump.faultContact.active
  · have rests := enterRest_pump_of_well (s := (s.flagged true).closeOwnClaim .withdrawn) (st := .inhibited) (by rw [pump]; exact fault)
    rw [pump] at rests
    refine ⟨?_, ?_, ?_, ?_, window, link, reacts.mono⟩
    · rw [rests, goes, fault]; rfl
    · rw [rests]; exact moved _ (.inl rfl)
    · rw [rests]; rfl
    · rw [rests]; rfl
  · have rests := enterRest_pump_of_fault (s := (s.flagged true).closeOwnClaim .withdrawn) (st := .inhibited) (by decide) (by rw [pump]; exact fault)
    rw [pump] at rests
    refine ⟨?_, ?_, ?_, ?_, window, link, reacts.mono⟩
    · rw [rests, goes, fault]; rfl
    · rw [rests]; exact moved _ (.inr rfl)
    · rw [rests]; rfl
    · rw [rests]; rfl

theorem leavesDuty_of_closed (started : s.started = true) (closed : s.pump.state = .starting ∨ s.pump.state = .running) :
    s.LeavesDuty ((s.flagged true).stopPump .inhibit) := by
  have reacts := (s.flagged_reacts true [.overflowRisk]).trans (stopPump_reacts (s := s.flagged true) .inhibit)
  have state := stopPump_state (s.flagged true) .inhibit
  have goes : s.pump.inhibitGoes =
      if s.pump.runFb.active then .stopping else if s.pump.faultContact.active then .tripped else .inhibited := by
    rcases closed with h | h <;> rw [Pump.inhibitGoes, h]
  refine ⟨by rw [state, goes]; rfl, ?_, ?_, (stopPump_open ..).1, ?_, ?_, reacts.mono⟩
  · have states := stopPump_states (s.flagged true) .inhibit
    intro same
    rw [← same] at states
    rcases closed with h | h <;> rw [h] at states <;> simp at states
  · rw [(stopPump_keeps (s.flagged true) .inhibit).2]; rfl
  · rw [stopPump_window, flagged_windowLeft]
  · rw [stopPump_link (s := s.flagged true) started, flagged_linkLeft]

/-- INHIBIT with the flag clear takes a pump in duty out of it, and sets the flag alone otherwise. -/
theorem inhibitPump_cases (started : s.started = true) (free : s.pump.inhibit = false) :
    s.LeavesDuty s.inhibitPump ∨ (s.inhibitPump = s.flagged true ∧ s.pump.inhibitGoes = s.pump.state) := by
  by_cases duty : s.pump.state = .lockout ∨ s.pump.state = .idle ∨ s.pump.state = .waiting ∨ s.pump.state = .claiming
  · rw [inhibitPump_of_duty free duty]
    exact .inl (leavesDuty_of_duty started duty)
  by_cases closed : s.pump.state = .starting ∨ s.pump.state = .running
  · rw [inhibitPump_of_closed free closed]
    exact .inl (leavesDuty_of_closed started closed)
  refine .inr ⟨inhibitPump_of_other free duty closed, ?_⟩
  unfold Pump.inhibitGoes
  cases state : s.pump.state <;> simp_all

/-! ## RELEASE (R61) -/

theorem releasePump_of_inhibited (held : s.pump.inhibit = true) (inhibited : s.pump.state = .inhibited) :
    s.releasePump = (s.flagged false).enterRest .lockout := by
  unfold releasePump
  rw [if_pos held]
  exact if_pos inhibited

theorem releasePump_of_other (held : s.pump.inhibit = true) (other : s.pump.state ≠ .inhibited) : s.releasePump = s.flagged false := by
  unfold releasePump
  rw [if_pos held]
  exact if_neg other

end State

/-- Settles O32. -/
theorem inhibitAndReleaseHoldThePump : Obligations.InhibitAndReleaseHoldThePump := by
  intro s src address mask argument sender code c
  refine ⟨?inhibits, ?held, ?rests, ?flag, ?free, ?unmasked, ?listening, ?barred, ?foreign, ?unreached, ?deaf⟩
  case inhibits =>
    intro reaches free
    have pump := s.heardBy_pump src
    have window := s.heardBy_window src
    have link := s.heardBy_link src
    have left := s.heardBy_windowLeft src
    have linkLeft := s.heardBy_linkLeft src .withdrawn
    obtain ⟨u, hu⟩ : ∃ u, u = s.heardBy src := ⟨_, rfl⟩
    have begun : u.started = true := by rw [hu, State.started, s.heardBy_start]; exact State.hears_of_reaches reaches
    rw [← hu] at pump window link left linkLeft
    have outcome : s.commandActs .inhibit = true := by
      change (!s.pump.inhibit) = true
      rw [free]; rfl
    rcases State.inhibitPump_cases begun (by rw [pump]; exact free) with leaves | ⟨flagged, stays⟩
    · obtain ⟨applied, moves, shown⟩ := State.takeCommand_sequenced (code := .inhibit) (l := s.linkLeft .withdrawn) reaches hu rfl leaves.reacts
        (by rw [← linkLeft]; exact leaves.link) (s.linkLeft_lastSender _)
      have records := applied.records
      rw [outcome] at records
      have goes := leaves.goes
      have moved := leaves.moved
      rw [pump] at goes moved
      rw [← show _ = u.inhibitPump.pump from applied.pump] at goes moved
      refine ⟨_, rfl, ?_, ?_, fun _ => ?_, fun same => absurd same moved, fun _ => ?_, fun _ => applied.link, fun same => absurd same moved, moves,
        shown, records, applied.heard⟩
      · rw [applied.pump]; exact leaves.inhibit
      · refine goes.trans ?_
        unfold Pump.inhibitGoes
        cases s.pump.state <;> rfl
      · rw [applied.pump]; exact leaves.contactor
      · rw [applied.window, ← left]; exact leaves.window
    · obtain ⟨applied, moves, shown⟩ := State.takeCommand_sequenced (code := .inhibit) (l := s.link) reaches hu flagged
        (u.flagged_reacts true [.overflowRisk]) link rfl
      have records := applied.records
      rw [outcome] at records
      have form : (s.takeCommand src .inhibit).pump = { s.pump with inhibit := true } := by
        rw [applied.pump, ← pump]; rfl
      have state : (s.takeCommand src .inhibit).pump.state = s.pump.state := by rw [form]
      rw [pump] at stays
      refine ⟨_, rfl, by rw [form], ?_, fun other => absurd state.symm other, fun _ => form, fun other => absurd state.symm other,
        fun other => absurd state.symm other, fun _ => ⟨applied.link, applied.window.trans window⟩, moves, shown, records, applied.heard⟩
      refine state.trans (stays.symm.trans ?_)
      unfold Pump.inhibitGoes
      cases s.pump.state <;> rfl
  case held =>
    intro reaches held
    have still : (s.heardBy src).inhibitPump = s.heardBy src := if_pos (by rw [s.heardBy_pump]; exact held)
    obtain ⟨applied, moves, shown⟩ := State.takeCommand_idle (code := .inhibit) reaches still
    have outcome : s.commandActs .inhibit = false := by
      change (!s.pump.inhibit) = false
      rw [held]; rfl
    have records := applied.records
    rw [outcome] at records
    exact ⟨_, rfl, applied.pump.trans (s.heardBy_pump src), applied.window.trans (s.heardBy_window src), moves, shown, records, applied.link,
      applied.heard⟩
  case rests =>
    intro reaches held inhibited
    have pump := s.heardBy_pump src
    have window := s.heardBy_window src
    have link := s.heardBy_link src
    obtain ⟨u, hu⟩ : ∃ u, u = s.heardBy src := ⟨_, rfl⟩
    have begun : u.started = true := by rw [hu, State.started, s.heardBy_start]; exact State.hears_of_reaches reaches
    rw [← hu] at pump window link
    have releases := State.releasePump_of_inhibited (s := u) (by rw [pump]; exact held) (by rw [pump]; exact inhibited)
    have reacts := (u.flagged_reacts false [.overflowRisk]).trans (State.enterRest_reacts (u.flagged false) .lockout)
    have flag : (u.flagged false).pump = { s.pump with inhibit := false } := by rw [← pump]; rfl
    obtain ⟨applied, moves, shown⟩ := State.takeCommand_sequenced (code := .release) (l := s.link.reported) reaches hu releases reacts
      (by rw [State.enterRest_link (s := u.flagged false) begun (by decide), ← heardLink_reported, ← link]; rfl) (Link.reported_lastSender _)
    have records := applied.records
    rw [show s.commandActs .release = true from held] at records
    refine ⟨_, rfl, fun well => applied.pump.trans ?_, fun fault => applied.pump.trans ?_, applied.link, applied.window.trans ?_, moves, shown,
      records, applied.heard⟩
    · rw [State.enterRest_pump_of_well (by rw [flag]; exact well), Pump.enter_lockout, flag]
      rfl
    · rw [State.enterRest_pump_of_fault (by decide) (by rw [flag]; exact fault), flag]
      rfl
    · rw [State.enterRest_window (by decide), ← window]
      rfl
  case flag =>
    intro reaches held other
    have pump := s.heardBy_pump src
    have window := s.heardBy_window src
    have link := s.heardBy_link src
    obtain ⟨u, hu⟩ : ∃ u, u = s.heardBy src := ⟨_, rfl⟩
    rw [← hu] at pump window link
    have releases := State.releasePump_of_other (s := u) (by rw [pump]; exact held) (by rw [pump]; exact other)
    obtain ⟨applied, moves, shown⟩ := State.takeCommand_sequenced (code := .release) (l := s.link) reaches hu releases
      (u.flagged_reacts false []) link rfl
    have records := applied.records
    rw [show s.commandActs .release = true from held] at records
    refine ⟨_, rfl, applied.pump.trans ?_, applied.window.trans window, moves, shown, records, applied.link, applied.heard⟩
    rw [← pump]
    rfl
  case free =>
    intro reaches free
    have still : (s.heardBy src).releasePump = s.heardBy src := if_neg (by rw [s.heardBy_pump]; exact Bool.eq_false_iff.mp free)
    obtain ⟨applied, moves, shown⟩ := State.takeCommand_idle (code := .release) reaches still
    have records := applied.records
    rw [show s.commandActs .release = false from free] at records
    exact ⟨_, rfl, applied.pump.trans (s.heardBy_pump src), applied.window.trans (s.heardBy_window src), moves, shown, records, applied.link,
      applied.heard⟩
  case unmasked =>
    intro is serves operating unmasked
    have step : exec c s = .next (s.takeCommand (.town address mask argument) code) := by rcases is with ⟨rfl, rfl⟩ | ⟨rfl, rfl⟩ <;> rfl
    rw [State.takeCommand_unmasked serves operating unmasked] at step
    exact ⟨_, step, rfl, rfl, s.valid_alarmsOnly .., State.valid_delivers serves.1 .., rfl⟩
  case listening =>
    intro is serves listening
    have step : exec c s = .next (s.takeCommand (.town address mask argument) code) := by rcases is with ⟨rfl, rfl⟩ | ⟨rfl, rfl⟩ <;> rfl
    rw [State.takeCommand_listening serves listening] at step
    exact ⟨_, step, rfl, rfl, s.valid_alarmsOnly .., State.valid_delivers serves.1 .., rfl⟩
  case barred =>
    intro is hears own ne bars
    have step : exec c s = .next (s.takeCommand (.town address mask argument) code) := by rcases is with ⟨rfl, rfl⟩ | ⟨rfl, rfl⟩ <;> rfl
    rw [State.takeCommand_barred hears own ne bars] at step
    exact ⟨_, step, rfl, rfl, s.valid_alarmsOnly .., State.valid_delivers hears ..⟩
  case foreign =>
    intro is hears foreign
    have step : exec c s = .next (s.takeCommand (.town address mask argument) code) := by rcases is with ⟨rfl, rfl⟩ | ⟨rfl, rfl⟩ <;> rfl
    exact ⟨_, step.trans (congrArg Host.Outcome.next (State.takeCommand_foreign hears foreign)), rfl⟩
  case unreached =>
    intro is receives other unreached
    have step : exec c s = .next (s.takeCommand (.bayLink sender mask argument) code) := by rcases is with ⟨rfl, rfl⟩ | ⟨rfl, rfl⟩ <;> rfl
    exact ⟨_, step.trans (congrArg Host.Outcome.next (State.takeCommand_unreached receives other unreached)), rfl⟩
  case deaf =>
    intro is deaf
    rcases is with rfl | rfl
    · exact ⟨s, congrArg Host.Outcome.next (State.takeCommand_deaf deaf), rfl⟩
    · exact ⟨s, congrArg Host.Outcome.next (State.takeCommand_deaf deaf), rfl⟩

end Sys2Proof.Machine
end

section
/-! RAKE_NOW and RESET_RAKE (O33): R125, R132. -/

namespace Sys2Proof.Machine

namespace State

variable {s : State}

/-- The screen unit with its latch cleared (R132). -/
def unlatchedScreen (u : Screen) : Screen := { (u.enterRake .rakeIdle) with overloads := 0, camArmed := false, rest := .stopped }

/-- The latch cleared and the two points fallen, a pending flag not yet served (R132). -/
def rakeUnlatched (s : State) : State :=
  ((s.withScreen (unlatchedScreen s.screen)).deliver .rakeJammed false).deliver .rakeFault false

theorem resetRake_of_latched (latched : s.rakeLatched = true) : s.resetRake = s.rakeUnlatched.startPending := if_pos latched

theorem rakeUnlatched_alarmsOnly (s : State) : (s.withScreen (unlatchedScreen s.screen)).AlarmsOnly s.rakeUnlatched :=
  (deliver_alarmsOnly ..).trans (deliver_alarmsOnly ..)

theorem rakeUnlatched_points (started : s.started = true) :
    s.rakeUnlatched.rawOf .rakeJammed = false ∧ s.rakeUnlatched.rawOf .rakeFault = false ∧
      s.PointsBut s.rakeUnlatched [.rakeJammed, .rakeFault] := by
  obtain ⟨jammed, first⟩ := deliver_delivers (s := s.withScreen (unlatchedScreen s.screen)) .rakeJammed false started
  obtain ⟨fault, second⟩ := deliver_delivers (s := (s.withScreen (unlatchedScreen s.screen)).deliver .rakeJammed false) .rakeFault false
    (by rw [deliver_started]; exact started)
  refine ⟨second.rawOf.trans jammed, fault, ?_⟩
  exact (PointsBut.of_alarms (t := s.withScreen (unlatchedScreen s.screen)) rfl _).trans ((first.mono).trans (second.mono))

theorem rakeUnlatched_grows (s : State) : s.events.Grows 2 s.rakeUnlatched.events :=
  ((s.withScreen (unlatchedScreen s.screen)).deliver_grows ..).trans (deliver_grows ..)

theorem AlarmsOnly.screen {t : State} (h : s.AlarmsOnly t) : t.screen = s.screen := by rw [h]; rfl

/-- A command to the rake that reaches it, from the screen unit it leaves. -/
theorem takeCommand_rake {src : CommandSource} {code : CommandCode} {u v : State} {ps : List AlarmPoint} (reaches : s.Reaches src)
    (hu : u = s.heardBy src) (hands : u.handCommand code = v) (only : (u.withScreen v.screen).AlarmsOnly v)
    (grows : u.events.Grows 12 v.events) (points : u.PointsBut v ps) (others : AlarmPoint.townSilent ∉ ps := by simp) :
    ∃ t, s.takeCommand src code = t ∧ t.screen = v.screen ∧ t.alarms = v.alarms ∧ s.PointsBut t (ps ++ [.townSilent]) ∧
      s.Records t 14 .commandApplied (src.origin s.own) (commandCode code)
        [BitVec.ofNat 32 src.route, BitVec.ofNat 32 (if s.commandActs code then 0 else 1)] ∧
      t.link = s.relayed src code s.link ∧ t.pump = s.pump ∧ t.window = s.window ∧ t.table = s.table ∧ t.balance = s.balance ∧
      ({ s with town := t.town, screen := t.screen } : State).Moves t ∧ s.HeardCommand t src := by
  subst hu
  have moves : ((s.heardBy src).withScreen v.screen).Moves v := by
    obtain ⟨w, hw⟩ : ∃ w, w = v.screen := ⟨_, rfl⟩
    rw [← hw] at only ⊢
    rw [only]
    exact ⟨rfl, rfl, rfl, rfl, rfl, rfl, rfl, rfl, rfl, rfl, rfl, rfl⟩
  have applied := takeCommand_applied (v := v) (l := s.link) reaches hands moves grows points (only.link.trans (s.heardBy_link src)) rfl others
  have same : v.pump = (s.heardBy src).pump ∧ v.window = (s.heardBy src).window ∧ v.table = (s.heardBy src).table ∧
      v.balance = (s.heardBy src).balance := by
    rw [only]; exact ⟨rfl, rfl, rfl, rfl⟩
  obtain ⟨pump, window, table, balance⟩ := same
  refine ⟨_, rfl, applied.screen, applied.alarms, ?_, applied.records, applied.link, applied.pump.trans (pump.trans (s.heardBy_pump src)),
    applied.window.trans (window.trans (s.heardBy_window src)), applied.table.trans (table.trans (s.heardBy_table src)),
    applied.balance.trans (balance.trans (s.heardBy_balance src)), applied.moves, applied.heard⟩
  rw [PointsBut, applied.alarms]
  exact ((heardBy_points reaches).mono (List.subset_append_right ..)).trans (points.mono (List.subset_append_left ..))

/-- A command to the rake that leaves the state the owner meets. -/
theorem takeCommand_rake_idle {src : CommandSource} {code : CommandCode} (reaches : s.Reaches src)
    (hands : (s.heardBy src).handCommand code = s.heardBy src) :
    ∃ t, s.takeCommand src code = t ∧ t.screen = s.screen ∧ s.PointsBut t [.townSilent] ∧
      s.Records t 14 .commandApplied (src.origin s.own) (commandCode code)
        [BitVec.ofNat 32 src.route, BitVec.ofNat 32 (if s.commandActs code then 0 else 1)] ∧
      t.link = s.relayed src code s.link ∧ t.pump = s.pump ∧ t.window = s.window ∧ t.table = s.table ∧ t.balance = s.balance ∧
      ({ s with town := t.town, screen := t.screen } : State).Moves t ∧ s.HeardCommand t src := by
  obtain ⟨t, step, screen, _, rest⟩ := takeCommand_rake (ps := []) reaches rfl hands rfl (.refl _ _) (.refl _ _)
  exact ⟨t, step, screen.trans (s.heardBy_screen src), rest⟩

end State

/-- Settles O33. -/
theorem rakeCommandsStartAndReset : Obligations.RakeCommandsStartAndReset := by
  intro s src address mask argument sender code c
  refine ⟨?starts, ?waits, ?dry, ?resets, ?restarts, ?still, ?unmasked, ?listening, ?barred, ?foreign, ?unreached, ?deaf⟩
  case starts =>
    intro reaches runs idle rested clear
    have screen := s.heardBy_screen src
    have start := s.heardBy_start src
    obtain ⟨u, hu⟩ : ∃ u, u = s.heardBy src := ⟨_, rfl⟩
    rw [← hu] at screen start
    have running : u.screenRuns = true := by rw [State.screenRuns, State.working, State.cfg, start]; exact runs
    have hands : u.handCommand .rakeNow = u.withScreen (s.screen.cycling .command s.cfg.rakeInterval) := by
      refine (if_pos running).trans ?_
      rw [State.trigger_of_ready (s := u) .command (by rw [screen]; exact idle) (by rw [screen]; exact rested) (by rw [screen]; exact clear), screen, State.cfg, start]
      rfl
    obtain ⟨t, step, shows, _, points, records, rest⟩ := State.takeCommand_rake (ps := []) reaches hu hands rfl (.refl _ _) (.of_alarms rfl _)
    rw [show s.commandActs .rakeNow = true from runs] at records
    exact ⟨t, congrArg Host.Outcome.next step, shows, points, records, rest⟩
  case waits =>
    intro reaches runs busy
    have screen := s.heardBy_screen src
    have start := s.heardBy_start src
    obtain ⟨u, hu⟩ : ∃ u, u = s.heardBy src := ⟨_, rfl⟩
    rw [← hu] at screen start
    have running : u.screenRuns = true := by rw [State.screenRuns, State.working, State.cfg, start]; exact runs
    have hands : u.handCommand .rakeNow = u.withScreen { s.screen with pendingFlag := true, pendingCause := .command } := by
      refine (if_pos running).trans ?_
      rw [State.trigger_of_busy (s := u) .command (by rw [screen]; exact busy), screen]
    obtain ⟨t, step, shows, _, points, records, rest⟩ := State.takeCommand_rake (ps := []) reaches hu hands rfl (.refl _ _) (.of_alarms rfl _)
    rw [show s.commandActs .rakeNow = true from runs] at records
    exact ⟨t, congrArg Host.Outcome.next step, shows, points, records, rest⟩
  case dry =>
    intro reaches dry
    have hands : (s.heardBy src).handCommand .rakeNow = s.heardBy src :=
      if_neg (by rw [State.screenRuns, State.working, State.cfg, s.heardBy_start]; exact Bool.eq_false_iff.mp dry)
    obtain ⟨t, step, shows, points, records, rest⟩ := State.takeCommand_rake_idle reaches hands
    rw [show s.commandActs .rakeNow = false from dry] at records
    exact ⟨t, congrArg Host.Outcome.next step, shows, points, records, rest⟩
  case resets =>
    intro reaches runs latch none
    have screen := s.heardBy_screen src
    have start := s.heardBy_start src
    have acts := s.heardBy_acts src .resetRake
    obtain ⟨u, hu⟩ : ∃ u, u = s.heardBy src := ⟨_, rfl⟩
    have begun : u.started = true := by rw [hu, State.started, s.heardBy_start]; exact State.hears_of_reaches reaches
    rw [← hu] at screen start acts
    have latched : s.commandActs .resetRake = true := by
      change (s.screenRuns && (s.screen.rake == .jammed || s.screen.rake == .fault)) = true
      rw [runs]
      rcases latch with h | h <;> rw [h] <;> rfl
    have only := u.rakeUnlatched_alarmsOnly
    have form : u.rakeUnlatched.screen = State.unlatchedScreen s.screen := by rw [only.screen, ← screen]; rfl
    have hands : u.handCommand .resetRake = u.rakeUnlatched := by
      refine (State.resetRake_of_latched (acts.trans latched)).trans (State.startPending_of_none (.inr ?_))
      rw [form]
      exact none
    obtain ⟨jammed, fault, moved⟩ := State.rakeUnlatched_points begun
    obtain ⟨t, step, shows, alarms, points, records, rest⟩ := State.takeCommand_rake reaches hu hands
      (by rw [only.screen]; exact only) u.rakeUnlatched_grows.mono moved
    rw [latched] at records
    refine ⟨t, congrArg Host.Outcome.next step, shows.trans form, ?_, ?_, points, records, rest⟩
    · rw [State.rawOf, alarms]; exact jammed
    · rw [State.rawOf, alarms]; exact fault
  case restarts =>
    intro reaches runs latch pending clear
    have screen := s.heardBy_screen src
    have start := s.heardBy_start src
    have acts := s.heardBy_acts src .resetRake
    obtain ⟨u, hu⟩ : ∃ u, u = s.heardBy src := ⟨_, rfl⟩
    have begun : u.started = true := by rw [hu, State.started, s.heardBy_start]; exact State.hears_of_reaches reaches
    rw [← hu] at screen start acts
    have latched : s.commandActs .resetRake = true := by
      change (s.screenRuns && (s.screen.rake == .jammed || s.screen.rake == .fault)) = true
      rw [runs]
      rcases latch with h | h <;> rw [h] <;> rfl
    have only := u.rakeUnlatched_alarmsOnly
    have form : u.rakeUnlatched.screen = State.unlatchedScreen s.screen := by rw [only.screen, ← screen]; rfl
    have settings : u.rakeUnlatched.cfg = s.cfg := by rw [State.cfg, only.start]; exact congrArg StartUnit.settings start
    have hands : u.handCommand .resetRake =
        u.rakeUnlatched.withScreen ((State.unlatchedScreen s.screen).cycling s.screen.pendingCause s.cfg.rakeInterval) := by
      refine (State.resetRake_of_latched (acts.trans latched)).trans ?_
      rw [State.startPending_of_ready (s := u.rakeUnlatched) (by rw [form]; rfl) (by rw [form]; rfl) (by rw [form]; exact pending)
        (by rw [form]; exact clear), form, settings]
      rfl
    obtain ⟨jammed, fault, moved⟩ := State.rakeUnlatched_points begun
    obtain ⟨t, step, shows, alarms, points, records, rest⟩ := State.takeCommand_rake (ps := [.rakeJammed, .rakeFault]) reaches hu hands
      (by
        obtain ⟨w, hw⟩ : ∃ w, w = u.rakeUnlatched := ⟨_, rfl⟩
        rw [← hw] at only ⊢
        rw [only]
        rfl) u.rakeUnlatched_grows.mono moved
    rw [latched] at records
    refine ⟨t, congrArg Host.Outcome.next step, shows.trans rfl, ?_, ?_, points, records, rest⟩
    · rw [State.rawOf, alarms]; exact jammed
    · rw [State.rawOf, alarms]; exact fault
  case still =>
    intro reaches none
    have quiet : s.commandActs .resetRake = false := by
      change (s.screenRuns && (s.screen.rake == .jammed || s.screen.rake == .fault)) = false
      rcases none with dry | ⟨unjammed, unfaulted⟩
      · rw [dry]; rfl
      · simp [unjammed, unfaulted]
    have hands : (s.heardBy src).handCommand .resetRake = s.heardBy src :=
      if_neg (Bool.eq_false_iff.mp ((s.heardBy_acts src .resetRake).trans quiet))
    obtain ⟨t, step, shows, points, records, rest⟩ := State.takeCommand_rake_idle reaches hands
    rw [quiet] at records
    exact ⟨t, congrArg Host.Outcome.next step, shows, points, records, rest⟩
  case unmasked =>
    intro is serves operating unmasked
    have step : exec c s = .next (s.takeCommand (.town address mask argument) code) := by rcases is with ⟨rfl, rfl⟩ | ⟨rfl, rfl⟩ <;> rfl
    rw [State.takeCommand_unmasked serves operating unmasked] at step
    exact ⟨_, step, rfl, rfl, s.valid_alarmsOnly .., State.valid_delivers serves.1 .., rfl⟩
  case listening =>
    intro is serves listening
    have step : exec c s = .next (s.takeCommand (.town address mask argument) code) := by rcases is with ⟨rfl, rfl⟩ | ⟨rfl, rfl⟩ <;> rfl
    rw [State.takeCommand_listening serves listening] at step
    exact ⟨_, step, rfl, rfl, s.valid_alarmsOnly .., State.valid_delivers serves.1 .., rfl⟩
  case barred =>
    intro is hears own ne bars
    have step : exec c s = .next (s.takeCommand (.town address mask argument) code) := by rcases is with ⟨rfl, rfl⟩ | ⟨rfl, rfl⟩ <;> rfl
    rw [State.takeCommand_barred hears own ne bars] at step
    exact ⟨_, step, rfl, rfl, s.valid_alarmsOnly .., State.valid_delivers hears ..⟩
  case foreign =>
    intro is hears foreign
    have step : exec c s = .next (s.takeCommand (.town address mask argument) code) := by rcases is with ⟨rfl, rfl⟩ | ⟨rfl, rfl⟩ <;> rfl
    exact ⟨_, step.trans (congrArg Host.Outcome.next (State.takeCommand_foreign hears foreign)), rfl⟩
  case unreached =>
    intro is receives other unreached
    have step : exec c s = .next (s.takeCommand (.bayLink sender mask argument) code) := by rcases is with ⟨rfl, rfl⟩ | ⟨rfl, rfl⟩ <;> rfl
    exact ⟨_, step.trans (congrArg Host.Outcome.next (State.takeCommand_unreached receives other unreached)), rfl⟩
  case deaf =>
    intro is deaf
    rcases is with rfl | rfl
    · exact ⟨s, congrArg Host.Outcome.next (State.takeCommand_deaf deaf), rfl⟩
    · exact ⟨s, congrArg Host.Outcome.next (State.takeCommand_deaf deaf), rfl⟩

end Sys2Proof.Machine
end

section
/-! What the reactions of the pump sequencer leave of the port, the window view and the stop spacing. -/

namespace Sys2Proof.Machine

/-- Of the port the line, its counters and its timers but the report timer stay, and an offer held, where nothing is being sent; the view stays
or becomes FREE or OWN; the stop spacing stays. -/
structure State.KeepsPort (s t : State) : Prop where
  line : t.link = { s.link with
    queue := t.link.queue, heldOffer := t.link.heldOffer, heldClaim := t.link.heldClaim, closing := t.link.closing,
    report := t.link.report }
  held : s.link.sending = none → t.link.heldOffer = s.link.heldOffer
  view : t.window.view = s.window.view ∨ t.window.view = .free ∨ t.window.view = .own
  spacing : t.pump.spacing = s.pump.spacing

namespace State.KeepsPort

variable {s t u : State}

theorem of_blocks (link : t.link = s.link := by rfl) (window : t.window = s.window := by rfl)
    (spacing : t.pump.spacing = s.pump.spacing := by rfl) : s.KeepsPort t :=
  ⟨by rw [link], fun _ => by rw [link], .inl (by rw [window]), spacing⟩

theorem refl (s : State) : s.KeepsPort s := .of_blocks

theorem sending (h : s.KeepsPort t) : t.link.sending = s.link.sending := by rw [h.line]
theorem lastSender (h : s.KeepsPort t) : t.link.lastSender = s.link.lastSender := by rw [h.line]
theorem duplicate (h : s.KeepsPort t) : t.link.duplicate = s.link.duplicate := by rw [h.line]
theorem failure (h : s.KeepsPort t) : t.link.failure = s.link.failure := by rw [h.line]
theorem txErrors (h : s.KeepsPort t) : t.link.txErrors = s.link.txErrors := by rw [h.line]

theorem trans (h : s.KeepsPort t) (k : t.KeepsPort u) : s.KeepsPort u where
  line := by
    rw [k.line, h.line]
  held idle := (k.held (h.sending.trans idle)).trans (h.held idle)
  view := by
    rcases k.view with same | moved
    · rw [same]; exact h.view
    · exact .inr moved
  spacing := k.spacing.trans h.spacing

theorem ite {p : Prop} [Decidable p] (h : p → s.KeepsPort t) (k : ¬ p → s.KeepsPort u) : s.KeepsPort (if p then t else u) := by
  split
  case isTrue hp => exact h hp
  case isFalse hp => exact k hp

end State.KeepsPort

namespace State

variable (s : State)

theorem withPump_keepsPort {s : State} {p : Pump} (spacing : p.spacing = s.pump.spacing := by rfl) : s.KeepsPort (s.withPump p) :=
  .of_blocks rfl rfl spacing

theorem withWindow_keepsPort (w : Window) (view : w.view = s.window.view ∨ w.view = .free ∨ w.view = .own) : s.KeepsPort (s.withWindow w) :=
  ⟨rfl, fun _ => rfl, view, rfl⟩

theorem deliver_keepsPort (p : AlarmPoint) (raw : Bool) : s.KeepsPort (s.deliver p raw) :=
  .of_blocks (deliver_link ..) (deliver_window ..) (by rw [deliver_pump])

theorem offer_keepsPort (kind : EventKind) (subject : Nat) (values : List Word) : s.KeepsPort (s.offer kind subject values) :=
  .of_blocks (offer_link ..) (offer_window ..) (by rw [offer_pump])

theorem withCounts_keepsPort : s.KeepsPort s.withCounts := .of_blocks (withCounts_link s) (withCounts_window s) (by rw [withCounts_pump])

theorem evalRisk_keepsPort : s.KeepsPort s.evalRisk := s.deliver_keepsPort ..

/-- An offer is held only while its kind is being sent (R76). -/
theorem offerFrame_keepsPort (b : TxBody) : s.KeepsPort (s.offerFrame b) := by
  refine ⟨?_, fun idle => ?_, .inl rfl, rfl⟩
  · rw [offerFrame, withLink_link]
    unfold Link.offer
    split
    · rfl
    · cases b
      case startClaim => dsimp only; split <;> rfl
      all_goals rfl
  · have other : s.link.sendingClass ≠ some b.cls := by simp [Link.sendingClass, idle]
    rw [offerFrame, withLink_link]
    unfold Link.offer
    rw [if_neg other]
    cases b
    case startClaim => dsimp only; split <;> rfl
    all_goals rfl

theorem queueReport_keepsPort : s.KeepsPort s.queueReport := by
  refine .ite (fun _ => ?_) (fun _ => .refl s)
  have offered := s.offerFrame_keepsPort .report
  exact ⟨congrArg (fun l : Link => { l with report := .start }) offered.line, offered.held, .inl rfl, rfl⟩

theorem endClaim_keepsPort : s.KeepsPort s.endClaim := s.withWindow_keepsPort _ (.inr (.inl rfl))

theorem closeClaim_keepsPort (outcome : ClaimOutcome) : s.KeepsPort (s.closeClaim outcome) := by
  unfold closeClaim
  split
  · exact .refl s
  · split
    · exact ⟨rfl, fun _ => rfl, .inl rfl, rfl⟩
    · refine s.endClaim_keepsPort.trans ⟨?_, fun _ => ?_, .inl rfl, rfl⟩ <;>
      · rw [withLink_link, Link.withdrawClaim]
        split <;> rfl
  · exact s.endClaim_keepsPort.trans (offerFrame_keepsPort ..)
  · exact s.endClaim_keepsPort.trans (offerFrame_keepsPort ..)

theorem closeOwnClaim_keepsPort (outcome : ClaimOutcome) : s.KeepsPort (s.closeOwnClaim outcome) :=
  .ite (fun _ => s.closeClaim_keepsPort outcome) (fun _ => .refl s)

theorem enter_keepsPort (st : PumpState) : s.KeepsPort (s.enter st) :=
  have entered : s.KeepsPort ((s.withPump (s.pump.enter st)).withWindow
      { s.window with patience := if st = .waiting then .start else .stopped }) := ⟨rfl, fun _ => rfl, .inl rfl, rfl⟩
  ((entered.trans (queueReport_keepsPort _)).trans (withCounts_keepsPort _)).trans (evalRisk_keepsPort _)

theorem trip_keepsPort (cause : TripCause) : s.KeepsPort (s.trip cause) :=
  have latched : s.KeepsPort (s.latched cause) := .of_blocks (latched_link s cause) (latched_window s cause) (by rw [latched_pump])
  ((latched.trans (closeOwnClaim_keepsPort ..)).trans (enter_keepsPort ..)).trans (offer_keepsPort ..)

theorem enterRest_keepsPort (st : PumpState) : s.KeepsPort (s.enterRest st) :=
  .ite (fun _ => (s.enter_keepsPort st).trans (trip_keepsPort ..)) (fun _ => s.enter_keepsPort st)

theorem completeStop_keepsPort : s.KeepsPort s.completeStop :=
  .ite (fun _ => s.enterRest_keepsPort _) (fun _ => s.enterRest_keepsPort _)

theorem stopPump_keepsPort (cause : StopCause) : s.KeepsPort (s.stopPump cause) :=
  have stopping : s.KeepsPort (((s.closeOwnClaim .withdrawn).enter .stopping).offerStopped cause) :=
    ((s.closeOwnClaim_keepsPort _).trans (enter_keepsPort ..)).trans (offer_keepsPort ..)
  .ite (fun _ => stopping) (fun _ => stopping.trans (completeStop_keepsPort _))

theorem enterStarting_keepsPort (viaClaim : Bool) : s.KeepsPort (s.enterStarting viaClaim) :=
  (s.withWindow_keepsPort { s.window with viaClaim := viaClaim } (.inl rfl)).trans (enter_keepsPort _ .starting)

theorem openClaim_keepsPort : s.KeepsPort s.openClaim :=
  ((s.withWindow_keepsPort _ (.inr (.inr rfl))).trans (offerFrame_keepsPort ..)).trans (enter_keepsPort ..)

theorem evalClaim_keepsPort : s.KeepsPort s.evalClaim := .ite (fun _ => s.openClaim_keepsPort) (fun _ => .refl s)

theorem beginStagger_keepsPort : s.KeepsPort s.beginStagger :=
  .ite (fun _ => s.enterStarting_keepsPort _) (fun _ => withPump_keepsPort)

theorem enterWaiting_keepsPort : s.KeepsPort s.enterWaiting :=
  (s.enter_keepsPort .waiting).trans (.ite (fun _ => .ite (fun _ => beginStagger_keepsPort _) (fun _ => evalClaim_keepsPort _))
    (fun _ => enter_keepsPort ..))

theorem enterIdle_keepsPort : s.KeepsPort s.enterIdle :=
  (s.enter_keepsPort .idle).trans (.ite (fun _ => enterWaiting_keepsPort _) (fun _ => .refl _))

theorem checkLockout_keepsPort : s.KeepsPort s.checkLockout := .ite (fun _ => s.enterIdle_keepsPort) (fun _ => .refl s)

theorem immediateStop_keepsPort : s.KeepsPort s.immediateStop := by
  rcases s.immediateStop_cases with same | ⟨cause, stops⟩
  · rw [same]; exact .refl s
  · rw [stops]; exact s.stopPump_keepsPort cause

theorem dutyStop_keepsPort : s.KeepsPort s.dutyStop := .ite (fun _ => s.stopPump_keepsPort _) (fun _ => .refl s)

theorem stopRule_keepsPort : s.KeepsPort s.stopRule := .ite (fun _ => .refl s) (fun _ => s.dutyStop_keepsPort)

theorem onDemand_keepsPort : s.KeepsPort s.onDemand := by
  unfold onDemand
  split
  · exact .ite (fun _ => s.enterWaiting_keepsPort) (fun _ => .refl s)
  · exact .ite (fun _ => .refl s) (fun _ => s.enter_keepsPort _)
  · exact s.immediateStop_keepsPort.trans (dutyStop_keepsPort _)
  · exact .refl s

theorem recount_keepsPort : s.KeepsPort s.recount :=
  (s.withCounts_keepsPort.trans (.ite (fun _ => onDemand_keepsPort _) (fun _ => .refl _))).trans (evalRisk_keepsPort _)

theorem onIsolation_keepsPort : s.KeepsPort s.onIsolation := by
  unfold onIsolation
  split
  · split
    · exact .ite (fun _ => s.beginStagger_keepsPort) (fun _ => s.enter_keepsPort _)
    · exact (s.closeOwnClaim_keepsPort _).trans (enterIdle_keepsPort _)
    · exact .refl s
  · split
    · have plain : s.KeepsPort (s.withPump { s.pump with stagger := .stopped }) := withPump_keepsPort
      exact .ite (fun _ => plain.trans (evalClaim_keepsPort _)) (fun _ => plain.trans (enter_keepsPort ..))
    · exact .refl s

theorem setIsolated_keepsPort (flag : Bool) (cause : IsolationCause) : s.KeepsPort (s.setIsolated flag cause) :=
  have marked : s.KeepsPort (s.withTable { s.table with isolated := flag, cause := cause }) := .of_blocks
  .ite (fun _ => marked) fun _ =>
    ((marked.trans (recount_keepsPort _)).trans (onIsolation_keepsPort _)).trans (deliver_keepsPort ..)

end State

end Sys2Proof.Machine
end

section
/-! Where a pump goes that is returned to WAITING or IDLE (R50, R64, R105), and what the isolated flag does to a claim (R65, R99). -/

namespace Sys2Proof.Machine

namespace State

variable {s t : State}

/-! ## A pump returned to WAITING or IDLE -/

/-- The pump rests or starts without a claim, the window is as it was but for the patience timer and the start record, and a REPORT is queued. -/
structure RestsOrStarts (s t : State) : Prop where
  state : t.pump.state ∈ [PumpState.idle, .waiting, .starting]
  window : t.window = { s.window with patience := t.window.patience, viaClaim := t.window.viaClaim }
  link : t.link = s.link.reported

/-- The pump claims, which it does only in OPERATING outside isolated mode with the window FREE. -/
structure Claims (s t : State) : Prop where
  joined : s.table.isolated = false
  free : s.window.view = .free
  state : t.pump.state = .claiming
  view : t.window.view = .own
  claim : t.window.claim = .pending
  number : t.window.number = s.window.number + 1
  link : ∃ b, b.cls = 1 ∧ t.link = (s.link.reported.offer b).reported

theorem RestsOrStarts.trans {u : State} (h : s.RestsOrStarts t) (k : t.RestsOrStarts u) : s.RestsOrStarts u where
  state := k.state
  window := by rw [k.window, h.window]
  link := by rw [k.link, h.link, Link.reported_reported]

theorem RestsOrStarts.claims {u : State} (h : s.RestsOrStarts t) (moves : s.Moves t) (k : t.Claims u) : s.Claims u where
  joined := by rw [← moves.isolated]; exact k.joined
  free := by rw [← k.free, h.window]
  state := k.state
  view := k.view
  claim := k.claim
  number := by rw [k.number, h.window]
  link := by
    obtain ⟨b, cls, link⟩ := k.link
    exact ⟨b, cls, by rw [link, h.link, Link.reported_reported]⟩

theorem enter_restsOrStarts (started : s.started = true) {st : PumpState} (rests : st ∈ [PumpState.idle, .waiting, .starting]) :
    s.RestsOrStarts (s.enter st) :=
  ⟨by rw [enter_pump]; exact rests, by rw [enter_window], enter_link started st⟩

theorem beginStagger_restsOrStarts (started : s.started = true) (waiting : s.pump.state = .waiting) (reported : s.link.reported = s.link) :
    s.RestsOrStarts s.beginStagger := by
  unfold beginStagger
  split
  · exact ⟨by rw [enterStarting_pump]; simp [Pump.launched, Pump.halted], by rw [enterStarting_window], enterStarting_link started _⟩
  · exact ⟨by rw [withPump_pump]; simp [waiting], rfl, reported.symm⟩

theorem openClaim_link (started : s.started = true) :
    s.openClaim.link = (s.link.offer (.startClaim (s.window.number + 1) (BitVec.ofNat 16 s.pump.runHours))).reported := by
  unfold openClaim
  dsimp only
  refine (enter_link ?_ .claiming).trans ?_
  · exact started
  · rw [offerFrame, withLink_link, withWindow_link]

/-- A WAITING pump that evaluates the claim conditions waits on, or claims (R105). -/
theorem evalClaim_outcome (started : s.started = true) (waiting : s.pump.state = .waiting) (reported : s.link.reported = s.link) :
    s.RestsOrStarts s.evalClaim ∨ s.Claims s.evalClaim := by
  by_cases may : s.mayClaim = true
  · rw [evalClaim_of_holds may]
    obtain ⟨_, _, joined, free, _⟩ := mayClaim_iff.mp may
    refine .inr ⟨joined, free, by rw [openClaim_pump]; rfl, by rw [openClaim_window], by rw [openClaim_window], by rw [openClaim_window],
      .startClaim (s.window.number + 1) (BitVec.ofNat 16 s.pump.runHours), rfl, ?_⟩
    rw [reported, openClaim_link started]
  · rw [evalClaim_of_not may]
    exact .inl ⟨by simp [waiting], rfl, reported.symm⟩

theorem enterWaiting_outcome (started : s.started = true) : s.RestsOrStarts s.enterWaiting ∨ s.Claims s.enterWaiting := by
  have waiting : s.RestsOrStarts (s.enter .waiting) := enter_restsOrStarts started (by simp)
  have moves := s.enter_moves .waiting
  have state : (s.enter .waiting).pump.state = .waiting := by rw [enter_pump]; rfl
  have begun : (s.enter .waiting).started = true := by rw [moves.started]; exact started
  have reported : (s.enter .waiting).link.reported = (s.enter .waiting).link := by rw [waiting.link, Link.reported_reported]
  unfold enterWaiting
  dsimp only
  split
  · split
    · exact .inl (waiting.trans (beginStagger_restsOrStarts begun state reported))
    · exact (evalClaim_outcome begun state reported).imp waiting.trans (waiting.claims moves)
  · exact .inl (waiting.trans (enter_restsOrStarts begun (by simp)))

theorem enterIdle_outcome (started : s.started = true) : s.RestsOrStarts s.enterIdle ∨ s.Claims s.enterIdle := by
  have idle : s.RestsOrStarts (s.enter .idle) := enter_restsOrStarts started (by simp)
  have moves := s.enter_moves .idle
  unfold enterIdle
  dsimp only
  split
  · exact (enterWaiting_outcome (by rw [moves.started]; exact started)).imp idle.trans (idle.claims moves)
  · exact .inl idle

theorem enterIdle_isolated (started : s.started = true) (alone : s.table.isolated = true) : s.RestsOrStarts s.enterIdle :=
  (enterIdle_outcome started).resolve_right fun claims => Bool.false_ne_true (claims.joined.symm.trans alone)

/-! ## A pump that does not evaluate demand (R39) -/

/-- In the states that do not evaluate demand a recount is no more than the counts and OVERFLOW_RISK. -/
theorem recount_of_quiet (idle : s.pump.state ≠ .idle) (waiting : s.pump.state ≠ .waiting) (running : s.pump.state ≠ .running) :
    s.recount = s.withCounts.evalRisk := by
  unfold recount handOn
  rw [onDemand_of_quiet (by rw [withCounts_pump]; exact idle) (by rw [withCounts_pump]; exact waiting)
    (by rw [withCounts_pump]; exact running), ite_self]

/-! ## The isolated flag (R97 to R99) -/

/-- The state with the flag set, before the change is handed on. -/
def marked (flag : Bool) (cause : IsolationCause) (s : State) : State := s.withTable { s.table with isolated := flag, cause := cause }

theorem setIsolated_of_same {flag : Bool} (cause : IsolationCause) (same : s.table.isolated = flag) :
    s.setIsolated flag cause = s.marked flag cause := if_pos same

theorem setIsolated_of_change {flag : Bool} (cause : IsolationCause) (change : s.table.isolated ≠ flag) :
    s.setIsolated flag cause = (s.marked flag cause).recount.onIsolation.deliver .isolated flag := if_neg change

theorem setIsolated_reacts_marked (s : State) (flag : Bool) (cause : IsolationCause) :
    (s.marked flag cause).Reacts (s.setIsolated flag cause) [.isolated, .overflowRisk] 10 := s.setIsolated_reacts flag cause

theorem setIsolated_points (s : State) (flag : Bool) (cause : IsolationCause) :
    s.PointsBut (s.setIsolated flag cause) [.isolated, .overflowRisk] :=
  (PointsBut.of_alarms (t := s.marked flag cause) rfl _).trans (s.setIsolated_reacts flag cause).points

theorem setIsolated_raw {flag : Bool} (cause : IsolationCause) (started : s.started = true) (change : s.table.isolated ≠ flag) :
    (s.setIsolated flag cause).rawOf .isolated = flag := by
  rw [setIsolated_of_change cause change]
  have moves := ((s.marked flag cause).recount_reacts.trans (onIsolation_reacts _)).moves
  exact (deliver_delivers _ _ (by rw [moves.started]; exact started)).1

theorem setIsolated_table (s : State) (flag : Bool) (cause : IsolationCause) :
    (s.setIsolated flag cause).table.isolated = flag ∧ (s.setIsolated flag cause).table.cause = cause := by
  have moves := (s.setIsolated_reacts_marked flag cause).moves
  exact ⟨moves.isolated, moves.cause⟩

/-- A change of the flag recounts (R96, R99). -/
theorem setIsolated_tallied {flag : Bool} (cause : IsolationCause) (change : s.table.isolated ≠ flag) :
    (s.setIsolated flag cause).Tallied := by
  rw [setIsolated_of_change cause change]
  exact (deliver_reacts ..).tallied ((onIsolation_reacts _).tallied (recount_tallied _))

/-- In isolated mode A is 1 (R93). -/
theorem available_of_isolated (counts : s.CountsCurrent) (working : s.working = true) (alone : s.table.isolated = true) :
    s.table.available = 1 := by
  obtain ⟨_, counted, _, _⟩ := counts working
  rw [counted, availableCount, if_pos alone]

/-- A pump in CLAIMING that is isolated closes its claim and leaves CLAIMING (R65, R99). -/
theorem setIsolated_leaves (cause : IsolationCause) (started : s.started = true) (joined : s.table.isolated = false)
    (claiming : s.pump.state = .claiming) :
    ∃ v : State, v.pump = s.pump ∧ v.window = s.window ∧ v.link = s.link ∧
      (v.closeClaim .withdrawn).RestsOrStarts (s.setIsolated true cause) := by
  obtain ⟨v, hv⟩ : ∃ v, v = (s.marked true cause).recount := ⟨_, rfl⟩
  have quiet : v = (s.marked true cause).withCounts.evalRisk := by
    rw [hv, recount_of_quiet] <;> (rw [show (s.marked true cause).pump = s.pump from rfl, claiming]; simp)
  have pump : v.pump = s.pump := by rw [quiet, evalRisk_pump, withCounts_pump]; rfl
  have window : v.window = s.window := by rw [quiet, evalRisk_window, withCounts_window]; rfl
  have link : v.link = s.link := by rw [quiet, evalRisk_link, withCounts_link]; rfl
  have moves : (s.marked true cause).Moves v := by rw [hv]; exact (recount_reacts _).moves
  have alone : v.table.isolated = true := moves.isolated
  have state : v.pump.state = .claiming := by rw [pump]; exact claiming
  have closes : v.onIsolation = (v.closeClaim .withdrawn).enterIdle := by
    rw [onIsolation, if_pos alone, state]
    exact congrArg enterIdle (closeOwnClaim_of_holds _ (.inl state))
  have closed := closeClaim_moves .withdrawn v
  have leaves : (v.closeClaim .withdrawn).RestsOrStarts (v.closeClaim .withdrawn).enterIdle :=
    enterIdle_isolated (by rw [closed.started, moves.started]; exact started) (by rw [closed.isolated]; exact alone)
  refine ⟨v, pump, window, link, ?_⟩
  rw [setIsolated_of_change cause (by rw [joined]; simp), ← hv, closes]
  exact ⟨by rw [deliver_pump]; exact leaves.state, by rw [deliver_window]; exact leaves.window, by rw [deliver_link]; exact leaves.link⟩

/-- A claim closed while its START CLAIM is not on the line ends (R113, R117). -/
theorem closeClaim_window_of_ends (outcome : ClaimOutcome) (claims : s.window.claim ≠ .none) (ends : ¬ s.closingWaits) :
    (s.closeClaim outcome).window = s.window.released := by
  cases claim : s.window.claim
  case none => exact absurd claim claims
  case pending => rw [closeClaim_of_pending outcome claim fun sending => ends ⟨claim, sending⟩]; rfl
  case holding => rw [closeClaim_of_sent outcome (.inl claim)]; rfl
  case granted => rw [closeClaim_of_sent outcome (.inr claim)]; rfl

end State

theorem Link.reported_closing (l : Link) : l.reported.closing = l.closing := by
  unfold reported offer
  dsimp only
  split <;> rfl

/-- Settles O43. -/
theorem silenceIsolates : Obligations.SilenceIsolates := by
  intro s
  refine ⟨?house, ?alone⟩
  case alone =>
    intro due small
    refine ⟨_, congrArg Host.Outcome.next ((if_pos due).trans (if_neg (by omega))), rfl⟩
  case house =>
    intro working due house
    have started := State.started_of_working working
    obtain ⟨m, hm⟩ : ∃ m, m = s.withTable { s.table with silence := .reached } := ⟨_, rfl⟩
    have isolated : m.table.isolated = s.table.isolated := by rw [hm]; rfl
    have marks : m.marked true .silence = { s with table := { s.table with silence := .reached, isolated := true, cause := .silence } } := by
      rw [hm]; rfl
    have begun : m.started = true := by rw [hm]; exact started
    have state : m.pump.state = s.pump.state := by rw [hm]; rfl
    have window : m.window = s.window := by rw [hm]; rfl
    have link : m.link = s.link := by rw [hm]; rfl
    have reacts := m.setIsolated_reacts_marked true .silence
    refine ⟨m.setIsolated true .silence, congrArg Host.Outcome.next ((if_pos due).trans ?_), ?_, ?_, ?_, ?_, ?_, ?_, ?_⟩
    · rw [hm]; exact if_pos house
    · rw [← marks]; exact reacts.moves
    · intro joined
      have change : m.table.isolated ≠ true := by rw [isolated, joined]; simp
      obtain ⟨counts, limited⟩ := State.setIsolated_tallied .silence change
      refine ⟨State.setIsolated_raw .silence begun change, State.available_of_isolated counts ?_ (m.setIsolated_table true .silence).1,
        counts, limited⟩
      rw [reacts.moves.working, marks]
      exact working
    · intro alone
      rw [State.setIsolated_of_same .silence (isolated.trans alone), marks, ← alone]
    · intro joined claiming _
      obtain ⟨v, _, _, _, leaves⟩ := State.setIsolated_leaves .silence begun (isolated.trans joined) (state.trans claiming)
      intro same
      have rests := leaves.state
      rw [same] at rests
      simp at rests
    · intro joined claiming claims ends
      obtain ⟨v, _, same, port, leaves⟩ := State.setIsolated_leaves .silence begun (isolated.trans joined) (state.trans claiming)
      rw [leaves.window, State.closeClaim_window_of_ends .withdrawn (by rw [same, window]; exact claims)
        (by rw [State.closingWaits, same, port, window, link]; exact ends)]
      rfl
    · intro joined claiming closing
      obtain ⟨v, _, same, port, leaves⟩ := State.setIsolated_leaves .silence begun (isolated.trans joined) (state.trans claiming)
      rw [leaves.window, leaves.link, Link.reported_closing, State.closeClaim_of_waiting .withdrawn
        (by rw [State.closingWaits, same, port, window, link]; exact closing)]
      refine ⟨?_, ?_, ?_⟩
      · rw [State.withLink_window, same, window]; exact closing.1
      · rw [State.withLink_window, same, window]
      · rw [State.withLink_link, same, window]
    · exact (State.PointsBut.of_alarms (by rw [hm]; rfl) _).trans (m.setIsolated_points true .silence)

end Sys2Proof.Machine
end

section
/-! Timers of the port and of the start window, and a frame with the own number (O37, O38, O44): R68, R69, R80, R82, R97, R98, R105, R112. -/

namespace Sys2Proof.Machine

namespace State

variable {s : State}

/-! ## A RUNNING pump as the flag changes (R39, R99) -/

theorem onIsolation_of_other (waiting : s.pump.state ≠ .waiting) (claiming : s.pump.state ≠ .claiming) : s.onIsolation = s := by
  unfold onIsolation
  split
  · split
    case h_1 state => exact absurd state waiting
    case h_2 state => exact absurd state claiming
    case h_3 => rfl
  · split
    case h_1 state => exact absurd state waiting
    case h_2 => rfl

/-- A RUNNING pump keeps its block as new counts reach it, or stops. -/
theorem recount_of_running (running : s.pump.state = .running) :
    s.recount.pump = s.pump ∨
      s.recount.pump.state ∈ [PumpState.stopping, .lockout, .inhibited, .tripped] ∧ s.recount.pump.contactor = false := by
  rcases s.recount_pump_cases with same | moved
  · exact .inl same
  have stops : s.withCounts.onDemand = s.withCounts.immediateStop.dutyStop := by rw [onDemand, withCounts_pump, running]
  rw [moved, stops]
  rcases s.withCounts.stops_cases with same | ⟨cause, stopped⟩
  · rw [same, withCounts_pump]; exact .inl rfl
  · rw [stopped]; exact .inr ⟨stopPump_states _ cause, (stopPump_open cause _).1⟩

theorem setIsolated_of_running {flag : Bool} (cause : IsolationCause) (change : s.table.isolated ≠ flag) (running : s.pump.state = .running) :
    (s.setIsolated flag cause).pump = s.pump ∨ (s.setIsolated flag cause).pump.contactor = false := by
  have recounted := recount_of_running (s := s.marked flag cause) running
  rw [setIsolated_of_change cause change, deliver_pump]
  rcases recounted with same | ⟨states, opened⟩
  · rw [onIsolation_of_other (by rw [same, show (s.marked flag cause).pump = s.pump from rfl, running]; simp)
      (by rw [same, show (s.marked flag cause).pump = s.pump from rfl, running]; simp), same]
    exact .inl rfl
  · rw [onIsolation_of_other (by intro h; rw [h] at states; simp at states) (by intro h; rw [h] at states; simp at states)]
    exact .inr opened

theorem Moves.marked {t : State} (h : s.Moves t) (flag : Bool) (cause : IsolationCause) : (s.marked flag cause).Moves (t.marked flag cause) where
  start := h.start
  clock := h.clock
  pins := h.pins
  chanW := h.chanW
  chanX := h.chanX
  floats := h.floats
  screen := h.screen
  spill := h.spill
  town := h.town
  pending := h.pending
  table := congrArg (fun t : PeerTable => { t with isolated := flag, cause := cause }) h.table
  balance := h.balance

/-- DUPLICATE_ID has been delivered, as the duplicate timer takes a new value (R82). -/
def duplicated (duplicate : Timer) (raised : Bool) (s : State) : State :=
  (s.withLink { s.link with duplicate := duplicate }).deliver .duplicateId raised

theorem duplicated_moves (s : State) (duplicate : Timer) (raised : Bool) : s.Moves (s.duplicated duplicate raised) :=
  ((Moves.refl s).withLink _).deliver ..

theorem duplicated_delivers (started : s.started = true) (duplicate : Timer) (raised : Bool) :
    s.Delivers (s.duplicated duplicate raised) .duplicateId raised :=
  (deliver_delivers (s := s.withLink { s.link with duplicate := duplicate }) _ _ started).of_alarms rfl

theorem duplicated_link (s : State) (duplicate : Timer) (raised : Bool) :
    (s.duplicated duplicate raised).link = { s.link with duplicate := duplicate } := deliver_link ..

theorem duplicated_pump (s : State) (duplicate : Timer) (raised : Bool) : (s.duplicated duplicate raised).pump = s.pump := deliver_pump ..

theorem duplicated_window (s : State) (duplicate : Timer) (raised : Bool) : (s.duplicated duplicate raised).window = s.window :=
  deliver_window ..

/-- The points a duplicate station number moves (R82, R99). -/
theorem duplicated_points (started : s.started = true) (duplicate : Timer) (raised flag : Bool) (cause : IsolationCause) :
    s.PointsBut ((s.duplicated duplicate raised).setIsolated flag cause) [.duplicateId, .isolated, .overflowRisk] ∧
    ((s.duplicated duplicate raised).setIsolated flag cause).rawOf .duplicateId = raised := by
  obtain ⟨shown, points⟩ := duplicated_delivers started duplicate raised
  have isolated := (s.duplicated duplicate raised).setIsolated_points flag cause
  exact ⟨points.mono.trans isolated.mono, (isolated.rawOf (by simp)).trans shown⟩

/-! ## Bytes of a discarded frame (R69) -/

theorem senderOf_iff (b : Byte) (p : Station) : senderOf b = some p ↔ b = BitVec.ofNat 8 p.val := by
  unfold senderOf
  have small := p.isLt
  split
  case isTrue low =>
    rw [Option.some_inj]
    constructor
    · intro same
      have val : b.toNat = p.val := congrArg Fin.val same
      apply BitVec.eq_of_toNat_eq
      rw [val, BitVec.toNat_ofNat]
      omega
    · intro same
      apply Fin.ext
      show b.toNat = p.val
      rw [same, BitVec.toNat_ofNat]
      omega
  case isFalse high =>
    refine ⟨(fun h => nomatch h), fun same => absurd ?_ high⟩
    rw [same, BitVec.toNat_ofNat]
    omega

theorem checkedSender_of_bad {bytes : List Byte} (bad : bytes.length < 5 ∨ 32 < bytes.length ∨ crc bytes ≠ 0) : checkedSender bytes = none :=
  if_pos bad

theorem checkedSender_of_good {bytes : List Byte} (long : 5 ≤ bytes.length) (short : bytes.length ≤ 32) (good : crc bytes = 0) :
    ∃ b, bytes[1]? = some b ∧ checkedSender bytes = senderOf b := by
  unfold checkedSender
  rw [if_neg (by simp only [good, ne_eq, not_true_eq_false, or_false]; omega)]
  match bytes, long with
  | _ :: b :: _, _ => exact ⟨b, rfl, rfl⟩

end State

/-- Settles O37. -/
theorem linkTimersRun : Obligations.LinkTimersRun := by
  intro s
  refine ⟨?report, ?gap, ?duplicate, ?alone⟩
  case report =>
    intro started due
    exact ⟨_, congrArg Host.Outcome.next ((if_pos due).trans (if_pos started)), rfl⟩
  case gap =>
    intro started
    exact ⟨_, congrArg Host.Outcome.next (if_pos started), rfl⟩
  case duplicate =>
    intro started due runs house
    exact ⟨_, congrArg Host.Outcome.next ((if_pos due).trans (if_neg (by rintro (h | h); exacts [runs h, house h]))),
      State.deliver_alarmsOnly (s.withLink { s.link with duplicate := .stopped }) _ _, State.deliver_delivers _ _ started⟩
  case alone =>
    intro started due alone isolated
    have moved := s.duplicated_moves .stopped false
    obtain ⟨points, shown⟩ := State.duplicated_points started .stopped false false .none
    have link := s.duplicated_link .stopped false
    have pump := s.duplicated_pump .stopped false
    have step : exec .duplicateTimerExpiry s = .next ((s.duplicated .stopped false).setIsolated false .none) :=
      congrArg Host.Outcome.next ((if_pos due).trans (if_pos alone))
    obtain ⟨u, hu⟩ : ∃ u, u = s.duplicated .stopped false := ⟨_, rfl⟩
    rw [← hu] at moved points shown link pump step
    have change : u.table.isolated ≠ false := by rw [moved.isolated, isolated]; simp
    obtain ⟨joined, cause⟩ := u.setIsolated_table false .none
    refine ⟨_, step, ?_, shown, State.setIsolated_raw .none (moved.started.trans started) change, joined, cause, points,
      (moved.marked false .none).trans (u.setIsolated_reacts_marked false .none).moves, ?_⟩
    · rw [(u.setIsolated_keepsPort false .none).duplicate, link]
    · intro running closed
      rcases State.setIsolated_of_running .none change (by rw [pump]; exact running) with same | opened
      · rw [same, pump]; exact running
      · exact absurd (opened.symm.trans closed) Bool.false_ne_true

/-- Settles O38. -/
theorem discardedAndOwnFrames : Obligations.DiscardedAndOwnFrames := by
  intro s bytes framing
  refine ⟨?discarded, ?again, ?first⟩
  case discarded =>
    intro receives bad
    have unparsed : (if framing = true then none else parseFrame bytes) = none := by
      cases framing
      case true => rfl
      case false => exact if_pos (bad.resolve_left Bool.false_ne_true)
    refine ⟨s.discardFrame bytes, congrArg Host.Outcome.next ((if_pos receives).trans ?_), rfl, fun short => ?_, fun long short good => ?_⟩
    · rw [State.hearFrame, unparsed]
    · show (checkedSender bytes).getD _ = _
      rw [State.checkedSender_of_bad short]
      rfl
    · obtain ⟨b, second, sender⟩ := State.checkedSender_of_good long short good
      show (∀ p : Station, _ → (checkedSender bytes).getD _ = p) ∧ (_ → (checkedSender bytes).getD _ = _)
      rw [sender, second]
      refine ⟨fun p same => ?_, fun others => ?_⟩
      · rw [(State.senderOf_iff b p).mpr (Option.some_inj.mp same)]
        rfl
      · cases found : senderOf b with
        | none => rfl
        | some p => exact absurd (congrArg some ((State.senderOf_iff b p).mp found)) (others p)
  case again =>
    intro receives runs
    exact ⟨_, congrArg Host.Outcome.next ((if_pos receives).trans (if_pos runs)), rfl⟩
  case first =>
    intro receives stopped
    have started : s.started = true := by
      simp only [State.canReceive, Bool.and_eq_true] at receives
      exact receives.1.1
    have idle := State.quiet_of_canReceive receives
    obtain ⟨m, hm⟩ : ∃ m, m = s.withLink { s.link with lastSender := s.own } := ⟨_, rfl⟩
    have begun : m.started = true := by rw [hm]; exact started
    have moved : s.Moves (m.duplicated .start true) := by
      have heard : s.Moves m := by rw [hm]; exact (State.Moves.refl s).withLink _
      exact heard.trans (m.duplicated_moves .start true)
    obtain ⟨points, shown⟩ := State.duplicated_points begun .start true true .duplicate
    have link := m.duplicated_link .start true
    have pump : (m.duplicated .start true).pump = s.pump := by rw [State.duplicated_pump, hm]; rfl
    have window : (m.duplicated .start true).window = s.window := by rw [State.duplicated_window, hm]; rfl
    have step : exec .ownNumberFrame s = .next ((m.duplicated .start true).setIsolated true .duplicate) := by
      refine congrArg Host.Outcome.next ((if_pos receives).trans ?_)
      rw [hm]
      exact if_neg (by rw [State.withLink_link, stopped]; simp)
    have alarms : s.PointsBut m [.duplicateId, .isolated, .overflowRisk] := .of_alarms (by rw [hm]; rfl) _
    have sender : m.link = { s.link with lastSender := s.own } := by rw [hm]; rfl
    obtain ⟨u, hu⟩ : ∃ u, u = m.duplicated .start true := ⟨_, rfl⟩
    rw [← hu] at moved points shown link pump window step
    rw [sender] at link
    have kept := u.setIsolated_keepsPort true .duplicate
    have moves := (moved.marked true .duplicate).trans (u.setIsolated_reacts_marked true .duplicate).moves
    have change (joined : s.table.isolated = false) : u.table.isolated ≠ true := by rw [moved.isolated, joined]; simp
    obtain ⟨alone, cause⟩ := u.setIsolated_table true .duplicate
    refine ⟨_, step, ?_, ?_, shown, alone, cause, fun joined => State.setIsolated_raw .duplicate (moved.started.trans started) (change joined),
      fun working joined => ?_, fun joined claiming claims => ?_, alarms.trans points, moves⟩
    · rw [kept.lastSender, link]
    · rw [kept.duplicate, link]; rfl
    · obtain ⟨counts, _⟩ := State.setIsolated_tallied .duplicate (change joined)
      exact ⟨counts, State.available_of_isolated counts (moves.working.trans working) alone⟩
    · obtain ⟨v, _, same, port, leaves⟩ := State.setIsolated_leaves .duplicate (moved.started.trans started)
        (moved.isolated.trans joined) (by rw [pump]; exact claiming)
      have ends : ¬ v.closingWaits := by
        rw [State.closingWaits, port, link]
        simp [Link.sendingClass, idle]
      rw [leaves.window, State.closeClaim_window_of_ends .withdrawn (by rw [same, window]; exact claims) ends]
      rfl

end Sys2Proof.Machine
end

section
/-! The patience timer and the window timer (O44): R105, R106, R112. -/

namespace Sys2Proof.Machine

namespace State

variable {s : State}

/-- What evaluating the claim conditions with the window FREE makes of pump and view (R105, R106). -/
theorem evalClaim_view (free : s.window.view = .free) :
    s.evalClaim.window.view = .free ∨ (s.evalClaim.window.view = .own ∧ s.evalClaim.pump.state = .claiming ∧ s.pump.state = .waiting) := by
  by_cases may : s.mayClaim = true
  · rw [evalClaim_of_holds may, openClaim_window, openClaim_pump]
    exact .inr ⟨rfl, rfl, (mayClaim_iff.mp may).1⟩
  · rw [evalClaim_of_not may]
    exact .inl free

/-- The window's timer has run out: it is FREE, and WINDOW_TIMEOUT is offered (R112). -/
def timedOut (holder : Station) (number : Option Byte) (s : State) : State :=
  s.freeWindow.offerFrom holder .windowTimeout (s.table.entry holder).timeoutSubject
    [valueOf ((number.map BitVec.toNat).getD 256), valueOf s.cfg.windowLimit]

theorem timedOut_eq (holder : Station) (number : Option Byte) (s : State) :
    ∃ q, s.timedOut holder number = ({ s with window := { s.window with view := .free } } : State).withEvents q :=
  offerFrom_eq _ _ _ _ s.freeWindow

end State

/-- Settles O44. -/
theorem patienceAndTimeoutClaim : Obligations.PatienceAndTimeoutClaim := by
  intro s holder known best timer
  refine ⟨?patience, ?stays, ?timeout⟩
  case patience =>
    intro due waiting operating joined free
    obtain ⟨u, hu⟩ : ∃ u, u = s.withWindow { s.window with patience := .reached } := ⟨_, rfl⟩
    have may : u.mayClaim = true := by
      rw [State.mayClaim_iff, hu]
      exact ⟨waiting, operating, joined, free, .inr rfl⟩
    have reacts := u.openClaim_reacts
    have started : u.started = true := by rw [hu]; exact State.started_of_operating operating
    have moves : s.Moves u := by rw [hu]; exact (State.Moves.refl s).withWindow _
    have alarms : s.PointsBut u [.overflowRisk] := .of_alarms (by rw [hu]; rfl) _
    refine ⟨u.openClaim, congrArg Host.Outcome.next ((if_pos due).trans ?_), ?_, ?_, ?_, alarms.trans reacts.points, moves.trans reacts.moves⟩
    · rw [← hu, State.evalClaim_of_holds may]
    · rw [State.openClaim_pump, hu]; rfl
    · rw [State.openClaim_window, hu]; rfl
    · rw [State.openClaim_link started, hu]; rfl
  case stays =>
    intro due blocked
    refine ⟨_, congrArg Host.Outcome.next ((if_pos due).trans (State.evalClaim_of_not fun may => ?_)), rfl⟩
    obtain ⟨waiting, operating, joined, free, _⟩ := State.mayClaim_iff.mp may
    rcases blocked with h | h | h | h
    · exact h waiting
    · exact Bool.false_ne_true (h.symm.trans operating)
    · exact Bool.false_ne_true (joined.symm.trans h)
    · exact h free
  case timeout =>
    intro started held due
    have step : exec .windowTimerExpiry s = .next (s.timedOut holder known).evalClaim := by
      show execWindowTimerExpiry s = _
      rw [execWindowTimerExpiry, held]
      exact congrArg Host.Outcome.next (if_pos due)
    have records := State.records_of_offerFrom (s := s) (u := s.freeWindow) (t := (s.timedOut holder known).evalClaim) (m := 0) (n := 3)
      (source := holder) (kind := .windowTimeout) (subject := (s.table.entry holder).timeoutSubject)
      (values := [valueOf ((known.map BitVec.toNat).getD 256), valueOf s.cfg.windowLimit]) started rfl (.refl _ _)
      ((s.timedOut holder known).evalClaim_reacts.grows.1) (by rw [(s.timedOut holder known).evalClaim_reacts.moves.clock]; exact State.offerFrom_clock ..)
    obtain ⟨q, timed⟩ := s.timedOut_eq holder known
    obtain ⟨u, hu⟩ : ∃ u, u = s.timedOut holder known := ⟨_, rfl⟩
    rw [← hu] at step records timed
    have reacts := u.evalClaim_reacts
    have moves : s.Moves u := by
      rw [timed]
      exact ⟨rfl, rfl, rfl, rfl, rfl, rfl, rfl, rfl, rfl, rfl, rfl, rfl⟩
    have alarms : s.PointsBut u [.overflowRisk] := .of_alarms (by rw [timed]; rfl) _
    refine ⟨u.evalClaim, step, ?_, fun other => ?_, moves.trans reacts.moves, alarms.trans reacts.points, ?_⟩
    · have view := State.evalClaim_view (s := u) (by rw [timed]; rfl)
      rw [show u.pump = s.pump by rw [timed]; rfl] at view
      exact view
    · rw [State.evalClaim_of_other (by rw [timed]; exact other), timed]
      rfl
    · have subject : (s.table.entry holder).timeoutSubject = (match (s.table.entry holder).state, (s.table.entry holder).last with
          | .empty, _ => 255
          | _, some r => pumpStateCode r.pumpState
          | _, none => 255) := by
        unfold PeerEntry.timeoutSubject
        cases (s.table.entry holder).state <;> cases (s.table.entry holder).last <;> rfl
      rw [subject] at records
      cases known <;> exact records

end Sys2Proof.Machine
end

section
/-! The ageing of an entry (O42): R49, R86, R87, R91, R96, R100, R111. -/

namespace Sys2Proof.Machine

namespace PeerTable

theorem entry_withEntry_same (t : PeerTable) (p : Station) (e : PeerEntry) : (t.withEntry p e).entry p = e := by
  unfold entry withEntry
  simp

theorem entry_withEntry_other (t : PeerTable) {p q : Station} (e : PeerEntry) (other : q ≠ p) : (t.withEntry p e).entry q = t.entry q := by
  unfold entry withEntry
  simp only [Fin.getElem_fin]
  exact Vector.getElem_set_ne _ _ fun same => other (Fin.ext same.symm)

end PeerTable

namespace State

variable {s t : State}

theorem Moves.entry (h : s.Moves t) (p : Station) : t.table.entry p = s.table.entry p := by
  unfold PeerTable.entry
  rw [h.entries]

/-! ## The lockout's figure (R49) -/

theorem Moves.lockoutFigure (h : s.Moves t) : t.lockoutFigure = s.lockoutFigure := by
  unfold State.lockoutFigure spillSeen PeerTable.list
  rw [h.spill, h.entries, h.cfg]

/-- A pump that has rested or claimed is not in LOCKOUT. -/
theorem enterIdle_not_lockout (started : s.started = true) : s.enterIdle.pump.state ≠ .lockout := by
  intro lockout
  rcases enterIdle_outcome started with rests | claims
  · have states := rests.state
    rw [lockout] at states
    simp at states
  · exact absurd (claims.state.symm.trans lockout) (by simp)

/-- A pump in LOCKOUT stays there exactly while its timer is below the figure (R49). -/
theorem checkLockout_lockout (started : s.started = true) (lockout : s.pump.state = .lockout) :
    s.checkLockout.pump.state = .lockout ↔ s.pump.lockout.reading s.lockoutFigure < s.lockoutFigure := by
  by_cases passed : s.lockoutFigure ≤ s.pump.lockout.reading s.lockoutFigure
  · have ends : s.checkLockout = s.enterIdle := if_pos ⟨lockout, passed⟩
    rw [ends]
    exact ⟨fun still => absurd still (enterIdle_not_lockout started), fun below => absurd passed (Nat.not_le.mpr below)⟩
  · have stays : s.checkLockout = s := if_neg fun h => passed h.2
    rw [stays]
    exact ⟨fun _ => Nat.not_le.mp passed, fun _ => lockout⟩

theorem evalClaim_lockout (s : State) : s.evalClaim.pump.state = .lockout ↔ s.pump.state = .lockout := by
  by_cases may : s.mayClaim = true
  · rw [evalClaim_of_holds may, openClaim_pump, (mayClaim_iff.mp may).1]
    exact ⟨(fun h => nomatch h), (fun h => nomatch h)⟩
  · rw [evalClaim_of_not may]

/-! ## Events of peers (R100, R101) -/

theorem offerFrom_moves (s : State) (source : Station) (kind : EventKind) (subject : Nat) (values : List Word) :
    s.Moves (s.offerFrom source kind subject values) := by
  obtain ⟨q, same⟩ := offerFrom_eq source kind subject values s
  rw [same]
  exact ⟨rfl, rfl, rfl, rfl, rfl, rfl, rfl, rfl, rfl, rfl, rfl, rfl⟩

theorem offerFrom_reacts (s : State) (source : Station) (kind : EventKind) (subject : Nat) (values : List Word) (ps : List AlarmPoint) :
    s.Reacts (s.offerFrom source kind subject values) ps 1 :=
  ⟨s.offerFrom_moves .., .of_alarms (offerFrom_alarms ..) ps, s.offerFrom_grows .., (offerFrom_calm ..).tallied⟩

theorem offerPeerLost_reacts (s : State) (peer : Station) (ps : List AlarmPoint) : s.Reacts (s.offerPeerLost peer) ps 1 := by
  unfold offerPeerLost
  split
  · exact offerFrom_reacts ..
  · exact .refl ..

theorem offerPeerLost_eq (s : State) (peer : Station) : ∃ q, s.offerPeerLost peer = s.withEvents q := by
  unfold offerPeerLost
  split
  · exact offerFrom_eq ..
  · exact ⟨s.events, rfl⟩

/-! ## The window as an entry is lost (R111) -/

theorem freeWindow_reacts (s : State) (ps : List AlarmPoint) : s.Reacts s.freeWindow ps 0 := s.withWindow_reacts _ ps

theorem observeLost_cases (s : State) (peer : Station) :
    s.observeLost peer = s ∧ (∀ n best timer, s.window.view ≠ .held peer n best timer) ∨
      s.observeLost peer = s.freeWindow.evalClaim := by
  unfold observeLost
  split
  case h_1 holder _ _ _ view =>
    split
    case isTrue => exact .inr rfl
    case isFalse other =>
      refine .inl ⟨rfl, fun n best timer held => other ?_⟩
      rw [view] at held
      exact ((WindowView.held.injEq ..).mp held).1.symm
  case h_2 others => exact .inl ⟨rfl, others peer⟩

theorem observeLost_reacts (s : State) (peer : Station) : s.Reacts (s.observeLost peer) [.overflowRisk] 1 := by
  rcases s.observeLost_cases peer with ⟨same, _⟩ | frees
  · rw [same]
    exact .refl ..
  · rw [frees]
    exact (s.freeWindow_reacts _).trans (evalClaim_reacts _)

theorem observeLost_lockout (s : State) (peer : Station) : (s.observeLost peer).pump.state = .lockout ↔ s.pump.state = .lockout := by
  rcases s.observeLost_cases peer with ⟨same, _⟩ | frees
  · rw [same]
  · rw [frees]
    exact evalClaim_lockout s.freeWindow

/-- A window the lost peer held is no longer held by it. -/
theorem observeLost_view (s : State) (peer : Station) (held : (∃ n best timer, s.window.view = .held peer n best timer) ∨
    s.window.view = .free ∨ s.window.view = .own) : (s.observeLost peer).window.view = .free ∨ (s.observeLost peer).window.view = .own := by
  rcases s.observeLost_cases peer with ⟨same, others⟩ | frees
  · rw [same]
    exact held.resolve_left fun ⟨n, best, timer, view⟩ => others n best timer view
  · rw [frees]
    exact (evalClaim_view (s := s.freeWindow) rfl).imp_right And.left

/-! ## An entry with a new state -/

/-- An entry is replaced and the counts are handed on (R96). -/
def restored (peer : Station) (e : PeerEntry) (s : State) : State := s.withTable (s.table.withEntry peer e)

theorem restored_points (s : State) (peer : Station) (e : PeerEntry) : s.PointsBut (s.restored peer e).recount [.overflowRisk] :=
  (PointsBut.of_alarms (t := s.restored peer e) rfl _).trans (recount_reacts _).points

/-- The events an entry that enters LOST is followed by, from the state in which it has become LOST (R49, R100, R111). -/
def lostHandled (peer : Station) (s : State) : State := (s.recount.checkLockout.offerPeerLost peer).observeLost peer

theorem lostHandled_reacts (s : State) (peer : Station) : s.Reacts (s.lostHandled peer) [.overflowRisk] 11 :=
  ((s.recount_reacts.trans (checkLockout_reacts _)).trans (offerPeerLost_reacts _ peer _)).trans (observeLost_reacts _ peer)

theorem lostHandled_lockout (started : s.started = true) (peer : Station) (lockout : s.pump.state = .lockout) :
    (s.lostHandled peer).pump.state = .lockout ↔ s.pump.lockout.reading s.lockoutFigure < s.lockoutFigure := by
  have same : s.recount.pump = s.pump := by
    refine recount_pump_of_quiet ?_ ?_ ?_ <;> (rw [lockout]; simp)
  have moves := s.recount_reacts.moves
  have checks := checkLockout_lockout (s := s.recount) (moves.started.trans started) (by rw [same]; exact lockout)
  obtain ⟨q, offered⟩ := s.recount.checkLockout.offerPeerLost_eq peer
  rw [lostHandled, observeLost_lockout, offered, withEvents_pump, checks, same, moves.lockoutFigure]

theorem lostHandled_view (s : State) (peer : Station) {n : Option Byte} {best : DutyKey} {timer : Timer}
    (held : s.window.view = .held peer n best timer) :
    (s.lostHandled peer).window.view = .free ∨ (s.lostHandled peer).window.view = .own := by
  obtain ⟨q, offered⟩ := s.recount.checkLockout.offerPeerLost_eq peer
  refine observeLost_view _ peer ?_
  rw [offered, withEvents_window]
  exact (s.recount_keepsPort.trans (checkLockout_keepsPort _)).view.imp_left fun same => ⟨n, best, timer, same.trans held⟩

theorem offerPeerLost_of_heard {peer : Station} {r : Report} {heard : Stamp} (reporter : s.isReporter = true)
    (last : (s.table.entry peer).last = some r) (lastHeard : (s.table.entry peer).lastHeard = some heard) :
    s.offerPeerLost peer = s.offerFrom peer .peerLost (pumpStateCode r.pumpState)
      [heard.seconds, BitVec.ofNat 32 (if (s.table.entry peer).drawing then 1 else 0)] := by
  rw [offerPeerLost, reporter, last, lastHeard]
  rfl

theorem isReporter_iff : s.isReporter = true ↔ s.cfg.houseReporter = s.own.val := beq_iff_eq

/-- PEER_LOST as the entry of a peer enters LOST (R100). -/
theorem lostHandled_records {peer : Station} {r : Report} {heard : Stamp} (started : s.started = true)
    (reporter : s.isReporter = true) (last : (s.table.entry peer).last = some r) (lastHeard : (s.table.entry peer).lastHeard = some heard) :
    s.Records (s.lostHandled peer) 12 .peerLost peer (pumpStateCode r.pumpState)
      [heard.seconds, BitVec.ofNat 32 (if (s.table.entry peer).drawing then 1 else 0)] := by
  have before := s.recount_reacts.trans (checkLockout_reacts s.recount)
  have reports : s.recount.checkLockout.isReporter = true := by
    rw [isReporter, before.moves.cfg, before.moves.own]; exact reporter
  have offered := offerPeerLost_of_heard reports (by rw [before.moves.entry]; exact last) (by rw [before.moves.entry]; exact lastHeard)
  rw [before.moves.entry] at offered
  have after := (s.recount.checkLockout.offerPeerLost peer).observeLost_reacts peer
  refine records_of_offerFrom (u := s.recount.checkLockout) started before.moves.start before.grows ?_ ?_
  · rw [← offered]; exact after.grows.1
  · exact after.moves.clock.trans (by rw [offered]; exact offerFrom_clock ..)

end State

/-- Settles O42. -/
theorem entriesAge : Obligations.EntriesAge := by
  intro s peer r heard
  refine ⟨?stale, ?lost, ?release⟩
  case stale =>
    intro working fresh due
    have aged : (s.table.entry peer).ageLimit s.cfg.reportInterval = 3 * s.cfg.reportInterval := by rw [PeerEntry.ageLimit, if_pos fresh]
    obtain ⟨counts, limited⟩ := (s.restored peer { s.table.entry peer with state := .stale }).recount_tallied
    exact ⟨_, congrArg Host.Outcome.next (if_pos ⟨fresh, by rw [aged]; exact due⟩), State.recount_moves (State.restored ..), counts, limited,
      s.restored_points ..⟩
  case release =>
    intro working lost due
    obtain ⟨counts, limited⟩ := (s.restored peer { s.table.entry peer with release := .reached }).recount_tallied
    have moves := State.recount_moves (s.restored peer { s.table.entry peer with release := .reached })
    refine ⟨_, congrArg Host.Outcome.next (if_pos ⟨lost, due⟩), moves, ?_, counts, limited, s.restored_points ..⟩
    have entry := moves.entry peer
    refine (congrArg PeerEntry.drawing (entry.trans (PeerTable.entry_withEntry_same ..))).trans ?_
    unfold PeerEntry.drawing
    rw [lost]
    cases (s.table.entry peer).last with
    | none => rfl
    | some r => exact Bool.and_false _
  case lost =>
    intro working stale due last lastHeard
    have aged : (s.table.entry peer).ageLimit s.cfg.reportInterval = 10 * s.cfg.reportInterval := by
      rw [PeerEntry.ageLimit, stale]; rfl
    have started := State.started_of_working working
    have step : exec (.entryBecomesLost peer) s = .next ((s.restored peer ((s.table.entry peer).lose s.stamp)).lostHandled peer) :=
      congrArg Host.Outcome.next (if_pos ⟨stale, by rw [aged]; exact due⟩)
    obtain ⟨u, hu⟩ : ∃ u, u = s.restored peer ((s.table.entry peer).lose s.stamp) := ⟨_, rfl⟩
    rw [← hu] at step
    have entry : u.table.entry peer = (s.table.entry peer).lose s.stamp := by rw [hu]; exact PeerTable.entry_withEntry_same ..
    have pump : u.pump = s.pump := by rw [hu]; rfl
    have window : u.window = s.window := by rw [hu]; rfl
    have begun : u.started = true := by rw [hu]; exact started
    have reacts := u.lostHandled_reacts peer
    have moved := reacts.moves
    have tallied : (u.lostHandled peer).Tallied :=
      (((State.checkLockout_reacts u.recount).trans (State.offerPeerLost_reacts _ peer _)).trans (State.observeLost_reacts _ peer)).tallied u.recount_tallied
    obtain ⟨counts, limited⟩ := tallied
    refine ⟨_, step, ?_, counts, limited, ?_, fun lockout => ?_, fun n best timer held => ?_, fun reporter => ?_⟩
    · rw [hu] at moved ⊢; exact moved
    · exact (State.PointsBut.of_alarms (by rw [hu]; rfl) _).trans reacts.points
    · rw [State.lostHandled_lockout begun peer (by rw [pump]; exact lockout), moved.lockoutFigure, pump]
    · exact u.lostHandled_view peer (by rw [window]; exact held)
    · have records := State.lostHandled_records begun (State.isReporter_iff.mpr (by rw [hu]; exact reporter))
        (by rw [entry]; exact last) (by rw [entry]; exact lastHeard)
      have draws : (u.table.entry peer).drawing = (r.pumpState == .starting || r.flowing) := by
        rw [entry]
        unfold PeerEntry.drawing PeerEntry.lose
        rw [last]
        exact Bool.and_true _
      rw [draws] at records
      simp only [Bool.or_eq_true, beq_iff_eq] at records
      exact records.of_blocks (by rw [hu]; rfl) (by rw [hu]; rfl)

end Sys2Proof.Machine
end

section
/-! START CLAIM and START DONE of a peer (O40): R69, R107 to R109, R113, R116. -/

namespace Sys2Proof.Machine

theorem DutyKey.better_iff (a b : DutyKey) :
    a.better b = true ↔ a.hours < b.hours ∨ (a.hours = b.hours ∧ a.station.val < b.station.val) := by
  simp only [better, Bool.or_eq_true, Bool.and_eq_true, beq_iff_eq, decide_eq_true_eq]

namespace State

variable {s : State} {sender : Station}

/-- The sender of a frame has become the last sender (R69). -/
def heardFrom (sender : Station) (s : State) : State := s.withLink { s.link with lastSender := sender }

theorem heardFrom_moves (s : State) (sender : Station) : s.Moves (s.heardFrom sender) := (Moves.refl s).withLink _

/-- A frame taken in is handed on once its sender is the last sender (R69, R81). -/
theorem receive_of_takes (takes : s.TakesFrom sender) (body : FrameBody) :
    s.receive sender body = (s.heardFrom sender).handFrame sender body := by
  obtain ⟨receives, _, other⟩ := takes
  exact (if_pos receives).trans (if_neg other)

theorem exec_startClaim (takes : s.TakesFrom sender) (number : Byte) (hours : Half) :
    exec (.startClaim sender number hours) s = .next ((s.heardFrom sender).observeClaim sender number hours) :=
  congrArg Host.Outcome.next ((receive_of_takes takes (.startClaim number hours)).trans (if_pos takes.2.1))

theorem exec_startDone (takes : s.TakesFrom sender) (number : Byte) (outcome : ClaimOutcome) :
    exec (.startDone sender number outcome) s = .next ((s.heardFrom sender).observeDone sender number) :=
  congrArg Host.Outcome.next ((receive_of_takes takes (.startDone number outcome)).trans (if_pos takes.2.1))

/-! ## The view, case by case (R107 to R109, R113, R116) -/

theorem observeClaim_of_free {number : Byte} {hours : Half} (free : s.window.view = .free) :
    s.observeClaim sender number hours = s.holdWindow sender (some number) { hours := hours.toNat, station := sender } := by
  rw [observeClaim, free]

theorem observeClaim_of_held {number : Byte} {hours : Half} {holder : Station} {known : Option Byte} {best : DutyKey} {timer : Timer}
    (held : s.window.view = .held holder known best timer) :
    s.observeClaim sender number hours =
      if sender = holder ∨ DutyKey.better { hours := hours.toNat, station := sender } best = true then
        s.holdWindow sender (some number) { hours := hours.toNat, station := sender }
      else s := by
  rw [observeClaim, held]

theorem observeClaim_of_own {number : Byte} {hours : Half} (own : s.window.view = .own) :
    s.observeClaim sender number hours =
      if s.window.contestable = true ∧
          DutyKey.better { hours := hours.toNat, station := sender } (s.window.key.getD s.ownKey) = true then
        s.withdrawTo sender (some number) { hours := hours.toNat, station := sender }
      else s := by
  rw [observeClaim, own]

theorem contestable_iff (w : Window) : w.contestable = true ↔ w.claim = .pending ∨ w.claim = .holding := by
  simp only [Window.contestable, Bool.or_eq_true, beq_iff_eq]

theorem observeDone_of_held {number : Byte} {holder : Station} {known : Option Byte} {best : DutyKey} {timer : Timer}
    (held : s.window.view = .held holder known best timer) :
    s.observeDone sender number = if sender = holder ∧ (known = none ∨ known = some number) then s.freeWindow.evalClaim else s := by
  rw [observeDone, held]

theorem observeDone_of_other {number : Byte} (other : s.window.view = .free ∨ s.window.view = .own) : s.observeDone sender number = s := by
  rcases other with view | view <;> rw [observeDone, view]

/-! ## An own claim withdrawn for a peer's (R113) -/

theorem holdWindow_reacts (s : State) (holder : Station) (number : Option Byte) (best : DutyKey) (ps : List AlarmPoint) :
    s.Reacts (s.holdWindow holder number best) ps 0 := s.withWindow_reacts _ ps

theorem withdrawTo_reacts (s : State) (holder : Station) (number : Option Byte) (best : DutyKey) :
    s.Reacts (s.withdrawTo holder number best) [.overflowRisk] 2 := by
  have held := (s.closeClaim_reacts .withdrawn [.overflowRisk]).trans (holdWindow_reacts _ holder number best _)
  exact .ite (fun _ => held.trans (enterWaiting_reacts _)) (fun _ => held.mono)

/-- The window is the peer's, the own claim ended; a pump in CLAIMING rests or starts (R64, R113). -/
theorem withdrawTo_window {holder : Station} {number : Option Byte} {best : DutyKey} (started : s.started = true)
    (claims : s.window.claim ≠ .none) (idle : s.link.sending = none) :
    (s.withdrawTo holder number best).window.view = .held holder number best .start ∧
    (s.withdrawTo holder number best).window.claim = .none ∧
    (s.withdrawTo holder number best).window.hold = .stopped ∧
    (s.pump.state = .claiming → (s.withdrawTo holder number best).pump.state ∈ [PumpState.waiting, .idle, .starting]) ∧
    (s.pump.state ≠ .claiming → (s.withdrawTo holder number best).pump = s.pump) ∧
    (s.withdrawTo holder number best).link.lastSender = s.link.lastSender := by
  have ends : ¬ s.closingWaits := fun waits => by
    have sent := waits.2
    simp [Link.sendingClass, idle] at sent
  obtain ⟨u, hu⟩ : ∃ u, u = (s.closeClaim .withdrawn).holdWindow holder number best := ⟨_, rfl⟩
  have window : u.window = { s.window.released with view := .held holder number best .start } := by
    rw [hu, holdWindow, withWindow_window, closeClaim_window_of_ends .withdrawn claims ends]
  have pump : u.pump = s.pump := by rw [hu]; exact closeClaim_pump ..
  have link : u.link.lastSender = s.link.lastSender := by
    rw [hu]
    exact (s.closeClaim_keepsPort .withdrawn).lastSender
  have begun : u.started = true := by
    rw [hu]
    exact (closeClaim_moves .withdrawn s).started.trans started
  have form : s.withdrawTo holder number best = if s.pump.state = .claiming then u.enterWaiting else u := by
    rw [withdrawTo, ← hu]
  rw [form]
  by_cases claiming : s.pump.state = .claiming
  · have rests := (enterWaiting_outcome begun).resolve_right fun taken => by
      have free := taken.free
      rw [window] at free
      simp at free
    rw [if_pos claiming, rests.window, window]
    refine ⟨rfl, rfl, rfl, fun _ => ?_, fun other => absurd claiming other, u.enterWaiting_keepsPort.lastSender.trans link⟩
    have states := rests.state
    simp only [List.mem_cons, List.not_mem_nil, or_false] at states ⊢
    rcases states with h | h | h
    · exact .inr (.inl h)
    · exact .inl h
    · exact .inr (.inr h)
  · rw [if_neg claiming, window]
    exact ⟨rfl, rfl, rfl, fun same => absurd same claiming, fun _ => pump, link⟩

end State

/-- Settles O40. -/
theorem peersClaimAndRelease : Obligations.PeersClaimAndRelease := by
  intro s sender number hours o holder known best timer
  refine ⟨?takes, ?replaces, ?leaves, ?withdraws, ?stands, ?frees, ?other, ?none⟩
  case takes =>
    intro takes free
    exact ⟨_, State.exec_startClaim takes number hours, State.observeClaim_of_free (s := s.heardFrom sender) free⟩
  case replaces =>
    intro takes held better
    refine ⟨_, State.exec_startClaim takes number hours, (State.observeClaim_of_held (s := s.heardFrom sender) held).trans (if_pos ?_)⟩
    rw [DutyKey.better_iff]
    exact better
  case leaves =>
    intro takes held other worse
    refine ⟨_, State.exec_startClaim takes number hours, (State.observeClaim_of_held (s := s.heardFrom sender) held).trans (if_neg ?_)⟩
    rw [DutyKey.better_iff]
    exact not_or.mpr ⟨other, worse⟩
  case withdraws =>
    intro takes own contest better
    have started := State.started_of_working takes.2.1
    have claims : s.window.claim ≠ .none := by rcases contest with h | h <;> simp [h]
    obtain ⟨view, claim, hold, claiming, other, sent⟩ := State.withdrawTo_window (s := s.heardFrom sender) (holder := sender)
      (number := some number) (best := { hours := hours.toNat, station := sender }) started claims (State.quiet_of_canReceive takes.1)
    have reacts := (s.heardFrom sender).withdrawTo_reacts sender (some number) { hours := hours.toNat, station := sender }
    have alarms : s.PointsBut (s.heardFrom sender) [.overflowRisk] := .of_alarms rfl _
    refine ⟨_, (State.exec_startClaim takes number hours).trans (congrArg Host.Outcome.next ((State.observeClaim_of_own (s := s.heardFrom sender) own).trans (if_pos ?_))),
      sent, view, claim, hold, claiming, other, alarms.trans reacts.points, (s.heardFrom_moves sender).trans reacts.moves⟩
    rw [DutyKey.better_iff, State.contestable_iff]
    exact ⟨contest, better⟩
  case stands =>
    intro takes own keeps
    refine ⟨_, State.exec_startClaim takes number hours, (State.observeClaim_of_own (s := s.heardFrom sender) own).trans (if_neg ?_)⟩
    rw [DutyKey.better_iff, State.contestable_iff]
    rintro ⟨contest, better⟩
    rcases keeps with ⟨pending, holding⟩ | worse
    · exact contest.elim pending holding
    · exact worse better
  case frees =>
    intro takes held same knows
    have step := (State.exec_startDone takes number o).trans
      (congrArg Host.Outcome.next ((State.observeDone_of_held (s := s.heardFrom sender) held).trans (if_pos ⟨same, knows⟩)))
    obtain ⟨u, hu⟩ : ∃ u, u = (s.heardFrom sender).freeWindow := ⟨_, rfl⟩
    rw [← hu] at step
    have view := State.evalClaim_view (s := u) (by rw [hu]; rfl)
    have kept := u.evalClaim_keepsPort
    have moves : s.Moves u := by rw [hu]; exact (s.heardFrom_moves sender).withWindow _
    refine ⟨_, step, ?_, ?_, fun other => ?_, moves.trans u.evalClaim_reacts.moves⟩
    · rw [kept.lastSender, hu]; rfl
    · rw [show u.pump = s.pump by rw [hu]; rfl] at view
      exact view
    · rw [State.evalClaim_of_other (by rw [hu]; exact other), hu]
      rfl
  case other =>
    intro takes held differs
    refine ⟨_, State.exec_startDone takes number o, (State.observeDone_of_held (s := s.heardFrom sender) held).trans (if_neg ?_)⟩
    rintro ⟨same, knows⟩
    rcases differs with other | ⟨unknown, wrong⟩
    · exact other same
    · exact knows.elim unknown wrong
  case none =>
    intro takes view
    exact ⟨_, State.exec_startDone takes number o, State.observeDone_of_other (s := s.heardFrom sender) view⟩

end Sys2Proof.Machine
end

section
/-! The transmit slots (O34): R70, R75, R78, R79. -/

namespace Sys2Proof.Machine

/-- The normal position as the manual writes it, with the remainder of an integer (R70). -/
theorem normalPosition_eq (own last : Station) : normalPosition own last = (((own.val : Int) - last.val - 1) % 8).toNat + 1 := by
  have := own.isLt
  have := last.isLt
  unfold normalPosition
  omega

theorem TxEntry.position_eq (own last : Station) (e : TxEntry) :
    e.position own last = if e.attempts = 0 then (((own.val : Int) - last.val - 1) % 8).toNat + 1 else own.val + 9 := by
  rw [position, normalPosition_eq, retryPosition]

theorem slotOf_iff (p slot : Nat) : slotOf p slot = true ↔ p ≤ slot ∧ (slot - p) % 16 = 0 := by
  unfold slotOf
  rw [Bool.and_eq_true, decide_eq_true_iff, beq_iff_eq]
  omega

namespace State

variable {s : State} {e : TxEntry} {rest : List TxEntry} {slot : Nat}

theorem slotEntry_of_slot (receives : s.canReceive = true) (head : s.link.queue = e :: rest)
    (slots : slotOf (e.position s.own s.link.lastSender) slot = true) : s.slotEntry slot = some e := by
  rw [slotEntry, Link.chosen, head]
  exact if_pos ⟨receives, slots⟩

theorem slotEntry_of_other (head : s.link.queue = e :: rest) (other : ¬ slotOf (e.position s.own s.link.lastSender) slot = true) :
    s.slotEntry slot = none := by
  rw [slotEntry, Link.chosen, head]
  exact if_neg fun h => other h.2

theorem exec_slot (receives : s.canReceive = true) (head : s.link.queue = e :: rest)
    (slots : slotOf (e.position s.own s.link.lastSender) slot = true) : exec (.transmitSlot slot) s = .next (s.beginAttempt e) := by
  show execTransmitSlot slot s = _
  rw [execTransmitSlot, slotEntry_of_slot receives head slots]

end State

/-- The only entry of a queue, a REPORT, takes the number of its first attempt (R78). -/
theorem Link.numberReport_of_only {l : Link} {e : TxEntry} (only : l.queue = [e]) (report : e.body = .report) :
    l.numberReport = { l with
      queue := [{ e with sequence := some (e.sequence.getD l.sequence) }]
      sequence := if e.sequence.isSome then l.sequence else l.sequence + 1 } := by
  have cls : e.body.cls = 5 := by rw [report]; rfl
  have found : l.queue.find? (fun x => x.body.cls == 5) = some e := by rw [only, List.find?_cons_of_pos (by rw [cls]; rfl)]
  rw [numberReport, found]
  obtain ⟨body, attempts, sequence⟩ := e
  cases sequence with
  | none => simp [only, cls]
  | some n => simp [← only]

/-- Settles O34. -/
theorem slotsStartTheChosenFrame : Obligations.SlotsStartTheChosenFrame := by
  intro s e rest slot p
  have isSlot (at_ : p = e.position s.own s.link.lastSender) (reached : p ≤ slot) (whole : (slot - p) % 16 = 0) :
      slotOf (e.position s.own s.link.lastSender) slot = true := by
    rw [← at_]
    exact (slotOf_iff p slot).mpr ⟨reached, whole⟩
  refine ⟨?plain, ?report, ?other⟩
  case plain =>
    intro receives head at_ reached whole plain
    have cls : e.body.cls ≠ 5 := by
      cases body : e.body <;> simp_all [TxBody.cls]
    have begins : s.beginAttempt e = { s with link := { s.link with sending := some (s.frameOf e) } } := by
      rw [State.beginAttempt, if_neg cls]
      rfl
    refine ⟨_, State.exec_slot receives head (isSlot (by rw [TxEntry.position_eq]; exact at_) reached whole), ?_, ?_⟩
    · rw [begins]
    · rw [begins]
      refine congrArg some ?_
      unfold State.frameOf
      cases body : e.body
      case report => exact absurd body plain
      all_goals rfl
  case report =>
    intro receives head at_ reached whole report last
    have cls : e.body.cls = 5 := by rw [report]; rfl
    have begins : s.beginAttempt e = { s with link := { s.link with
        queue := [{ e with sequence := some (e.sequence.getD s.link.sequence) }]
        sequence := if e.sequence.isSome then s.link.sequence else s.link.sequence + 1
        sending := some (s.frameOf e) } } := by
      rw [State.beginAttempt, if_pos cls, Link.numberReport_of_only (by rw [head, last]) report]
      rfl
    refine ⟨_, State.exec_slot receives head (isSlot (by rw [TxEntry.position_eq]; exact at_) reached whole), ?_, ?_⟩
    · rw [begins]
    · rw [begins]
      refine congrArg some ?_
      unfold State.frameOf
      rw [report]
      refine congrArg FrameBody.report ?_
      unfold State.buildReport Screen.report SpillMonitor.report Pump.runHours SpillMonitor.reportVolume
      cases s.spill.list.find? (fun r => s.spill.number != 0 && r.number == s.spill.number) <;> rfl
  case other =>
    intro receives head at_ misses
    refine ⟨s, ?_, rfl⟩
    show execTransmitSlot slot s = _
    rw [execTransmitSlot, State.slotEntry_of_other head]
    rw [TxEntry.position_eq, ← at_, slotOf_iff]
    rintro ⟨reached, whole⟩
    exact misses.elim (Nat.not_lt.mpr reached) (absurd whole)

end Sys2Proof.Machine
end

section
/-! A frame that has gone out (O35): R74, R76, R77, R105, R114, R117. -/

namespace Sys2Proof.Machine

/-! ## Entries of the transmit queue (R75, R76) -/

theorem mem_upsert_self (b : TxBody) (q : List TxEntry) : ∃ e ∈ upsert b q, e.body = b := by
  induction q with
  | nil => exact ⟨_, List.mem_cons_self, rfl⟩
  | cons e rest ih =>
    unfold upsert
    split
    · exact ⟨_, List.mem_cons_self, rfl⟩
    · split
      · exact ⟨_, List.mem_cons_self, rfl⟩
      · obtain ⟨x, mem, body⟩ := ih
        exact ⟨x, List.mem_cons_of_mem _ mem, body⟩

/-- The entries of another kind stay as a frame enters the queue. -/
theorem upsert_filter_other {cls : Nat} (b : TxBody) (other : b.cls ≠ cls) (q : List TxEntry) :
    (upsert b q).filter (fun e => e.body.cls == cls) = q.filter (fun e => e.body.cls == cls) := by
  induction q with
  | nil => simp [upsert, other]
  | cons e rest ih =>
    by_cases same : e.body.cls = b.cls
    · simp [upsert, same, other]
    · by_cases before : b.cls < e.body.cls
      · simp [upsert, same, before, other]
      · simp [upsert, same, before, List.filter_cons, ih]

theorem TxBody.one_le_cls (b : TxBody) : 1 ≤ b.cls := by cases b <;> simp [cls]

/-- A START CLAIM enters at the head, and but for a START CLAIM the queue is as before (R75, R76). -/
theorem upsert_startClaim (n : Byte) (h : Half) (q : List TxEntry) :
    ∃ x rest, upsert (.startClaim n h) q = x :: rest ∧ x.body = .startClaim n h ∧
      rest.filter (fun e => e.body.cls != 1) = q.filter (fun e => e.body.cls != 1) := by
  cases q with
  | nil => exact ⟨_, _, rfl, rfl, rfl⟩
  | cons e rest =>
    by_cases same : e.body.cls = 1
    · exact ⟨_, rest, if_pos same, rfl, (List.filter_cons_of_neg (by simp [same])).symm⟩
    · have before : 1 < e.body.cls := Nat.lt_of_le_of_ne e.body.one_le_cls (Ne.symm same)
      exact ⟨_, e :: rest, (if_neg same).trans (if_pos before), rfl, rfl⟩

namespace Link

theorem offer_closing (l : Link) (b : TxBody) : (l.offer b).closing = l.closing := by
  unfold offer
  split
  · rfl
  · cases b
    case startClaim => dsimp only; split <;> rfl
    all_goals rfl

/-- On an idle line an offer enters the queue, or is a START CLAIM held back. -/
theorem offer_queue_of_idle {l : Link} (idle : l.sending = none) (b : TxBody) :
    (l.offer b).queue = upsert b l.queue ∨ (l.offer b).queue = l.queue := by
  have other : l.sendingClass ≠ some b.cls := by simp [sendingClass, idle]
  unfold offer
  rw [if_neg other]
  cases b
  case startClaim =>
    dsimp only
    split
    · exact .inr rfl
    · exact .inl rfl
  all_goals exact .inl rfl

theorem offer_of_idle {l : Link} (idle : l.sending = none) {b : TxBody} (plain : b.cls ≠ 1) :
    l.offer b = { l with queue := upsert b l.queue } := by
  have other : l.sendingClass ≠ some b.cls := by simp [sendingClass, idle]
  unfold offer
  rw [if_neg other]
  cases b
  case startClaim => exact absurd rfl plain
  all_goals rfl

theorem offer_filter_of_idle {l : Link} (idle : l.sending = none) {cls : Nat} {b : TxBody} (other : b.cls ≠ cls) :
    (l.offer b).queue.filter (fun e => e.body.cls == cls) = l.queue.filter (fun e => e.body.cls == cls) := by
  rcases offer_queue_of_idle idle b with enters | same
  · rw [enters, upsert_filter_other b other]
  · rw [same]

theorem reported_filter_of_idle {l : Link} (idle : l.sending = none) {cls : Nat} (other : cls ≠ 5) :
    l.reported.queue.filter (fun e => e.body.cls == cls) = l.queue.filter (fun e => e.body.cls == cls) :=
  offer_filter_of_idle idle (b := .report) (Ne.symm other)

end Link

namespace State

variable {s : State}

theorem releaseOffer_of_none (none : s.link.heldOffer = none) : s.releaseOffer = s := by rw [releaseOffer, none]

theorem releaseOffer_of_some {b : TxBody} (held : s.link.heldOffer = some b) :
    s.releaseOffer = s.withLink (({ s.link with heldOffer := none } : Link).offer b) := by
  rw [releaseOffer, held]
  rfl

/-- The port once its frame has gone out, before the start window is told (R74). -/
def sent (body : FrameBody) (s : State) : State := s.withLink (s.link.frameSent s.own body)

theorem exec_frameSent {body : FrameBody} (sending : s.link.sending = some body) :
    exec .frameSent s = .next ((s.sent body).tellSent body).releaseOffer := by
  show execFrameSent s = _
  rw [execFrameSent, sending]
  rfl

theorem tellSent_of_plain {body : FrameBody} (claim : body.cls ≠ 1) (done : body.cls ≠ 2) : s.tellSent body = s := by
  cases body
  case startClaim => exact absurd rfl claim
  case startDone => exact absurd rfl done
  all_goals
    unfold tellSent
    cases s.link.closing <;> rfl

theorem tellSent_of_claim {body : FrameBody} (claim : body.cls = 1) (open_ : s.link.closing = none) : s.tellSent body = s.claimSent := by
  cases body
  case startClaim => unfold tellSent; rw [open_]
  all_goals exact absurd claim (by simp [FrameBody.cls])

theorem tellSent_of_closing {body : FrameBody} {n : Byte} {o : ClaimOutcome} (claim : body.cls = 1) (closing : s.link.closing = some (n, o)) :
    s.tellSent body = (((s.withLink { s.link with closing := none }).endClaim).offerFrame (.startDone n o)).evalClaim := by
  cases body
  case startClaim => unfold tellSent; rw [closing]
  all_goals exact absurd claim (by simp [FrameBody.cls])

theorem tellSent_of_done {body : FrameBody} (done : body.cls = 2) : s.tellSent body = s.withLink s.link.releaseClaim := by
  cases body
  case startDone =>
    unfold tellSent
    cases s.link.closing <;> rfl
  all_goals exact absurd done (by simp [FrameBody.cls])

/-- The claim conditions are evaluated: nothing happens, or a WAITING pump claims (R105). -/
theorem evalClaim_cases (s : State) :
    s.evalClaim = s ∨ (s.started = true ∧ s.pump.state = .waiting ∧ s.evalClaim = s.openClaim) := by
  by_cases may : s.mayClaim = true
  · obtain ⟨waiting, operating, _⟩ := mayClaim_iff.mp may
    exact .inr ⟨started_of_operating operating, waiting, evalClaim_of_holds may⟩
  · exact .inl (evalClaim_of_not may)

/-- What a claim opened on an idle line leaves of the port. -/
theorem openClaim_port (started : s.started = true) (idle : s.link.sending = none) :
    s.openClaim.link.closing = s.link.closing ∧
    ∀ cls, cls ≠ 1 → cls ≠ 5 →
      s.openClaim.link.queue.filter (fun e => e.body.cls == cls) = s.link.queue.filter (fun e => e.body.cls == cls) := by
  rw [openClaim_link started]
  refine ⟨by rw [Link.reported_closing, Link.offer_closing], fun cls claim report => ?_⟩
  rw [Link.reported_filter_of_idle (by rw [Link.offer_sending]; exact idle) report, Link.offer_filter_of_idle idle (Ne.symm claim)]

theorem evalClaim_port (idle : s.link.sending = none) :
    s.evalClaim.link.closing = s.link.closing ∧
    ∀ cls, cls ≠ 1 → cls ≠ 5 →
      s.evalClaim.link.queue.filter (fun e => e.body.cls == cls) = s.link.queue.filter (fun e => e.body.cls == cls) := by
  rcases s.evalClaim_cases with same | ⟨started, _, claims⟩
  · rw [same]; exact ⟨rfl, fun _ _ _ => rfl⟩
  · rw [claims]; exact openClaim_port started idle

/-- The window and the pump as the claim conditions are evaluated with the own claim ended. -/
theorem evalClaim_released {w : Window} (window : s.window = w.released) :
    s.evalClaim.window = w.released ∧ s.evalClaim.pump = s.pump ∨
      s.pump.state = .waiting ∧ s.evalClaim.window.view = .own ∧ s.evalClaim.window.claim = .pending ∧
        s.evalClaim.window.number = w.number + 1 ∧ s.evalClaim.pump.state = .claiming := by
  rcases s.evalClaim_cases with same | ⟨_, waiting, claims⟩
  · rw [same]; exact .inl ⟨window, rfl⟩
  · rw [claims, openClaim_window, openClaim_pump, window]
    exact .inr ⟨waiting, rfl, rfl, rfl, rfl⟩

end State

/-- Settles O35. -/
theorem sentFramesLeaveTheQueue : Obligations.SentFramesLeaveTheQueue := by
  intro s body b n h o
  refine ⟨?plain, ?held, ?pending, ?other, ?closing, ?done, ?released⟩
  case plain =>
    intro sending held ⟨claim, done⟩
    refine ⟨_, State.exec_frameSent sending, ?_⟩
    rw [State.tellSent_of_plain claim done, State.releaseOffer_of_none (s := s.sent body) held]
    rfl
  case held =>
    intro sending held ⟨claim, done⟩
    refine ⟨_, State.exec_frameSent sending, ?_⟩
    rw [State.tellSent_of_plain claim done, State.releaseOffer_of_some (s := s.sent body) held]
    rfl
  case pending =>
    intro sending held claim closing pending
    have waits : (s.sent body).claimSent =
        (s.sent body).withWindow { s.window with claim := .holding, hold := .start } := if_pos pending
    refine ⟨_, State.exec_frameSent sending, ?_⟩
    rw [State.tellSent_of_claim (s := s.sent body) claim closing, waits, State.releaseOffer_of_none (by exact held)]
    rfl
  case other =>
    intro sending held claim closing other
    have still : (s.sent body).claimSent = s.sent body := if_neg other
    refine ⟨_, State.exec_frameSent sending, ?_⟩
    rw [State.tellSent_of_claim (s := s.sent body) claim closing, still, State.releaseOffer_of_none (s := s.sent body) held]
    rfl
  case done =>
    intro sending held done none
    refine ⟨_, State.exec_frameSent sending, ?_⟩
    have still : (s.sent body).link.releaseClaim = (s.sent body).link := by
      rw [Link.releaseClaim, show (s.sent body).link.heldClaim = Option.none from none]
    rw [State.tellSent_of_done done, still, State.releaseOffer_of_none (by exact held)]
    rfl
  case released =>
    intro sending held done claim
    have enters : (s.sent body).link.releaseClaim =
        { (s.sent body).link with heldClaim := Option.none, queue := upsert (.startClaim n h) (s.sent body).link.queue } := by
      rw [Link.releaseClaim, show (s.sent body).link.heldClaim = some (n, h) from claim]
    refine ⟨_, State.exec_frameSent sending, ?_⟩
    rw [State.tellSent_of_done done, enters, State.releaseOffer_of_none (by exact held)]
    obtain ⟨x, rest, enters, first, others⟩ := upsert_startClaim n h (s.sent body).link.queue
    refine ⟨rfl, ?_, ?_⟩
    · show ((upsert _ _).head?.map TxEntry.body) = _
      rw [enters, List.head?_cons, Option.map_some, first]
    · show ((upsert _ _).filter fun x => x.body.cls != 1) = _
      rw [enters, List.filter_cons_of_neg (by rw [first]; simp [TxBody.cls]), others]
      show ((s.link.queue.filter fun x => x.body.cls != body.cls).filter fun x => x.body.cls != 1) = _
      rw [List.filter_filter, done]
  case closing =>
    intro sending held claim closing
    obtain ⟨v, hv⟩ : ∃ v, v = (((s.sent body).withLink { (s.sent body).link with closing := Option.none }).endClaim).offerFrame
      (.startDone n o) := ⟨_, rfl⟩
    have told : (s.sent body).tellSent body = v.evalClaim := by
      rw [State.tellSent_of_closing (s := s.sent body) claim closing, hv]
    have link : v.link = ({ s.link with
        queue := s.link.queue.filter (fun x => x.body.cls != body.cls), sending := Option.none, lastSender := s.own,
        closing := Option.none } : Link).offer (.startDone n o) := by rw [hv]; rfl
    have window : v.window = s.window.released := by rw [hv]; rfl
    have pump : v.pump = s.pump := by rw [hv]; rfl
    have moves : s.Moves v := by
      rw [hv]
      exact (((State.Moves.refl s).withLink _).withLink _).withWindow _ |>.withLink _
    have alarms : s.PointsBut v [.overflowRisk] := .of_alarms (by rw [hv]; rfl) _
    have idle : v.link.sending = Option.none := by rw [link, Link.offer_sending]
    have none : v.link.heldOffer = Option.none := by rw [link, Link.offer_of_idle rfl (by simp [TxBody.cls])]; exact held
    have shut : v.link.closing = Option.none := by rw [link, Link.offer_closing]
    have kept := v.evalClaim_keepsPort
    obtain ⟨closings, others⟩ := State.evalClaim_port idle
    have offered : v.link.queue = upsert (.startDone n o) (s.link.queue.filter (fun x => x.body.cls != body.cls)) := by
      rw [link, Link.offer_of_idle rfl (by simp [TxBody.cls])]
    refine ⟨v.evalClaim, ?_, ?_, ?_, ?_, ?_, ?_, fun other => ?_, moves.trans v.evalClaim_reacts.moves,
      alarms.trans v.evalClaim_reacts.points⟩
    · rw [State.exec_frameSent sending, told, State.releaseOffer_of_none ((kept.held idle).trans none)]
    · obtain ⟨e, mem, same⟩ := mem_upsert_self (.startDone n o) (s.link.queue.filter (fun x => x.body.cls != body.cls))
      rw [← offered] at mem
      have among : e ∈ v.evalClaim.link.queue.filter (fun x => x.body.cls == 2) := by
        rw [others 2 (by simp) (by simp), List.mem_filter, same]
        exact ⟨mem, rfl⟩
      exact List.any_eq_true.mpr ⟨e, List.mem_of_mem_filter among, decide_eq_true same⟩
    · rw [kept.sending, idle]
    · rw [kept.lastSender, link, Link.offer_lastSender]
    · rw [closings, shut]
    · rw [← pump]; exact State.evalClaim_released window
    · rw [State.evalClaim_of_other (by rw [pump]; exact other), hv]
      rfl

end Sys2Proof.Machine
end

section
/-! An offer held during an attempt does not matter before the attempt has ended (R76). -/

namespace Sys2Proof.Machine

namespace State

/-- The state with another offer held. -/
def holding (h : Option TxBody) (s : State) : State := s.withLink { s.link with heldOffer := h }

/-- On an idle line the operation takes no account of the offer held, and leaves the line idle. -/
def IgnoresHeld (f : State → State) : Prop :=
  ∀ (h : Option TxBody) (s : State), s.link.sending = none → (f s).link.sending = none ∧ f (s.holding h) = (f s).holding h

namespace IgnoresHeld

variable {f g : State → State}

theorem id : IgnoresHeld fun s => s := fun _ _ idle => ⟨idle, rfl⟩

/-- An operation on other blocks. -/
theorem of_blocks (apart : ∀ h s, f (s.holding h) = (f s).holding h) (link : ∀ s, (f s).link = s.link) : IgnoresHeld f :=
  fun h s idle => ⟨by rw [link]; exact idle, apart h s⟩

theorem comp (outer : IgnoresHeld g) (inner : IgnoresHeld f) : IgnoresHeld fun s => g (f s) := by
  intro h s idle
  obtain ⟨still, apart⟩ := inner h s idle
  obtain ⟨quiet, same⟩ := outer h (f s) still
  exact ⟨quiet, (congrArg g apart).trans same⟩

theorem ite {c : State → Prop} [DecidablePred c] (same : ∀ h s, c (s.holding h) ↔ c s) (yes : IgnoresHeld f) (no : IgnoresHeld g) :
    IgnoresHeld fun s => if c s then f s else g s := by
  intro h s idle
  by_cases holds : c s
  · simp only [if_pos holds, if_pos ((same h s).mpr holds)]
    exact yes h s idle
  · simp only [if_neg holds, if_neg (mt (same h s).mp holds)]
    exact no h s idle

end IgnoresHeld

/-! ## The operations a failed attempt can lead to -/

theorem offerFrom_withLink (l : Link) (source : Station) (kind : EventKind) (subject : Nat) (values : List Word) (s : State) :
    (s.withLink l).offerFrom source kind subject values = (s.offerFrom source kind subject values).withLink l := by
  by_cases takes : (s.started && s.takesClass (eventClass kind)) = true
  · have offered : s.offerFrom source kind subject values = _ := if_pos takes
    rw [offered]
    exact if_pos takes
  · have still : s.offerFrom source kind subject values = s := if_neg takes
    rw [still]
    exact if_neg takes

theorem setPoint_withLink (l : Link) (i : Fin 25) (p : PointState) (cause : Nat) (s : State) :
    (s.withLink l).setPoint i p cause = (s.setPoint i p cause).withLink l := by
  by_cases same : p.ann = s.alarms.points[i].ann
  · have set : s.setPoint i p cause = _ := if_pos same
    rw [set]
    exact if_pos same
  · have set : s.setPoint i p cause = _ := if_neg same
    rw [set, offer, ← offerFrom_withLink]
    exact if_neg same

theorem deliver_withLink (l : Link) (p : AlarmPoint) (raw : Bool) (s : State) :
    (s.withLink l).deliver p raw = (s.deliver p raw).withLink l := by
  by_cases moves : s.started = true ∧ s.alarms.points[pointIndex p].raw ≠ raw
  · have delivered : s.deliver p raw = _ := if_pos moves
    rw [delivered, ← setPoint_withLink]
    exact if_pos moves
  · have still : s.deliver p raw = s := if_neg moves
    rw [still]
    exact if_neg moves

theorem withCounts_withLink (l : Link) (s : State) : (s.withLink l).withCounts = s.withCounts.withLink l := by
  by_cases working : s.working = true
  · have counted : s.withCounts = _ := if_pos working
    rw [counted]
    exact if_pos working
  · have still : s.withCounts = s := if_neg working
    rw [still]
    exact if_neg working

theorem deliver_ignoresHeld (p : AlarmPoint) (raw : State → Bool) (same : ∀ h s, raw (s.holding h) = raw s) :
    IgnoresHeld fun s => s.deliver p (raw s) := by
  refine .of_blocks (fun h s => ?_) (fun s => deliver_link ..)
  rw [same, holding, deliver_withLink, holding, deliver_link]

theorem withCounts_ignoresHeld : IgnoresHeld withCounts := by
  refine .of_blocks (fun h s => ?_) withCounts_link
  rw [holding, holding, withCounts_link, withCounts_withLink]

theorem evalRisk_ignoresHeld : IgnoresHeld evalRisk := deliver_ignoresHeld .overflowRisk overflowRisk fun _ _ => rfl

theorem offer_heldOffer {l : Link} (idle : l.sending = none) (h : Option TxBody) (b : TxBody) :
    ({ l with heldOffer := h } : Link).offer b = { l.offer b with heldOffer := h } := by
  have other : l.sendingClass ≠ some b.cls := by simp [Link.sendingClass, idle]
  have apart : ({ l with heldOffer := h } : Link).sendingClass ≠ some b.cls := other
  unfold Link.offer
  rw [if_neg other, if_neg apart]
  cases b
  case startClaim n hours =>
    by_cases done : l.holds 2 = true
    · have held : ({ l with heldOffer := h } : Link).holds 2 = true := done
      simp only [if_pos done, if_pos held]
    · have free : ¬ ({ l with heldOffer := h } : Link).holds 2 = true := done
      simp only [if_neg done, if_neg free]
  all_goals rfl

theorem offerFrame_ignoresHeld (b : State → TxBody) (same : ∀ h s, b (s.holding h) = b s) : IgnoresHeld fun s => s.offerFrame (b s) := by
  refine fun h s idle => ⟨(Link.offer_sending ..).trans idle, ?_⟩
  dsimp only
  rw [same]
  exact congrArg (fun l => s.withLink l) (offer_heldOffer idle h (b s))

theorem queueReport_ignoresHeld : IgnoresHeld queueReport := by
  refine .ite (fun _ _ => Iff.rfl) (fun h s idle => ⟨(Link.offer_sending .report s.link).trans idle, ?_⟩) .id
  exact congrArg (fun l : Link => s.withLink { l with report := .start }) (offer_heldOffer idle h .report)

theorem enter_ignoresHeld (st : PumpState) : IgnoresHeld (enter st) := by
  have entered : IgnoresHeld fun s => (s.withPump (s.pump.enter st)).withWindow
      { s.window with patience := if st = .waiting then .start else .stopped } := .of_blocks (fun _ _ => rfl) fun _ => rfl
  exact ((evalRisk_ignoresHeld.comp withCounts_ignoresHeld).comp queueReport_ignoresHeld).comp entered

theorem endClaim_ignoresHeld : IgnoresHeld endClaim := .of_blocks (fun _ _ => rfl) fun _ => rfl

theorem beginStagger_ignoresHeld : IgnoresHeld beginStagger := by
  have starts : IgnoresHeld fun s => s.withWindow { s.window with viaClaim := false } := .of_blocks (fun _ _ => rfl) fun _ => rfl
  have staggers : IgnoresHeld fun s => s.withPump { s.pump with stagger := .start } := .of_blocks (fun _ _ => rfl) fun _ => rfl
  exact .ite (fun _ _ => Iff.rfl) ((enter_ignoresHeld .starting).comp starts) staggers

theorem openClaim_ignoresHeld : IgnoresHeld openClaim := by
  have opens : IgnoresHeld fun s => s.withWindow { s.window with
      view := .own, claim := .pending, number := s.window.number + 1, key := some s.ownKey, hold := .stopped } :=
    .of_blocks (fun _ _ => rfl) fun _ => rfl
  have offers := offerFrame_ignoresHeld (fun s => .startClaim s.window.number (BitVec.ofNat 16 s.pump.runHours)) fun _ _ => rfl
  exact (enter_ignoresHeld .claiming).comp (offers.comp opens)

theorem evalClaim_ignoresHeld : IgnoresHeld evalClaim := .ite (fun _ _ => Iff.rfl) openClaim_ignoresHeld .id

theorem enterWaiting_ignoresHeld : IgnoresHeld enterWaiting := by
  have waits : IgnoresHeld fun w => if w.table.isolated = true then w.beginStagger else w.evalClaim :=
    .ite (c := fun w => w.table.isolated = true) (fun _ _ => Iff.rfl) beginStagger_ignoresHeld evalClaim_ignoresHeld
  have onward : IgnoresHeld fun w => if w.wanted = true then (if w.table.isolated = true then w.beginStagger else w.evalClaim)
      else w.enter .idle := .ite (c := fun w => w.wanted = true) (fun _ _ => Iff.rfl) waits (enter_ignoresHeld .idle)
  exact onward.comp (enter_ignoresHeld .waiting)

theorem claimDropped_ignoresHeld : IgnoresHeld claimDropped :=
  .ite (c := fun s => s.window.claim = .pending) (fun _ _ => Iff.rfl)
    (.ite (c := fun s => s.pump.state = .claiming) (fun _ _ => Iff.rfl) (enterWaiting_ignoresHeld.comp endClaim_ignoresHeld) endClaim_ignoresHeld)
    .id

end State

end Sys2Proof.Machine
end

section
/-! An attempt that has failed (O36): R72, R73, R76, R77, R84, R105, R114, R117. -/

namespace Sys2Proof.Machine

namespace Link

variable {l : Link} {body : FrameBody} {e : TxEntry}

/-- A queue in class order holds one entry of a kind (R75). -/
theorem entry_unique (ordered : (l.queue.map (fun e => e.body.cls)).Pairwise (· < ·)) (mem : e ∈ l.queue) {x : TxEntry} (other : x ∈ l.queue)
    (same : x.body.cls = e.body.cls) : x = e :=
  List.inj_on_of_nodup_map (ordered.imp fun less => Nat.ne_of_lt less) other mem same

/-- The entry of the frame has used up its attempts exactly at the fourth failure (R73). -/
theorem exhausted_iff (ordered : (l.queue.map (fun e => e.body.cls)).Pairwise (· < ·)) (mem : e ∈ l.queue) (of_frame : e.body.cls = body.cls) :
    (l.attemptFailed body).exhausted body.cls = true ↔ 3 ≤ e.attempts := by
  rw [exhausted, attemptFailed, List.any_map, List.any_eq_true]
  constructor
  · rintro ⟨x, among, four⟩
    simp only [Function.comp_apply] at four
    split at four
    case isTrue same =>
      rw [entry_unique ordered mem among (same.trans of_frame.symm)] at four
      simp at four
      omega
    case isFalse other => simp [other] at four
  · intro three
    refine ⟨e, mem, ?_⟩
    simp [of_frame, three]

/-- The entries of the other kinds are as before a failure. -/
theorem attemptFailed_filter (l : Link) (body : FrameBody) :
    (l.attemptFailed body).queue.filter (fun x => x.body.cls != body.cls) = l.queue.filter (fun x => x.body.cls != body.cls) := by
  rw [attemptFailed]
  induction l.queue with
  | nil => rfl
  | cons x rest ih =>
    by_cases same : x.body.cls = body.cls
    · simp [same] at ih ⊢
      exact ih
    · simp [same] at ih ⊢
      exact ih

/-- The port once the frame has been dropped at the attempt limit, the claim of a START CLAIM not told yet (R72, R73). -/
def givenUp (cls : Nat) (l : Link) : Link :=
  { l with
    sending := none, txErrors := min 65535 (l.txErrors + 1), failure := .running 0, queue := l.queue.filter (fun x => x.body.cls != cls) }

theorem giveUp_of_other (other : body.cls ≠ 2) : (l.attemptFailed body).giveUp body = l.givenUp body.cls := by
  have drops : (l.attemptFailed body).giveUp body = { (l.attemptFailed body).drop body.cls with failure := .start } := by
    cases body
    case startDone => exact absurd rfl other
    all_goals rfl
  rw [drops, drop, attemptFailed_filter]
  rfl

/-- The port once a START DONE begins its attempts again (R72, R73). -/
def begunAgain (l : Link) : Link :=
  { l with
    sending := none, txErrors := min 65535 (l.txErrors + 1), failure := .running 0,
    queue := l.queue.map (fun x => if x.body.cls = 2 then { x with attempts := 0 } else x) }

theorem giveUp_of_done (done : body.cls = 2) : (l.attemptFailed body).giveUp body = l.begunAgain := by
  have again : (l.attemptFailed body).giveUp body = { l.attemptFailed body with
      queue := (l.attemptFailed body).queue.map (fun e => if e.body.cls = 2 then { e with attempts := 0 } else e), failure := .start } := by
    cases body
    case startDone => rfl
    all_goals exact absurd done (by simp [FrameBody.cls])
  have queue : (l.attemptFailed body).queue.map (fun e => if e.body.cls = 2 then { e with attempts := 0 } else e) =
      l.queue.map (fun x => if x.body.cls = 2 then { x with attempts := 0 } else x) := by
    rw [attemptFailed, List.map_map]
    refine List.map_congr_left fun x _ => ?_
    by_cases two : x.body.cls = 2 <;> simp [two, done]
  rw [again, queue]
  rfl

theorem holds_iff (l : Link) (cls : Nat) : l.holds cls = true ↔ ∃ x ∈ l.queue, x.body.cls = cls := by
  simp only [holds, List.any_eq_true, beq_iff_eq]

end Link

namespace State

variable {s : State} {body : FrameBody} {e : TxEntry}

theorem exec_echoFailure (sending : s.link.sending = some body) :
    exec .echoFailure s = .next (((s.withLink (s.link.attemptFailed body)).attemptLimit body).tellFailed body).releaseOffer := by
  show execEchoFailure s = _
  rw [execEchoFailure, sending]

theorem attemptLimit_of_few (few : ¬ s.link.exhausted body.cls = true) : s.attemptLimit body = s := if_neg few

theorem attemptLimit_of_exhausted (exhausted : s.link.exhausted body.cls = true) :
    s.attemptLimit body = (s.withLink (s.link.giveUp body)).deliver .bayTxFail true := if_pos exhausted

theorem tellFailed_of_other (other : body.cls ≠ 1) : s.tellFailed body = s := by
  cases body
  case startClaim => exact absurd rfl other
  all_goals
    unfold tellFailed
    cases s.link.closing <;> rfl

theorem tellFailed_of_claim (claim : body.cls = 1) (open_ : s.link.closing = none) :
    s.tellFailed body = if s.link.holds 1 then s else s.claimDropped := by
  cases body
  case startClaim => unfold tellFailed; rw [open_]
  all_goals exact absurd claim (by simp [FrameBody.cls])

theorem tellFailed_of_closing {w : Byte × ClaimOutcome} (claim : body.cls = 1) (closing : s.link.closing = some w) :
    s.tellFailed body = ((s.withLink { (s.link.drop 1) with closing := none }).endClaim).evalClaim := by
  cases body
  case startClaim => unfold tellFailed; rw [closing]
  all_goals exact absurd claim (by simp [FrameBody.cls])

/-! ## The offer held (R76) -/

theorem tellFailed_ignoresHeld (body : FrameBody) : IgnoresHeld (tellFailed body) := by
  by_cases claim : body.cls = 1
  case neg =>
    intro h s idle
    rw [tellFailed_of_other claim, tellFailed_of_other claim]
    exact ⟨idle, rfl⟩
  intro h s idle
  cases closing : s.link.closing with
  | none =>
    have drops : IgnoresHeld fun s => if s.link.holds 1 = true then s else s.claimDropped :=
      .ite (c := fun s => s.link.holds 1 = true) (fun _ _ => Iff.rfl) .id claimDropped_ignoresHeld
    rw [tellFailed_of_claim claim closing, tellFailed_of_claim (s := s.holding h) claim closing]
    exact drops h s idle
  | some w =>
    have shuts : IgnoresHeld fun s => s.withLink { (s.link.drop 1) with closing := none } := fun _ _ idle => ⟨idle, rfl⟩
    rw [tellFailed_of_closing claim closing, tellFailed_of_closing (s := s.holding h) claim closing]
    exact evalClaim_ignoresHeld.comp (endClaim_ignoresHeld.comp shuts) h s idle

theorem attemptLimit_ignoresHeld (body : FrameBody) : IgnoresHeld (attemptLimit body) := by
  have gives : IgnoresHeld fun s => s.withLink (s.link.giveUp body) := by
    intro h s idle
    cases body <;> exact ⟨idle, rfl⟩
  exact .ite (c := fun s => s.link.exhausted body.cls = true) (fun _ _ => Iff.rfl)
    ((deliver_ignoresHeld .bayTxFail (fun _ => true) fun _ _ => rfl).comp gives) .id

/-- An operation that takes no account of the offer held leaves it held. -/
theorem IgnoresHeld.heldOffer {f : State → State} (ignores : IgnoresHeld f) (idle : s.link.sending = none) :
    (f s).link.heldOffer = s.link.heldOffer := by
  obtain ⟨_, same⟩ := ignores s.link.heldOffer s idle
  have kept : f s = (f s).holding s.link.heldOffer := same
  have field := congrArg (fun t : State => t.link.heldOffer) kept
  exact field

/-- A failed attempt but for the offer held (R72, R73, R77). -/
def failed (body : FrameBody) (s : State) : State := (s.attemptLimit body).tellFailed body

theorem failed_ignoresHeld (body : FrameBody) : IgnoresHeld (failed body) := (tellFailed_ignoresHeld body).comp (attemptLimit_ignoresHeld body)

theorem echoFailure_of_none (sending : s.link.sending = some body) (none : s.link.heldOffer = none) :
    exec .echoFailure s = .next ((s.withLink (s.link.attemptFailed body)).failed body) := by
  rw [exec_echoFailure sending]
  exact congrArg Host.Outcome.next (releaseOffer_of_none (((failed_ignoresHeld body).heldOffer rfl).trans none))

/-- The state after a failure below the fourth (R72). -/
def failedOnce (body : FrameBody) (s : State) : State := s.withLink (s.link.attemptFailed body)

/-- The state once the frame has been dropped at the fourth failure, the start window not told yet (R73). -/
def dropped (cls : Nat) (s : State) : State := (s.withLink (s.link.givenUp cls)).deliver .bayTxFail true

theorem dropped_link (s : State) (cls : Nat) : (s.dropped cls).link = s.link.givenUp cls := deliver_link ..
theorem dropped_window (s : State) (cls : Nat) : (s.dropped cls).window = s.window := deliver_window ..
theorem dropped_pump (s : State) (cls : Nat) : (s.dropped cls).pump = s.pump := deliver_pump ..
theorem dropped_moves (s : State) (cls : Nat) : s.Moves (s.dropped cls) := ((Moves.refl s).withLink _).deliver ..

theorem dropped_delivers (started : s.started = true) (cls : Nat) : s.Delivers (s.dropped cls) .bayTxFail true :=
  (deliver_delivers (s := s.withLink (s.link.givenUp cls)) _ _ started).of_alarms rfl

theorem dropped_alarmsOnly (s : State) (cls : Nat) : (s.withLink (s.link.givenUp cls)).AlarmsOnly (s.dropped cls) := deliver_alarmsOnly ..

/-- The state once a START DONE has begun its attempts again at the fourth failure (R73). -/
def begunAgain (s : State) : State := (s.withLink s.link.begunAgain).deliver .bayTxFail true

theorem begunAgain_alarmsOnly (s : State) : (s.withLink s.link.begunAgain).AlarmsOnly s.begunAgain := deliver_alarmsOnly ..

theorem begunAgain_delivers (started : s.started = true) : s.Delivers s.begunAgain .bayTxFail true :=
  (deliver_delivers (s := s.withLink s.link.begunAgain) _ _ started).of_alarms rfl

theorem limit_of_few (ordered : s.QueueInClassOrder) (mem : e ∈ s.link.queue) (of_frame : e.body.cls = body.cls) (few : e.attempts < 3) :
    (s.failedOnce body).attemptLimit body = s.failedOnce body :=
  attemptLimit_of_few (s := s.failedOnce body) fun exhausted =>
    absurd ((Link.exhausted_iff ordered mem of_frame).mp exhausted) (Nat.not_le.mpr few)

theorem limit_of_four (ordered : s.QueueInClassOrder) (mem : e ∈ s.link.queue) (of_frame : e.body.cls = body.cls) (four : 3 ≤ e.attempts)
    (other : body.cls ≠ 2) : (s.failedOnce body).attemptLimit body = s.dropped body.cls := by
  rw [attemptLimit_of_exhausted (s := s.failedOnce body) ((Link.exhausted_iff ordered mem of_frame).mpr four)]
  exact congrArg (fun l : Link => (s.withLink l).deliver .bayTxFail true) (Link.giveUp_of_other other)

theorem limit_of_done (ordered : s.QueueInClassOrder) (mem : e ∈ s.link.queue) (of_frame : e.body.cls = body.cls) (four : 3 ≤ e.attempts)
    (done : body.cls = 2) : (s.failedOnce body).attemptLimit body = s.begunAgain := by
  rw [attemptLimit_of_exhausted (s := s.failedOnce body) ((Link.exhausted_iff ordered mem of_frame).mpr four)]
  exact congrArg (fun l : Link => (s.withLink l).deliver .bayTxFail true) (Link.giveUp_of_done done)

theorem dropped_holds (s : State) (cls : Nat) : ¬ (s.dropped cls).link.holds cls = true := by
  rw [dropped_link, Link.holds_iff]
  rintro ⟨x, mem, same⟩
  have kept := (List.mem_filter.mp mem).2
  simp [same] at kept

/-- A START CLAIM dropped at the attempt limit is told to the start window (R77, R114). -/
theorem failed_of_dropped (ordered : s.QueueInClassOrder) (mem : e ∈ s.link.queue) (of_frame : e.body.cls = body.cls) (four : 3 ≤ e.attempts)
    (claim : body.cls = 1) (open_ : s.link.closing = none) : (s.failedOnce body).failed body = (s.dropped 1).claimDropped := by
  rw [failed, limit_of_four ordered mem of_frame four (by rw [claim]; simp), claim,
    tellFailed_of_claim claim (by rw [dropped_link]; exact open_), if_neg (s.dropped_holds 1)]

/-- The START CLAIM of a claim whose closing waits leaves the queue (R77, R117), from the state after the failure. -/
def shut (u : State) : State := (u.withLink { (u.link.drop 1) with closing := none }).endClaim

theorem failed_of_closing {w : Byte × ClaimOutcome} {u : State} (limited : (s.failedOnce body).attemptLimit body = u) (claim : body.cls = 1)
    (closing : u.link.closing = some w) : (s.failedOnce body).failed body = u.shut.evalClaim := by
  rw [failed, limited]
  exact tellFailed_of_closing claim closing

/-- The attempt limit takes no account of a closing that waits. -/
theorem attemptLimit_closing (s : State) (body : FrameBody) : (s.failedOnce body).attemptLimit body =
    { ((s.withLink { s.link with closing := none }).failedOnce body).attemptLimit body with
      link := { (((s.withLink { s.link with closing := none }).failedOnce body).attemptLimit body).link with closing := s.link.closing } } := by
  obtain ⟨l, hl⟩ : ∃ l : Link, l = { s.link with closing := none } := ⟨_, rfl⟩
  rw [← hl]
  by_cases exhausted : (s.failedOnce body).link.exhausted body.cls = true
  · have also : ((s.withLink l).failedOnce body).link.exhausted body.cls = true := by rw [hl]; exact exhausted
    have gives : ((s.failedOnce body).attemptLimit body) = (s.deliver .bayTxFail true).withLink ((s.link.attemptFailed body).giveUp body) :=
      (attemptLimit_of_exhausted exhausted).trans (deliver_withLink _ .bayTxFail true s)
    have alike : (((s.withLink l).failedOnce body).attemptLimit body) =
        (s.deliver .bayTxFail true).withLink ((l.attemptFailed body).giveUp body) :=
      (attemptLimit_of_exhausted also).trans (deliver_withLink _ .bayTxFail true s)
    rw [gives, alike, hl]
    cases body <;> rfl
  · have also : ¬ ((s.withLink l).failedOnce body).link.exhausted body.cls = true := by rw [hl]; exact exhausted
    rw [attemptLimit_of_few exhausted, attemptLimit_of_few also, hl]
    rfl

/-- The port and the alarm block after a failed START CLAIM, the start window not told yet (R72, R73). -/
structure ClaimFailed (e : TxEntry) (s u : State) : Prop where
  window : u.window = s.window
  pump : u.pump = s.pump
  moves : s.Moves u
  points : s.PointsBut u [.bayTxFail]
  sending : u.link.sending = none
  held : u.link.heldOffer = s.link.heldOffer
  closing : u.link.closing = s.link.closing
  errors : u.link.txErrors = min 65535 (s.link.txErrors + 1)
  queue : u.link.queue.filter (fun x => x.body.cls != 1) = s.link.queue.filter (fun x => x.body.cls != 1)
  few : e.attempts < 3 → u.rawOf .bayTxFail = s.rawOf .bayTxFail ∧ u.link.failure = s.link.failure
  four : 3 ≤ e.attempts → u.rawOf .bayTxFail = true ∧ u.link.failure = .running 0

theorem dropped_claimFailed (started : s.started = true) (four : 3 ≤ e.attempts) : s.ClaimFailed e (s.dropped 1) := by
  have link := s.dropped_link 1
  obtain ⟨raised, points⟩ := dropped_delivers started 1
  exact
    { window := s.dropped_window 1, pump := s.dropped_pump 1, moves := s.dropped_moves 1, points := points,
      sending := by rw [link]; rfl, held := by rw [link]; rfl, closing := by rw [link]; rfl, errors := by rw [link]; rfl,
      queue := by
        rw [link, Link.givenUp, List.filter_filter]
        simp only [Bool.and_self]
      few := fun few => absurd few (Nat.not_lt.mpr four), four := fun _ => ⟨raised, by rw [link]; rfl⟩ }

theorem failedOnce_claimFailed (claim : body.cls = 1) (few : e.attempts < 3) : s.ClaimFailed e (s.failedOnce body) where
  window := rfl
  pump := rfl
  moves := (Moves.refl s).withLink _
  points := .of_alarms rfl _
  sending := rfl
  held := rfl
  closing := rfl
  errors := rfl
  queue := by
    rw [← claim]
    exact s.link.attemptFailed_filter body
  few _ := ⟨rfl, rfl⟩
  four four := absurd few (Nat.not_lt.mpr four)

theorem limit_claimFailed (started : s.started = true) (ordered : s.QueueInClassOrder) (mem : e ∈ s.link.queue)
    (of_frame : e.body.cls = body.cls) (claim : body.cls = 1) : s.ClaimFailed e ((s.failedOnce body).attemptLimit body) := by
  by_cases few : e.attempts < 3
  · rw [limit_of_few ordered mem of_frame few]
    exact failedOnce_claimFailed claim few
  · rw [limit_of_four ordered mem of_frame (Nat.not_lt.mp few) (by rw [claim]; simp), claim]
    exact dropped_claimFailed started (Nat.not_lt.mp few)

end State

theorem filter_class_of_filter (q : List TxEntry) :
    (q.filter (fun x => x.body.cls != 1)).filter (fun x => x.body.cls == 2) = q.filter (fun x => x.body.cls == 2) := by
  rw [List.filter_filter]
  refine List.filter_congr fun x _ => ?_
  by_cases two : x.body.cls = 2 <;> simp [two]

theorem all_of_filter (q : List TxEntry) (empty : q.filter (fun x => x.body.cls == 1) = []) : q.all (fun x => x.body.cls != 1) = true := by
  rw [List.all_eq_true]
  intro x mem
  have other := List.filter_eq_nil_iff.mp empty x mem
  simpa using other

theorem filter_claim_of_filter (q : List TxEntry) : (q.filter (fun x => x.body.cls != 1)).filter (fun x => x.body.cls == 1) = [] := by
  rw [List.filter_eq_nil_iff]
  intro x mem
  simpa using (List.mem_filter.mp mem).2

/-- Settles O36. -/
theorem echoFailuresCountToFour : Obligations.EchoFailuresCountToFour := by
  intro s body e b w
  refine ⟨?few, ?drops, ?done, ?alone, ?unclaimed, ?claimed, ?closing, ?waits, ?held⟩
  case few =>
    intro _ ordered sending none mem of_frame open_ few
    refine ⟨_, State.echoFailure_of_none sending none, ?_⟩
    rw [← State.failedOnce, State.failed, State.limit_of_few ordered mem of_frame few]
    by_cases claim : body.cls = 1
    · have holds : (s.failedOnce body).link.holds 1 = true := by
        rw [Link.holds_iff]
        refine ⟨_, List.mem_map.mpr ⟨e, mem, rfl⟩, ?_⟩
        rw [if_pos of_frame]
        exact of_frame.trans claim
      rw [State.tellFailed_of_claim (s := s.failedOnce body) claim open_, if_pos holds]
      rfl
    · rw [State.tellFailed_of_other claim]
      rfl
  case drops =>
    intro started ordered sending none mem of_frame open_ four ⟨claim, done⟩
    refine ⟨_, State.echoFailure_of_none sending none, ?_⟩
    rw [← State.failedOnce, State.failed, State.limit_of_four ordered mem of_frame four done, State.tellFailed_of_other claim]
    exact ⟨s.dropped_alarmsOnly _, State.dropped_delivers started _⟩
  case done =>
    intro started ordered sending none mem of_frame open_ four done
    refine ⟨_, State.echoFailure_of_none sending none, ?_⟩
    rw [← State.failedOnce, State.failed, State.limit_of_done ordered mem of_frame four done, State.tellFailed_of_other (by rw [done]; simp)]
    exact ⟨s.begunAgain_alarmsOnly, State.begunAgain_delivers started⟩
  case alone =>
    intro started ordered sending none mem of_frame open_ four claim other
    refine ⟨_, State.echoFailure_of_none sending none, ?_⟩
    have still : (s.dropped 1).claimDropped = s.dropped 1 := if_neg (by rw [State.dropped_window]; exact other)
    rw [← State.failedOnce, State.failed_of_dropped ordered mem of_frame four claim open_, still]
    exact ⟨s.dropped_alarmsOnly 1, State.dropped_delivers started 1⟩
  case unclaimed =>
    intro started ordered sending none mem of_frame open_ four claim pending other
    refine ⟨_, State.echoFailure_of_none sending none, ?_⟩
    have ends : (s.dropped 1).claimDropped = (s.dropped 1).endClaim :=
      (if_pos (by rw [State.dropped_window]; exact pending)).trans (if_neg (by rw [State.dropped_pump]; exact other))
    rw [← State.failedOnce, State.failed_of_dropped ordered mem of_frame four claim open_, ends]
    refine ⟨?_, State.dropped_delivers started 1⟩
    obtain ⟨a, q, form⟩ := State.deliver_eq .bayTxFail true (s.withLink (s.link.givenUp 1))
    have shape : s.dropped 1 = ((s.withLink (s.link.givenUp 1)).withAlarms a).withEvents q := form
    rw [shape]
    rfl
  case claimed =>
    intro started ordered sending none mem of_frame open_ four claim pending claiming
    have failed := State.dropped_claimFailed started four
    have step := State.echoFailure_of_none sending none
    have returns : (s.dropped 1).claimDropped = (s.dropped 1).endClaim.enterWaiting :=
      (if_pos (by rw [failed.window]; exact pending)).trans (if_pos (by rw [failed.pump]; exact claiming))
    rw [← State.failedOnce, State.failed_of_dropped ordered mem of_frame four claim open_, returns] at step
    obtain ⟨v, hv⟩ : ∃ v, v = (s.dropped 1).endClaim := ⟨_, rfl⟩
    rw [← hv] at step
    have window : v.window = s.window.released := by rw [hv, ← failed.window]; rfl
    have link : v.link = s.link.givenUp 1 := by rw [hv]; exact s.dropped_link 1
    have idle : v.link.sending = Option.none := by rw [link]; rfl
    have moves : s.Moves v := by rw [hv]; exact failed.moves.withWindow _
    have points : s.PointsBut v [.bayTxFail, .overflowRisk] := by rw [hv]; exact failed.points.mono
    have raised : v.rawOf .bayTxFail = true := by rw [hv]; exact (failed.four four).1
    have reacts := v.enterWaiting_reacts
    have kept := v.enterWaiting_keepsPort
    have outcome := State.enterWaiting_outcome (s := v) (moves.started.trans started)
    have empty : v.link.queue.filter (fun x => x.body.cls == 1) = [] := by rw [link]; exact filter_claim_of_filter _
    have dones : v.link.queue.filter (fun x => x.body.cls == 2) = s.link.queue.filter (fun x => x.body.cls == 2) := by
      rw [link]; exact filter_class_of_filter _
    have reported : v.link.reported.sending = Option.none := (Link.offer_sending .report v.link).trans idle
    refine ⟨_, step, reacts.rawOf.trans raised, points.trans reacts.points.mono, ?_, moves.trans reacts.moves, ?_, fun free => ?_, ?_, ?_,
      ?_, kept.sending.trans idle, ?_⟩
    · rw [kept.failure, link]; rfl
    · rcases outcome with rests | claims
      · rw [rests.window, window]
        refine .inl ⟨rfl, rfl, ?_⟩
        have states := rests.state
        simp only [List.mem_cons, List.not_mem_nil, or_false] at states ⊢
        rcases states with h | h | h
        · exact .inr (.inl h)
        · exact .inl h
        · exact .inr (.inr h)
      · exact .inr ⟨claims.claim, claims.view, claims.state, by rw [claims.number, window]; rfl⟩
    · rcases outcome with rests | claims
      · rw [rests.link]
        exact all_of_filter _ ((Link.reported_filter_of_idle idle (by simp)).trans empty)
      · exact nomatch claims.claim.symm.trans free
    · rcases outcome with rests | claims
      · rw [rests.link, Link.reported_filter_of_idle idle (by simp), dones]
      · obtain ⟨b, cls, form⟩ := claims.link
        rw [form, Link.reported_filter_of_idle (by rw [Link.offer_sending]; exact reported) (by simp),
          Link.offer_filter_of_idle reported (by rw [cls]; simp), Link.reported_filter_of_idle idle (by simp), dones]
    · have shut : v.link.closing = Option.none := by rw [link]; exact open_
      rcases outcome with rests | claims
      · rw [rests.link, Link.reported_closing, shut]
      · obtain ⟨b, _, form⟩ := claims.link
        rw [form, Link.reported_closing, Link.offer_closing, Link.reported_closing, shut]
    · rw [kept.held idle, link]; exact none
    · rw [kept.txErrors, link]; rfl
  case closing =>
    intro started ordered sending none mem of_frame closing claim
    have failed := State.limit_claimFailed started ordered mem of_frame claim
    obtain ⟨u, hu⟩ : ∃ u, u = (s.failedOnce body).attemptLimit body := ⟨_, rfl⟩
    rw [← hu] at failed
    have step := State.echoFailure_of_none sending none
    rw [← State.failedOnce, State.failed_of_closing hu.symm claim (failed.closing.trans closing)] at step
    have window : u.shut.window = s.window.released := by
      rw [← failed.window]
      rfl
    have queue : u.shut.link.queue = s.link.queue.filter (fun x => x.body.cls != 1) := failed.queue
    have idle : u.shut.link.sending = Option.none := failed.sending
    have reacts := u.shut.evalClaim_reacts
    have kept := u.shut.evalClaim_keepsPort
    obtain ⟨closings, others⟩ := State.evalClaim_port idle
    have shown : u.shut.evalClaim.rawOf .bayTxFail = u.rawOf .bayTxFail := reacts.rawOf
    have moves : u.Moves u.shut := ((State.Moves.refl u).withLink _).withWindow _
    have points : u.PointsBut u.shut [.bayTxFail, .overflowRisk] := .of_alarms rfl _
    refine ⟨_, step, fun few => ?_, fun four => ?_, (failed.points.mono.trans points).trans reacts.points.mono,
      (failed.moves.trans moves).trans reacts.moves, ?_, fun free => ?_, ?_, closings, (kept.held idle).trans (failed.held.trans none),
      kept.sending.trans idle, kept.txErrors.trans failed.errors⟩
    · rw [shown, kept.failure]; exact failed.few few
    · rw [shown, kept.failure]; exact failed.four four
    · rw [← failed.pump]; exact State.evalClaim_released window
    · rcases u.shut.evalClaim_cases with same | ⟨_, _, claims⟩
      · rw [same, queue]
        exact all_of_filter _ (filter_claim_of_filter _)
      · rw [claims, State.openClaim_window] at free
        exact nomatch free
    · rw [others 2 (by simp) (by simp), queue, filter_class_of_filter]
  case waits =>
    intro started ordered sending none mem of_frame closing other
    refine ⟨_, State.echoFailure_of_none sending none, _,
      State.echoFailure_of_none (s := s.withLink { s.link with closing := Option.none }) sending none, ?_⟩
    rw [State.failed, State.failed, State.tellFailed_of_other other, State.tellFailed_of_other other, ← closing]
    exact s.attemptLimit_closing body
  case held =>
    intro sending held
    obtain ⟨n, hn⟩ : ∃ n, n = (s.holding Option.none).failedOnce body := ⟨_, rfl⟩
    have none := State.echoFailure_of_none (s := s.holding Option.none) sending rfl
    rw [← State.failedOnce, ← hn] at none
    have idle : n.link.sending = Option.none := by rw [hn]; rfl
    obtain ⟨_, apart⟩ := State.failed_ignoresHeld body (some b) n idle
    have free : (n.failed body).link.heldOffer = Option.none := by
      rw [(State.failed_ignoresHeld body).heldOffer idle, hn]
      rfl
    have with_offer : s.withLink (s.link.attemptFailed body) = n.holding (some b) := by
      rw [hn, ← held]
      rfl
    refine ⟨_, State.exec_echoFailure sending, _, none, ?_⟩
    rw [with_offer, ← State.failed, apart, State.releaseOffer_of_some (b := b) rfl]
    refine congrArg (fun l : Link => (n.failed body).withLink (l.offer b)) ?_
    rw [← free]
    rfl

end Sys2Proof.Machine
end

section
/-! What a good REPORT of a peer sets off at the sequencer, and the end of isolated mode (R49, R55, R90, R98). -/

namespace Sys2Proof.Machine.State

variable {s t : State}

/-! ## The steps after the entry has been stored (R90) -/

/-- The counts, the stop rule and the lockout's figure have been met (R49, R55, R96). -/
def sequenced (s : State) : State := s.recount.stopRule.checkLockout

/-- The same, and isolated mode ended where it ends (R98). -/
def rejoined (s : State) : State := s.sequenced.endIsolation

theorem stopRule_reacts (s : State) : s.Reacts s.stopRule [.overflowRisk] 5 := .ite (fun _ => .refl ..) (fun _ => s.dutyStop_reacts)

theorem sequenced_reacts (s : State) : s.Reacts s.sequenced [.overflowRisk] 14 :=
  (s.recount_reacts.trans (stopRule_reacts _)).trans (checkLockout_reacts _)

theorem sequenced_keepsPort (s : State) : s.KeepsPort s.sequenced :=
  (s.recount_keepsPort.trans (stopRule_keepsPort _)).trans (checkLockout_keepsPort _)

theorem sequenced_tallied (s : State) : s.sequenced.Tallied := ((stopRule_reacts _).trans (checkLockout_reacts _)).tallied s.recount_tallied

theorem stopRule_of_other (other : s.pump.state ≠ .running) : s.stopRule = s := by
  unfold stopRule
  split
  · rfl
  · exact if_neg fun h => other h.1

theorem stopRule_of_isolated (alone : s.table.isolated = true) : s.stopRule = s := if_pos alone

/-! ## The end of isolated mode (R98) -/

theorem endIsolation_of_kept (kept : s.table.isolated = false ∨ s.link.duplicate.isRunning = true) : s.endIsolation = s := by
  refine if_neg ?_
  rintro ⟨alone, stopped⟩
  rcases kept with joined | runs
  · exact Bool.false_ne_true (joined.symm.trans alone)
  · exact Bool.false_ne_true (stopped.symm.trans runs)

theorem endIsolation_of_ends (alone : s.table.isolated = true) (stopped : s.link.duplicate.isRunning = false) :
    s.endIsolation = s.setIsolated false .none := if_pos ⟨alone, stopped⟩

theorem endIsolation_keepsPort (s : State) : s.KeepsPort s.endIsolation := .ite (fun _ => s.setIsolated_keepsPort ..) (fun _ => .refl s)

theorem endIsolation_points (s : State) : s.PointsBut s.endIsolation [.isolated, .overflowRisk] := by
  unfold endIsolation
  split
  · exact s.setIsolated_points ..
  · exact .refl ..

theorem endIsolation_moves (s : State) : ∃ flag cause, (s.marked flag cause).Moves s.endIsolation := by
  unfold endIsolation
  split
  · exact ⟨false, .none, (s.setIsolated_reacts_marked ..).moves⟩
  · exact ⟨s.table.isolated, s.table.cause, .refl s⟩

theorem endIsolation_tallied (tallied : s.Tallied) : s.endIsolation.Tallied := by
  unfold endIsolation
  split
  case isTrue ends => exact setIsolated_tallied .none (by rw [ends.1]; simp)
  case isFalse => exact tallied

/-! ## What the pump makes of it -/

/-- A pump in one of the states that lead from rest to the start stays among them as new counts reach it. -/
theorem recount_starts (working : s.working = true) (ready : s.pump.state ∈ [PumpState.idle, .waiting, .claiming, .starting]) :
    s.recount.pump.state ∈ [PumpState.idle, .waiting, .claiming, .starting] := by
  rcases s.recount_pump_cases with same | moved
  · rw [same]; exact ready
  rw [moved]
  by_cases evaluates : s.pump.state = .idle ∨ s.pump.state = .waiting
  · rcases onDemand_of_ready (withCounts_tallied s) (by rw [withCounts_working]; exact working) (by rw [withCounts_pump]; exact evaluates) with
      same | ⟨_, states, _⟩
    · rw [same, withCounts_pump]; exact ready
    · exact states
  · have quiet : s.pump.state = .claiming ∨ s.pump.state = .starting := by simpa [not_or.mp evaluates] using ready
    rw [onDemand_of_quiet, withCounts_pump]
    · exact ready
    all_goals
      rw [withCounts_pump]
      rcases quiet with h | h <;> rw [h] <;> simp

theorem onIsolation_starts (joined : s.table.isolated = false) (ready : s.pump.state ∈ [PumpState.idle, .waiting, .claiming, .starting]) :
    s.onIsolation.pump.state ∈ [PumpState.idle, .waiting, .claiming, .starting] := by
  unfold onIsolation
  rw [if_neg (by rw [joined]; simp)]
  split
  · dsimp only
    split
    · rcases (s.withPump { s.pump with stagger := .stopped }).evalClaim_cases with same | ⟨_, _, claims⟩
      · rw [same]; exact ready
      · rw [claims, openClaim_pump]; simp [Pump.halted]
    · rw [enter_pump]; simp [Pump.enter]
  · exact ready

theorem setIsolated_starts (working : s.working = true) (cause : IsolationCause)
    (ready : s.pump.state ∈ [PumpState.idle, .waiting, .claiming, .starting]) :
    (s.setIsolated false cause).pump.state ∈ [PumpState.idle, .waiting, .claiming, .starting] := by
  by_cases same : s.table.isolated = false
  · rw [setIsolated_of_same cause same]; exact ready
  · rw [setIsolated_of_change cause same, deliver_pump]
    have moves := (s.marked false cause).recount_reacts.moves
    exact onIsolation_starts moves.isolated (recount_starts (s := s.marked false cause) working ready)

/-- The states in which neither demand nor the flag moves the pump. -/
theorem setIsolated_of_quiet {flag : Bool} (cause : IsolationCause) (change : s.table.isolated ≠ flag)
    (quiet : s.pump.state ∉ [PumpState.idle, .waiting, .claiming, .running]) :
    (s.setIsolated flag cause).pump = s.pump ∧ (s.setIsolated flag cause).window = s.window := by
  simp only [List.mem_cons, List.not_mem_nil, or_false, not_or] at quiet
  obtain ⟨idle, waiting, claiming, running⟩ := quiet
  have form : (s.marked flag cause).recount = (s.marked flag cause).withCounts.evalRisk := recount_of_quiet idle waiting running
  have pump : (s.marked flag cause).withCounts.evalRisk.pump = s.pump := by rw [evalRisk_pump, withCounts_pump]; rfl
  have window : (s.marked flag cause).withCounts.evalRisk.window = s.window := by rw [evalRisk_window, withCounts_window]; rfl
  rw [setIsolated_of_change cause change, form, onIsolation_of_other (by rw [pump]; exact waiting) (by rw [pump]; exact claiming),
    deliver_pump, deliver_window, pump, window]
  exact ⟨rfl, rfl⟩

theorem endIsolation_of_quiet (quiet : s.pump.state ∉ [PumpState.idle, .waiting, .claiming, .running]) :
    s.endIsolation.pump = s.pump ∧ s.endIsolation.window = s.window := by
  unfold endIsolation
  split
  case isTrue ends => exact setIsolated_of_quiet .none (by rw [ends.1]; simp) quiet
  case isFalse => exact ⟨rfl, rfl⟩

/-- A pump out of duty, stopping or starting is not touched. -/
theorem rejoined_of_quiet (quiet : s.pump.state ∉ [PumpState.lockout, .idle, .waiting, .claiming, .running]) :
    s.rejoined.pump = s.pump ∧ s.rejoined.window = s.window := by
  simp only [List.mem_cons, List.not_mem_nil, or_false, not_or] at quiet
  obtain ⟨lockout, idle, waiting, claiming, running⟩ := quiet
  have form : s.recount = s.withCounts.evalRisk := recount_of_quiet idle waiting running
  have pump : s.withCounts.evalRisk.pump = s.pump := by rw [evalRisk_pump, withCounts_pump]
  have window : s.withCounts.evalRisk.window = s.window := by rw [evalRisk_window, withCounts_window]
  have same : s.sequenced = s.withCounts.evalRisk := by
    rw [sequenced, form, stopRule_of_other (by rw [pump]; exact running), checkLockout_of_other (by rw [pump]; exact lockout)]
  obtain ⟨still, view⟩ := endIsolation_of_quiet (s := s.withCounts.evalRisk) (by rw [pump]; simp [idle, waiting, claiming, running])
  rw [rejoined, same, still, view, pump, window]
  exact ⟨rfl, rfl⟩

/-- A pump that has gone to IDLE and on is in one of the states that lead from rest to the start. -/
theorem enterIdle_starts (started : s.started = true) : s.enterIdle.pump.state ∈ [PumpState.idle, .waiting, .claiming, .starting] := by
  rcases enterIdle_outcome started with rests | claims
  · have states := rests.state
    simp only [List.mem_cons, List.not_mem_nil, or_false] at states
    rcases states with h | h | h <;> rw [h] <;> simp
  · rw [claims.state]; simp

/-- After the lockout's figure has been read the pump stands in LOCKOUT or in a state that leads from rest to the start. -/
theorem checkLockout_states (started : s.started = true) (lockout : s.pump.state = .lockout) :
    s.checkLockout.pump.state = .lockout ∨ s.checkLockout.pump.state ∈ [PumpState.idle, .waiting, .claiming, .starting] := by
  unfold checkLockout
  split
  · exact .inr (enterIdle_starts started)
  · exact .inl lockout

theorem endIsolation_starts (working : s.working = true) (ready : s.pump.state ∈ [PumpState.idle, .waiting, .claiming, .starting]) :
    s.endIsolation.pump.state ∈ [PumpState.idle, .waiting, .claiming, .starting] := by
  unfold endIsolation
  split
  · exact setIsolated_starts working .none ready
  · exact ready

/-- The end of isolated mode leaves a pump in LOCKOUT, and brings none there. -/
theorem endIsolation_lockout (working : s.working = true)
    (states : s.pump.state = .lockout ∨ s.pump.state ∈ [PumpState.idle, .waiting, .claiming, .starting]) :
    s.endIsolation.pump.state = .lockout ↔ s.pump.state = .lockout := by
  rcases states with lockout | ready
  · rw [(endIsolation_of_quiet (by rw [lockout]; simp)).1]
  · have after := endIsolation_starts working ready
    refine ⟨fun still => ?_, fun still => ?_⟩
    · rw [still] at after; simp at after
    · rw [still] at ready; simp at ready

/-- A LOCKOUT ends exactly where its timer has passed the figure (R49). -/
theorem rejoined_lockout (working : s.working = true) (lockout : s.pump.state = .lockout) :
    s.rejoined.pump.state = .lockout ↔ s.pump.lockout.reading s.lockoutFigure < s.lockoutFigure := by
  have same : s.recount.pump = s.pump := by
    refine recount_pump_of_quiet ?_ ?_ ?_ <;> (rw [lockout]; simp)
  have moves := s.recount_reacts.moves
  have form : s.sequenced = s.recount.checkLockout := by
    rw [sequenced, stopRule_of_other (by rw [same, lockout]; simp)]
  have figure := moves.lockoutFigure
  obtain ⟨u, hu⟩ : ∃ u, u = s.recount := ⟨_, rfl⟩
  rw [← hu] at same moves form figure
  have begun : u.started = true := moves.started.trans (started_of_working working)
  have still : u.pump.state = .lockout := by rw [same]; exact lockout
  have checked : u.checkLockout.working = true := (u.checkLockout_reacts.moves.working).trans (moves.working.trans working)
  rw [rejoined, form, endIsolation_lockout checked (checkLockout_states begun still), checkLockout_lockout begun still, same, figure]

/-! ## How many records it takes -/

theorem recount_grows_of_other (other : s.pump.state ≠ .running) : s.events.Grows 3 s.recount.events := by
  have demand : s.withCounts.Reacts s.withCounts.onDemand [.overflowRisk] 2 := by
    unfold onDemand
    rw [withCounts_pump]
    split
    · exact .ite (fun _ => enterWaiting_reacts _) (fun _ => .refl ..)
    · exact .ite (fun _ => .refl ..) (fun _ => (enter_reacts ..).mono)
    · exact absurd ‹_› other
    · exact .refl ..
  have handed : s.withCounts.Reacts s.recount [.overflowRisk] 3 :=
    Reacts.trans (.ite (fun _ => demand) (fun _ => .refl ..)) (evalRisk_reacts _)
  exact ((s.withCounts_reacts [.overflowRisk]).trans handed).grows

theorem onIsolation_grows_of_joined (joined : s.table.isolated = false) : s.events.Grows 1 s.onIsolation.events := by
  unfold onIsolation
  rw [if_neg (by rw [joined]; simp)]
  split
  · have plain : s.Reacts (s.withPump { s.pump with stagger := .stopped }) [.overflowRisk] 0 := withPump_reacts _
    exact (Reacts.ite (fun _ => plain.trans (evalClaim_reacts _)) (fun _ => plain.trans (enter_reacts ..))).grows
  · exact .refl ..

theorem setIsolated_grows_of_other (alone : s.table.isolated = true) (other : s.pump.state ≠ .running) :
    s.events.Grows 5 (s.setIsolated false .none).events := by
  rw [setIsolated_of_change .none (by rw [alone]; simp)]
  have counts := recount_grows_of_other (s := s.marked false .none) other
  have flag := onIsolation_grows_of_joined (s := (s.marked false .none).recount) (recount_reacts _).moves.isolated
  exact (counts.trans flag).trans (deliver_grows ..)

theorem setIsolated_grows_of_running (alone : s.table.isolated = true) (running : s.pump.state = .running) :
    s.events.Grows 7 (s.setIsolated false .none).events := by
  rw [setIsolated_of_change .none (by rw [alone]; simp)]
  have counts := (s.marked false .none).recount_reacts.grows
  have states : (s.marked false .none).recount.pump.state ∈ [PumpState.running, .stopping, .lockout, .inhibited, .tripped] := by
    rcases recount_of_running (s := s.marked false .none) running with same | ⟨states, _⟩
    · rw [same, show (s.marked false .none).pump = s.pump from rfl, running]; simp
    · exact List.mem_cons_of_mem _ states
  rw [onIsolation_of_other (by intro h; rw [h] at states; simp at states) (by intro h; rw [h] at states; simp at states)]
  exact counts.trans (deliver_grows ..)

/-- At most fourteen records come before the events of the peer. -/
theorem rejoined_grows (started : s.started = true) : s.events.Grows 14 s.rejoined.events := by
  have reacts := s.sequenced_reacts
  by_cases joined : s.table.isolated = false
  · rw [rejoined, endIsolation_of_kept (.inl (reacts.moves.isolated.trans joined))]
    exact reacts.grows
  have alone : s.table.isolated = true := by simpa using joined
  have counted := s.recount_reacts
  have form : s.sequenced = s.recount.checkLockout := by
    rw [sequenced, stopRule_of_isolated (counted.moves.isolated.trans alone)]
  have before : s.events.Grows 9 s.sequenced.events := by rw [form]; exact (counted.trans (checkLockout_reacts _)).grows
  by_cases runs : s.sequenced.link.duplicate.isRunning = true
  · rw [rejoined, endIsolation_of_kept (.inr runs)]
    exact before.mono
  rw [rejoined, endIsolation_of_ends (reacts.moves.isolated.trans alone) (by simpa using runs)]
  by_cases running : s.sequenced.pump.state = .running
  · have untouched : s.sequenced = s.recount := by
      rw [form] at running ⊢
      unfold checkLockout at running ⊢
      split
      case isTrue ends =>
        rw [if_pos ends] at running
        have rests := enterIdle_isolated (s := s.recount) (counted.moves.started.trans started) (counted.moves.isolated.trans alone)
        have states := rests.state
        rw [running] at states
        simp at states
      case isFalse => rfl
    have few : s.events.Grows 6 s.sequenced.events := by rw [untouched]; exact counted.grows
    exact (few.trans (setIsolated_grows_of_running (reacts.moves.isolated.trans alone) running)).mono
  · exact before.trans (setIsolated_grows_of_other (reacts.moves.isolated.trans alone) running)

end Sys2Proof.Machine.State
end

section
/-! A good REPORT of a peer (O39): R49, R69, R81, R86 to R90, R96 to R98, R100, R101, R110. -/

namespace Sys2Proof.Machine

/-! ## The entry of the sender (R86 to R90, R100, R101) -/

/-- The frame shows that its sender has restarted (R89). -/
theorem restarts_iff (old r : Report) :
    old.restarts r = true ↔ (r.pumpState = .startup ∨ r.pumpState = .unconfigured) ∧
      ((old.pumpState ≠ .startup ∧ old.pumpState ≠ .unconfigured) ∨ (r.sequence = 0 ∧ old.sequence ≠ 0)) := by
  simp only [Report.restarts, PumpState.afterReset, Bool.and_eq_true, Bool.or_eq_true, Bool.not_eq_true', Bool.or_eq_false_iff, beq_iff_eq,
    beq_eq_false_iff_ne, bne_iff_ne]

namespace PeerEntry

variable {e : PeerEntry} {r old : Report}

theorem seen_of_known (known : e.state = .fresh ∨ e.state = .stale) : e.seen = e.last := if_pos known

theorem seen_of_unknown (unknown : e.state = .empty ∨ e.state = .lost) : e.seen = none := by
  refine if_neg ?_
  rcases unknown with h | h <;> simp [h]

theorem missedAfter_of_seen (seen : e.seen = some old) : e.missedAfter r =
    if (r.pumpState = .startup ∨ r.pumpState = .unconfigured) ∧
       ((old.pumpState ≠ .startup ∧ old.pumpState ≠ .unconfigured) ∨ (r.sequence = 0 ∧ old.sequence ≠ 0)) then e.missed
    else min 65535 (e.missed + ((r.sequence - old.sequence).toNat - 1)) := by
  rw [missedAfter, seen]
  by_cases restarts : old.restarts r = true
  · rw [if_pos ((restarts_iff old r).mp restarts)]
    exact if_pos restarts
  · rw [if_neg (mt (restarts_iff old r).mpr restarts)]
    exact if_neg restarts

theorem missedAfter_of_unseen (unseen : e.seen = none) : e.missedAfter r = e.missed := by rw [missedAfter, unseen]

theorem joinCause_of_empty (empty : e.state = .empty) : e.joinCause r = some 0 := by rw [joinCause, empty]

theorem joinCause_of_lost (lost : e.state = .lost) : e.joinCause r = some 1 := by rw [joinCause, lost]

theorem joinCause_of_known (known : e.state = .fresh ∨ e.state = .stale) (last : e.last = some old) :
    e.joinCause r = if old.restarts r = true then some 2 else none := by
  rcases known with state | state <;> rw [joinCause, state, last]

theorem stopsWith_iff : e.stopsWith r = true ↔ e.last.map Report.pumpState = some .running ∧ r.pumpState = .stopping := by
  rw [stopsWith, Bool.and_eq_true, beq_iff_eq]
  cases e.last with
  | none => simp
  | some old => simp

/-- The spill whose end the REPORT shows (R101). -/
theorem spillEnded_of_ended {was now : WeirSection} (seen : e.seen = some old) (before : old.weir = some was) (after : r.weir = some now)
    (open_ : was.state = .spilling ∨ was.state = .ending) (closed : now.state = .none) (same : now.number = was.number) :
    e.spillEnded r = some now := by
  rw [spillEnded, seen, after]
  simp only [Option.bind_some, before]
  exact if_pos ⟨open_, closed, same⟩

end PeerEntry

namespace State

variable {s : State} {sender : Station} {r : Report}

/-! ## The REPORT stored (R88 to R90, R97) -/

theorem storeReport_eq (s : State) (sender : Station) (r : Report) : s.storeReport sender r =
    (s.withTable { (s.table.withEntry sender ((s.table.entry sender).store s.stamp r)) with
      silence := if s.operating then .start else s.table.silence }).withPump
      { s.pump with spacing := if (s.table.entry sender).stopsWith r then .start else s.pump.spacing } := by
  unfold storeReport
  dsimp only
  split <;> rfl

/-! ## The events of a peer (R100, R101) -/

theorem offerPeerSpillEnd_eq (s : State) (peer : Station) (ended : Option WeirSection) : ∃ q, s.offerPeerSpillEnd peer ended = s.withEvents q := by
  cases ended with
  | none => exact ⟨s.events, rfl⟩
  | some w => exact offerFrom_eq ..

theorem offerPeerSpillEnd_grows (s : State) (peer : Station) (ended : Option WeirSection) :
    s.events.Grows 1 (s.offerPeerSpillEnd peer ended).events := by
  cases ended with
  | none => exact .mono (.refl _ 0)
  | some w => exact s.offerFrom_grows ..

theorem offerPeerAlarm_eq (s : State) (peer : Station) (old r : Report) : ∃ q, s.offerPeerAlarm peer old r = s.withEvents q := by
  unfold offerPeerAlarm
  split
  · exact ⟨s.events, rfl⟩
  · exact offerFrom_eq ..

theorem offerPeerAlarm_grows (s : State) (peer : Station) (old r : Report) : s.events.Grows 1 (s.offerPeerAlarm peer old r).events := by
  unfold offerPeerAlarm
  split
  · exact .mono (.refl _ 0)
  · exact s.offerFrom_grows ..

theorem offerPeerEvents_eq (s : State) (peer : Station) (before : PeerEntry) (r : Report) :
    ∃ q, s.offerPeerEvents peer before r = s.withEvents q := by
  unfold offerPeerEvents
  split
  · split
    · exact offerFrom_eq ..
    · obtain ⟨q, first⟩ := s.offerPeerAlarm_eq peer ‹_› r
      obtain ⟨q', second⟩ := (s.offerPeerAlarm peer ‹_› r).offerPeerSpillEnd_eq peer (before.spillEnded r)
      exact ⟨q', by rw [second, first]; rfl⟩
    · exact ⟨s.events, rfl⟩
  · exact ⟨s.events, rfl⟩

theorem offerPeerEvents_of_join {before : PeerEntry} {cause : Nat} (reporter : s.isReporter = true)
    (joins : before.joinCause r = some cause) : s.offerPeerEvents sender before r =
      s.offerFrom sender .peerJoined (pumpStateCode r.pumpState) [BitVec.ofNat 32 cause, r.summary.setWidth 32] := by
  rw [offerPeerEvents, if_pos reporter, joins]
  rfl

theorem offerPeerEvents_of_known {before : PeerEntry} {old : Report} (reporter : s.isReporter = true) (joins : before.joinCause r = none)
    (seen : before.seen = some old) : s.offerPeerEvents sender before r =
      (s.offerPeerAlarm sender old r).offerPeerSpillEnd sender (before.spillEnded r) := by
  rw [offerPeerEvents, if_pos reporter, joins, seen]

/-! ## The window (R110, R113) -/

theorem withdrawTo_keeps (started : s.started = true) (holder : Station) (number : Option Byte) (best : DutyKey) :
    (s.withdrawTo holder number best).link.lastSender = s.link.lastSender ∧
    (s.withdrawTo holder number best).pump.spacing = s.pump.spacing ∧
    ((s.withdrawTo holder number best).pump.state = .lockout ↔ s.pump.state = .lockout) := by
  obtain ⟨u, hu⟩ : ∃ u, u = (s.closeClaim .withdrawn).holdWindow holder number best := ⟨_, rfl⟩
  have pump : u.pump = s.pump := by rw [hu]; exact closeClaim_pump ..
  have link : u.link.lastSender = s.link.lastSender := by
    rw [hu]
    exact (s.closeClaim_keepsPort .withdrawn).lastSender
  have begun : u.started = true := by
    rw [hu]
    exact (closeClaim_moves .withdrawn s).started.trans started
  have form : s.withdrawTo holder number best = if s.pump.state = .claiming then u.enterWaiting else u := by
    rw [hu]
    rfl
  rw [form]
  by_cases claiming : s.pump.state = .claiming
  · rw [if_pos claiming]
    have kept := u.enterWaiting_keepsPort
    refine ⟨kept.lastSender.trans link, kept.spacing.trans (by rw [pump]), fun still => ?_, fun still => ?_⟩
    · rcases enterWaiting_outcome begun with rests | claims
      · have states := rests.state
        rw [still] at states
        simp at states
      · exact absurd (claims.state.symm.trans still) (by simp)
    · exact absurd (claiming.symm.trans still) (by simp)
  · rw [if_neg claiming, pump]
    exact ⟨link, rfl, Iff.rfl⟩

theorem viewReport_cases (s : State) (sender : Station) (r : Report) :
    (∃ w, s.viewReport sender r = s.withWindow w) ∨
      ∃ number best, s.viewReport sender r = s.withdrawTo sender number best := by
  unfold viewReport
  dsimp only
  split
  · split
    · exact .inl ⟨_, rfl⟩
    · exact .inl ⟨s.window, rfl⟩
  · split
    · exact .inl ⟨_, rfl⟩
    · exact .inl ⟨s.window, rfl⟩
  · split
    · exact .inr ⟨_, _, rfl⟩
    · exact .inl ⟨s.window, rfl⟩

theorem viewReport_reacts (s : State) (sender : Station) (r : Report) : s.Reacts (s.viewReport sender r) [.overflowRisk] 2 := by
  rcases s.viewReport_cases sender r with ⟨w, form⟩ | ⟨number, best, form⟩
  · rw [form]; exact (s.withWindow_reacts w [.overflowRisk]).mono
  · rw [form]; exact s.withdrawTo_reacts ..

theorem viewReport_keeps (started : s.started = true) (sender : Station) (r : Report) :
    (s.viewReport sender r).link.lastSender = s.link.lastSender ∧ (s.viewReport sender r).pump.spacing = s.pump.spacing ∧
    ((s.viewReport sender r).pump.state = .lockout ↔ s.pump.state = .lockout) := by
  rcases s.viewReport_cases sender r with ⟨w, form⟩ | ⟨number, best, form⟩
  · rw [form]; exact ⟨rfl, rfl, Iff.rfl⟩
  · rw [form]; exact withdrawTo_keeps started ..

theorem observeReport_reacts (s : State) (sender : Station) (r : Report) : s.Reacts (s.observeReport sender r) [.overflowRisk] 3 :=
  (s.viewReport_reacts sender r).trans (evalClaim_reacts _)

theorem observeReport_keeps (started : s.started = true) (sender : Station) (r : Report) :
    (s.observeReport sender r).link.lastSender = s.link.lastSender ∧ (s.observeReport sender r).pump.spacing = s.pump.spacing ∧
    ((s.observeReport sender r).pump.state = .lockout ↔ s.pump.state = .lockout) := by
  obtain ⟨sent, spacing, lockout⟩ := viewReport_keeps started sender r
  have kept := (s.viewReport sender r).evalClaim_keepsPort
  exact ⟨kept.lastSender.trans sent, kept.spacing.trans spacing, (evalClaim_lockout _).trans lockout⟩

theorem observeReport_of_free (free : s.window.view = .free) (other : s.pump.state ≠ .waiting) :
    (s.observeReport sender r).window.view =
      if r.pumpState = .starting then .held sender none { hours := r.runHours.toNat, station := sender } (.running 0) else .free := by
  have form : s.viewReport sender r =
      if r.pumpState = .starting then s.holdWindow sender none { hours := r.runHours.toNat, station := sender } else s := by
    rw [viewReport, free]
  by_cases starting : r.pumpState = .starting
  · rw [if_pos starting] at form ⊢
    rw [observeReport, form, evalClaim_of_other (by exact other)]
    rfl
  · rw [if_neg starting] at form ⊢
    rw [observeReport, form, evalClaim_of_other other, free]

theorem observeReport_of_held {n : Option Byte} {best : DutyKey} {timer : Timer} (held : s.window.view = .held sender n best timer)
    (other : s.pump.state ≠ .waiting) :
    (s.observeReport sender r).window.view = if r.pumpState = .claiming ∨ r.pumpState = .starting then s.window.view else .free := by
  have form : s.viewReport sender r =
      if sender = sender ∧ r.pumpState ≠ .claiming ∧ r.pumpState ≠ .starting then s.freeWindow else s := by
    rw [viewReport, held]
  by_cases stays : r.pumpState = .claiming ∨ r.pumpState = .starting
  · rw [if_neg fun h => stays.elim h.2.1 h.2.2] at form
    rw [if_pos stays, observeReport, form, evalClaim_of_other other]
  · rw [if_pos ⟨rfl, not_or.mp stays⟩] at form
    rw [if_neg stays, observeReport, form, evalClaim_of_other (by exact other)]
    rfl

/-! ## The REPORT handed on (R90) -/

theorem takeReport_eq (s : State) (sender : Station) (r : Report) : s.takeReport sender r =
    ((s.storeReport sender r).rejoined.offerPeerEvents sender (s.table.entry sender) r).observeReport sender r := rfl

/-- What the steps after the entry has been stored leave and settle, up to the events of the peer and the window. -/
theorem rejoined_moves (s : State) : ∃ flag cause, (s.marked flag cause).Moves s.rejoined := by
  obtain ⟨flag, cause, moves⟩ := s.sequenced.endIsolation_moves
  exact ⟨flag, cause, (s.sequenced_reacts.moves.marked flag cause).trans moves⟩

theorem rejoined_points (s : State) : s.PointsBut s.rejoined [.isolated, .overflowRisk] :=
  s.sequenced_reacts.points.mono.trans s.sequenced.endIsolation_points

theorem rejoined_keepsPort (s : State) : s.KeepsPort s.rejoined := s.sequenced_keepsPort.trans (endIsolation_keepsPort _)

theorem rejoined_tallied (s : State) : s.rejoined.Tallied := endIsolation_tallied s.sequenced_tallied

end State

end Sys2Proof.Machine
end

section
/-! The REPORT of a peer, from the frame to the house values (O39). -/

namespace Sys2Proof.Machine

namespace State

variable {s : State} {sender : Station} {r : Report}

/-- The state with the REPORT stored and its sender the last sender (R69, R88, R90, R97). -/
def stored (sender : Station) (r : Report) (s : State) : State :=
  { s with
    link := { s.link with lastSender := sender }
    table := { (s.table.withEntry sender ((s.table.entry sender).store s.stamp r)) with
      silence := if s.operating then .start else s.table.silence }
    pump := { s.pump with spacing := if (s.table.entry sender).stopsWith r then .start else s.pump.spacing } }

theorem storeReport_heardFrom (s : State) (sender : Station) (r : Report) : (s.heardFrom sender).storeReport sender r = s.stored sender r :=
  storeReport_eq ..

/-- The state once the peer's events have been offered, before the window is told (R90, R100, R101). -/
def peerOffered (sender : Station) (r : Report) (s : State) : State :=
  (s.stored sender r).rejoined.offerPeerEvents sender (s.table.entry sender) r

theorem exec_report (takes : s.TakesFrom sender) :
    exec (.report sender r) s = .next ((s.peerOffered sender r).observeReport sender r) := by
  refine congrArg Host.Outcome.next ((receive_of_takes takes (.report r)).trans ((if_pos takes.2.1).trans ?_))
  rw [takeReport_eq, storeReport_heardFrom]
  rfl

theorem stored_entry (s : State) (sender : Station) (r : Report) :
    (s.stored sender r).table.entry sender = (s.table.entry sender).store s.stamp r := PeerTable.entry_withEntry_same s.table ..

theorem stored_entry_other (s : State) (r : Report) {p : Station} (other : p ≠ sender) :
    (s.stored sender r).table.entry p = s.table.entry p := PeerTable.entry_withEntry_other s.table _ other

theorem peerOffered_eq (s : State) (sender : Station) (r : Report) :
    ∃ q, s.peerOffered sender r = (s.stored sender r).rejoined.withEvents q := offerPeerEvents_eq ..

theorem withEvents_moves (s : State) (q : EventQueue) : s.Moves (s.withEvents q) :=
  ⟨rfl, rfl, rfl, rfl, rfl, rfl, rfl, rfl, rfl, rfl, rfl, rfl⟩

/-- The blocks a REPORT leaves, up to the isolated flag and its cause. -/
theorem reportTaken_moves (s : State) (sender : Station) (r : Report) :
    ∃ flag cause, ((s.stored sender r).marked flag cause).Moves ((s.peerOffered sender r).observeReport sender r) := by
  obtain ⟨flag, cause, moves⟩ := (s.stored sender r).rejoined_moves
  have after := ((s.peerOffered sender r).observeReport_reacts sender r).moves
  obtain ⟨q, offered⟩ := s.peerOffered_eq sender r
  have events : (s.stored sender r).rejoined.Moves (s.peerOffered sender r) := by
    rw [offered]
    exact withEvents_moves ..
  exact ⟨flag, cause, (moves.trans events).trans after⟩

theorem reportTaken_points (s : State) (sender : Station) (r : Report) :
    s.PointsBut ((s.peerOffered sender r).observeReport sender r) [.isolated, .overflowRisk] := by
  have before : s.PointsBut (s.stored sender r) [.isolated, .overflowRisk] := .of_alarms rfl _
  obtain ⟨q, offered⟩ := s.peerOffered_eq sender r
  have events : (s.stored sender r).rejoined.PointsBut (s.peerOffered sender r) [.isolated, .overflowRisk] :=
    .of_alarms (by rw [offered]; rfl) _
  exact ((before.trans (rejoined_points _)).trans events).trans ((s.peerOffered sender r).observeReport_reacts sender r).points.mono

theorem reportTaken_tallied (s : State) (sender : Station) (r : Report) : ((s.peerOffered sender r).observeReport sender r).Tallied :=
  ((s.peerOffered sender r).observeReport_reacts sender r).tallied ((offerPeerEvents_calm ..).tallied (rejoined_tallied _))

theorem stored_grows (started : s.started = true) (sender : Station) (r : Report) :
    s.events.Grows 14 (s.stored sender r).rejoined.events := rejoined_grows (s := s.stored sender r) started

theorem rejoined_start (s : State) : s.rejoined.start = s.start := by
  obtain ⟨_, _, moves⟩ := s.rejoined_moves
  exact moves.start

theorem rejoined_clock (s : State) : s.rejoined.clock = s.clock := by
  obtain ⟨_, _, moves⟩ := s.rejoined_moves
  exact moves.clock

theorem rejoined_isReporter (s : State) (sender : Station) (r : Report) : (s.stored sender r).rejoined.isReporter = s.isReporter := by
  unfold isReporter cfg own
  rw [rejoined_start]
  rfl

/-- A record offered among the events of the peer stands at the end. -/
theorem reportTaken_records {u : State} {m : Nat} {kind : EventKind} {subject : Nat} {values : List Word} (started : s.started = true)
    (start : u.start = s.start) (clock : u.clock = s.clock) (before : s.events.Grows m u.events)
    (after : (u.offerFrom sender kind subject values).events.records <+: (s.peerOffered sender r).events.records)
    (le : m + 1 ≤ 16 := by omega) :
    s.Records ((s.peerOffered sender r).observeReport sender r) 16 kind sender subject values := by
  obtain ⟨_, _, moves⟩ := s.reportTaken_moves sender r
  exact records_of_offerFrom started start before (after.trans ((s.peerOffered sender r).observeReport_reacts sender r).grows.1)
    (moves.clock.trans clock.symm) le

theorem reportTaken_joined {cause : Nat} (started : s.started = true) (reporter : s.isReporter = true)
    (joins : (s.table.entry sender).joinCause r = some cause) :
    s.Records ((s.peerOffered sender r).observeReport sender r) 16 .peerJoined sender (pumpStateCode r.pumpState)
      [BitVec.ofNat 32 cause, r.summary.setWidth 32] := by
  refine reportTaken_records (u := (s.stored sender r).rejoined) started (rejoined_start _) (rejoined_clock _) (stored_grows started ..) ?_
  rw [peerOffered, offerPeerEvents_of_join (by rw [rejoined_isReporter]; exact reporter) joins]

theorem peerOffered_of_known {old : Report} (reporter : s.isReporter = true) (joins : (s.table.entry sender).joinCause r = none)
    (seen : (s.table.entry sender).seen = some old) :
    s.peerOffered sender r =
      ((s.stored sender r).rejoined.offerPeerAlarm sender old r).offerPeerSpillEnd sender ((s.table.entry sender).spillEnded r) :=
  offerPeerEvents_of_known (by rw [rejoined_isReporter]; exact reporter) joins seen

theorem reportTaken_alarm {old : Report} (started : s.started = true) (reporter : s.isReporter = true)
    (joins : (s.table.entry sender).joinCause r = none) (seen : (s.table.entry sender).seen = some old) (changed : old.summary ≠ r.summary) :
    s.Records ((s.peerOffered sender r).observeReport sender r) 16 .peerAlarm sender (pumpStateCode r.pumpState)
      [old.summary.setWidth 32, r.summary.setWidth 32] := by
  refine reportTaken_records (u := (s.stored sender r).rejoined) started (rejoined_start _) (rejoined_clock _) (stored_grows started ..) ?_
  have alarm : (s.stored sender r).rejoined.offerPeerAlarm sender old r = _ := if_neg changed
  rw [peerOffered_of_known reporter joins seen, alarm]
  exact (offerPeerSpillEnd_grows ..).1

theorem reportTaken_spillEnd {old : Report} {w : WeirSection} (started : s.started = true) (reporter : s.isReporter = true)
    (joins : (s.table.entry sender).joinCause r = none) (seen : (s.table.entry sender).seen = some old)
    (ended : (s.table.entry sender).spillEnded r = some w) :
    s.Records ((s.peerOffered sender r).observeReport sender r) 16 .peerSpillEnd sender 0 [w.number.setWidth 32, w.volume.setWidth 32] := by
  obtain ⟨q, alarmed⟩ := (s.stored sender r).rejoined.offerPeerAlarm_eq sender old r
  refine reportTaken_records (u := (s.stored sender r).rejoined.offerPeerAlarm sender old r) (m := 15) started
    (by rw [alarmed]; exact rejoined_start _) (by rw [alarmed]; exact rejoined_clock _)
    ((stored_grows started ..).trans (offerPeerAlarm_grows ..)) ?_
  rw [peerOffered_of_known reporter joins seen, ended]
  exact List.prefix_refl _

/-- The flag and its cause at the end are those after isolated mode has ended, or not (R98). -/
theorem reportTaken_isolation (s : State) (sender : Station) (r : Report) :
    ((s.peerOffered sender r).observeReport sender r).table.isolated = (s.stored sender r).rejoined.table.isolated ∧
    ((s.peerOffered sender r).observeReport sender r).table.cause = (s.stored sender r).rejoined.table.cause ∧
    ((s.peerOffered sender r).observeReport sender r).rawOf .isolated = (s.stored sender r).rejoined.rawOf .isolated := by
  have after := (s.peerOffered sender r).observeReport_reacts sender r
  obtain ⟨q, offered⟩ := s.peerOffered_eq sender r
  have isolated := after.moves.isolated
  have cause := after.moves.cause
  have raw : ((s.peerOffered sender r).observeReport sender r).rawOf .isolated = (s.peerOffered sender r).rawOf .isolated := after.rawOf
  rw [isolated, cause, raw, offered]
  exact ⟨rfl, rfl, rfl⟩

theorem sequenced_duplicate (s : State) : s.sequenced.link.duplicate = s.link.duplicate := s.sequenced_keepsPort.duplicate

theorem rejoined_kept (runs : s.link.duplicate.isRunning = true) :
    s.rejoined.table.isolated = s.table.isolated ∧ s.rejoined.table.cause = s.table.cause := by
  rw [rejoined, endIsolation_of_kept (.inr (by rw [sequenced_duplicate]; exact runs))]
  exact ⟨s.sequenced_reacts.moves.isolated, s.sequenced_reacts.moves.cause⟩

theorem rejoined_ends (started : s.started = true) (stopped : s.link.duplicate.isRunning = false) :
    s.rejoined.table.isolated = false ∧
    (s.table.isolated = true → s.rejoined.table.cause = .none ∧ s.rejoined.rawOf .isolated = false) := by
  have moves := s.sequenced_reacts.moves
  by_cases alone : s.table.isolated = true
  · have still : s.sequenced.table.isolated = true := moves.isolated.trans alone
    rw [rejoined, endIsolation_of_ends still (by rw [sequenced_duplicate]; exact stopped)]
    obtain ⟨joined, cause⟩ := s.sequenced.setIsolated_table false .none
    exact ⟨joined, fun _ => ⟨cause, setIsolated_raw .none (moves.started.trans started) (by rw [still]; simp)⟩⟩
  · have joined : s.table.isolated = false := by simpa using alone
    rw [rejoined, endIsolation_of_kept (.inl (moves.isolated.trans joined))]
    exact ⟨moves.isolated.trans joined, fun h => absurd h alone⟩

/-- The pump and the window as the window is told, where the pump is out of duty. -/
theorem peerOffered_of_quiet (quiet : s.pump.state ∈ [PumpState.unconfigured, .startup, .off, .hand, .tripped, .inhibited]) :
    (s.peerOffered sender r).window = s.window ∧ (s.peerOffered sender r).pump.state ≠ .waiting := by
  obtain ⟨q, offered⟩ := s.peerOffered_eq sender r
  simp only [List.mem_cons, List.not_mem_nil, or_false] at quiet
  obtain ⟨pump, window⟩ := rejoined_of_quiet (s := s.stored sender r) (by
    show s.pump.state ∉ _
    rcases quiet with h | h | h | h | h | h <;> rw [h] <;> simp)
  rw [offered, withEvents_window, withEvents_pump, window, pump]
  refine ⟨rfl, fun waiting => ?_⟩
  have waits : s.pump.state = .waiting := waiting
  rw [waits] at quiet
  simp at quiet

end State

/-- Settles O39. -/
theorem reportsFillTheTable : Obligations.ReportsFillTheTable := by
  intro s sender r takes
  have working : s.working = true := takes.2.1
  have started := State.started_of_working working
  obtain ⟨flag, cause, moves⟩ := s.reportTaken_moves sender r
  obtain ⟨counts, limited⟩ := s.reportTaken_tallied sender r
  obtain ⟨isolated, becauseOf, raw⟩ := s.reportTaken_isolation sender r
  obtain ⟨q, offered⟩ := s.peerOffered_eq sender r
  have begun : (s.peerOffered sender r).started = true := by
    rw [offered, State.started, State.withEvents_start, State.rejoined_start]
    exact started
  obtain ⟨sent, spacing, lockout⟩ := State.observeReport_keeps begun sender r
  have kept := (s.stored sender r).rejoined_keepsPort
  have link : (s.peerOffered sender r).link.lastSender = sender := by rw [offered]; exact kept.lastSender
  have reporter (house : s.cfg.houseReporter = s.own.val) := State.isReporter_iff.mpr house
  refine ⟨_, State.exec_report takes, sent.trans link, ?_, fun p other => ?_, ?_, moves.generator, ?_, fun house => ⟨fun empty => ?_,
    fun lost => ?_⟩, fun old last house known => ?_, fun locked => ?_, fun runs => ?_, fun stopped => ?_, s.reportTaken_points sender r, counts,
    limited, moves.balance, fun quiet free => ?_, fun n best timer held quiet => ?_, moves.start, moves.clock, moves.pins, moves.chanW,
    moves.chanX, moves.floats, moves.screen, moves.spill, moves.town, moves.pending⟩
  · refine ((moves.entry sender).trans (s.stored_entry sender r)).trans
      (congrArg (fun missed => ({ (s.table.entry sender).store s.stamp r with missed := missed } : PeerEntry)) ?_)
    obtain ⟨e, he⟩ : ∃ e, e = s.table.entry sender := ⟨_, rfl⟩
    rw [← he]
    show e.missedAfter r = _
    cases state : e.state
    case empty => exact PeerEntry.missedAfter_of_unseen (PeerEntry.seen_of_unknown (.inl state))
    case lost => exact PeerEntry.missedAfter_of_unseen (PeerEntry.seen_of_unknown (.inr state))
    all_goals
      have seen : e.seen = e.last := PeerEntry.seen_of_known (by rw [state]; simp)
      cases last : e.last with
      | none => exact PeerEntry.missedAfter_of_unseen (seen.trans last)
      | some old => exact PeerEntry.missedAfter_of_seen (seen.trans last)
  · exact (moves.entry p).trans (s.stored_entry_other r other)
  · rw [moves.silence]
    show (if s.operating = true then Timer.start else s.table.silence) = _
    simp only [State.operating, beq_iff_eq]
    rfl
  · rw [spacing, offered]
    refine kept.spacing.trans ?_
    by_cases stops : (s.table.entry sender).stopsWith r = true
    · rw [if_pos (PeerEntry.stopsWith_iff.mp stops)]
      exact if_pos stops
    · rw [if_neg (mt PeerEntry.stopsWith_iff.mpr stops)]
      exact if_neg stops
  · exact State.reportTaken_joined started (reporter house) (PeerEntry.joinCause_of_empty empty)
  · exact State.reportTaken_joined started (reporter house) (PeerEntry.joinCause_of_lost lost)
  · have joins := PeerEntry.joinCause_of_known (r := r) known last
    have seen := (PeerEntry.seen_of_known known).trans last
    have stays (not : ¬ ((r.pumpState = .startup ∨ r.pumpState = .unconfigured) ∧
        ((old.pumpState ≠ .startup ∧ old.pumpState ≠ .unconfigured) ∨ (r.sequence = 0 ∧ old.sequence ≠ 0)))) :
        (s.table.entry sender).joinCause r = none := joins.trans (if_neg (mt (restarts_iff old r).mp not))
    refine ⟨fun restarts => ?_, fun not changed => ?_, fun was before now after not open_ closed same => ?_⟩
    · exact State.reportTaken_joined started (reporter house) (joins.trans (if_pos ((restarts_iff old r).mpr restarts)))
    · exact State.reportTaken_alarm started (reporter house) (stays not) seen changed
    · exact State.reportTaken_spillEnd started (reporter house) (stays not) seen (PeerEntry.spillEnded_of_ended seen before after open_ closed same)
  · have ends := State.rejoined_lockout (s := s.stored sender r) working locked
    rw [moves.lockoutFigure, lockout, offered, State.withEvents_pump]
    exact ends
  · obtain ⟨still, same⟩ := State.rejoined_kept (s := s.stored sender r) runs
    exact ⟨isolated.trans still, becauseOf.trans same⟩
  · obtain ⟨joined, ends⟩ := State.rejoined_ends (s := s.stored sender r) started stopped
    refine ⟨isolated.trans joined, fun alone => ?_⟩
    obtain ⟨none, fallen⟩ := ends alone
    exact ⟨becauseOf.trans none, raw.trans fallen⟩
  · obtain ⟨window, other⟩ := State.peerOffered_of_quiet (sender := sender) (r := r) quiet
    exact State.observeReport_of_free (by rw [window]; exact free) other
  · obtain ⟨window, other⟩ := State.peerOffered_of_quiet (sender := sender) (r := r) quiet
    rw [State.observeReport_of_held (by rw [window]; exact held) other, window]

end Sys2Proof.Machine
end
